-- ==== Sys2Proof/Word.lean ====
section
/-!
DEFINITION. The units of the motion link: a byte, the multi-byte fields of its layouts (10_formats), and a
delimited frame as the bytes between its marks.
-/
namespace Sys2Proof

/-- One byte of the motion link. -/
abbrev Byte := BitVec 8

/-- A two-byte field (velocities, CRCs, object indices, event codes). -/
abbrev Half := BitVec 16

/-- A four-byte field (positions, flag sets, parameter data). -/
abbrev Word := BitVec 32

/-- A delimited frame: sync word, kind, length, payload and trailer, in order of transmission (R150). -/
abbrev Frame := List Byte

end Sys2Proof
end

