-- ==== Sys2Proof/Syntax.lean ====
section
/-!
DEFINITION. The commands: one constructor for each row of spec/opcode_table.json. The table gives no operands;
those below are what the row's rule needs (log entry 4). An arrival carries the bytes gathered up to the end
mark of the delimited frame.
-/
namespace Sys2Proof

/-- The two link ports: the upstream port faces the controller, the downstream port the drives. -/
inductive Port where
  | upstream
  | downstream
  deriving DecidableEq, Repr

/-- What caused a cold reset (R190): power-on, or RESETn low for a number of microseconds. -/
inductive ResetCause where
  | powerOn
  | resetnLow (micros : Nat)
  deriving DecidableEq, Repr

/-- One command of the bridge: an arrival, a management command, a timer, a press or an internal completion. -/
inductive Instr where
  /-- R190: reset of every block; `release` is the level of HOLDn, low or not, at the end of the reset (R97), absent
  where the bridge stays in reset. -/
  | coldReset (cause : ResetCause) (release : Option Bool)
  /-- R151: end mark of a frame that fails a port check. -/
  | badFrame (port : Port) (bytes : Frame)
  /-- R153, R154: end mark of a good frame of unknown kind, without a segment or node, or that does not fit. -/
  | unknownKindFrame (port : Port) (bytes : Frame)
  /-- R160, R161: end mark of an ignored frame on the upstream port. -/
  | ignoredFrame (bytes : Frame)
  /-- R164: end mark of a transit frame on the upstream port. -/
  | transitFrame (bytes : Frame)
  /-- R165, R169: end mark of a frame on the downstream port that no block takes in. -/
  | upstreamBoundFrame (bytes : Frame)
  /-- R162: end mark of a local SETPOINT on the upstream port. -/
  | localSetpointArrival (bytes : Frame)
  /-- R15, R162: processing of the oldest waiting local setpoint frame. -/
  | localSetpointProcessing
  /-- R60: an axis whose freshness count exceeds the stale limit becomes STALE. -/
  | axisBecomesStale (axis : Nat)
  /-- R140: the request in flight times out. -/
  | deferredTimeout
  /-- R141: entries whose discard countdown has reached 0 are freed. -/
  | discardExpiry
  /-- R155: a port begins to transmit the frame at the head of its queue. -/
  | transmitFrame (port : Port)
  /-- R55: end mark of a FEEDBACK on the downstream port. -/
  | feedbackArrival (bytes : Frame)
  /-- R91: end mark of a WEATHER on the downstream port. -/
  | weatherArrival (bytes : Frame)
  /-- R93: the weather freshness timer expires. -/
  | weatherTimerExpiry
  /-- R166: end mark of an EVENT on the downstream port. -/
  | eventArrival (bytes : Frame)
  /-- R136: end mark of a PARAM-RSP on the downstream port. -/
  | paramRspArrival (bytes : Frame)
  /-- R132: end mark of a PARAM-REQ on the upstream port. -/
  | paramReqArrival (bytes : Frame)
  /-- R114: end mark of a MGMT-REQ carrying TABLE WRITE. -/
  | tableWrite (bytes : Frame)
  /-- R116: end mark of a MGMT-REQ carrying TABLE READ. -/
  | tableRead (bytes : Frame)
  /-- R117: end mark of a MGMT-REQ carrying COPY ACTIVE. -/
  | copyActive (bytes : Frame)
  /-- R118: end mark of a MGMT-REQ carrying DISCARD PENDING. -/
  | discardPending (bytes : Frame)
  /-- R119: end mark of a MGMT-REQ carrying ACTIVATE. -/
  | activate (bytes : Frame)
  /-- R121: verification completes. -/
  | verificationCompletion
  /-- R11: end mark of a MGMT-REQ carrying GANG HOLD. -/
  | gangHold (bytes : Frame)
  /-- R11: end mark of a MGMT-REQ carrying GANG RELEASE. -/
  | gangRelease (bytes : Frame)
  /-- R26: end mark of a MGMT-REQ carrying CLEAR TRIP. -/
  | clearTrip (bytes : Frame)
  /-- R178: end mark of a MGMT-REQ carrying CLEAR FLAGS. -/
  | clearFlags (bytes : Frame)
  /-- R149: end mark of a MGMT-REQ carrying CLEAR SATURATION. -/
  | clearSaturation (bytes : Frame)
  /-- R71: end mark of a MGMT-REQ carrying READ AXIS. -/
  | readAxis (bytes : Frame)
  /-- R185: end mark of a MGMT-REQ carrying READ GANG. -/
  | readGang (bytes : Frame)
  /-- R143: end mark of a MGMT-REQ carrying READ DEFERRED. -/
  | readDeferred (bytes : Frame)
  /-- R186: end mark of a MGMT-REQ carrying RESTART. -/
  | restart (bytes : Frame)
  /-- R184: end mark of a MGMT-REQ whose command value names no command. -/
  | unknownCommand (bytes : Frame)
  /-- R186: the warm restart is made. -/
  | warmRestart
  /-- R128: the refresh completes. -/
  | refreshCompletion
  /-- R126: bytes of the image of the active bank (offset, new value) are altered from outside. -/
  | bankUpset (changes : List (Nat × Byte))
  /-- R173: the watchdog timer runs out. -/
  | watchdogExpiry
  /-- R174: the substitute timer runs out. -/
  | substituteTimerExpiry
  /-- R20: the prewarn timer of a gang runs out. -/
  | prewarnExpiry (gang : Nat)
  /-- R98: HOLDn goes low. -/
  | pressStart
  /-- R98: the press time reaches 60 ms. -/
  | debounceExpiry
  /-- R99: HOLDn goes high. -/
  | pressRelease
  /-- R100: the press time reaches the long-press time. -/
  | longPress
  /-- R104: the on time of a flashing line ends. -/
  | warnOnTimeEnd (line : Nat)
  /-- R104: the flash period of a flashing line ends. -/
  | warnPeriodEnd (line : Nat)
  /-- R150: the begin mark of a frame. -/
  | beginMark (port : Port)
  deriving DecidableEq, Repr

end Sys2Proof
end

