-- ==== Sys2Proof/Machine/Bytes.lean ====
section
/-!
DEFINITION. Byte order, bit fields, signed fields and the CRC of the motion link (R152, R188, chapter 10:
multi-byte fields most significant byte first, signed fields two's complement), and the integer operations the
rules share (chapter 0: saturation, clamping, division truncated toward zero).
-/
namespace Sys2Proof.Machine

/-! ### Reading fields -/

/-- The byte at an offset (0 beyond the end). -/
def u8 (bytes : List Byte) (i : Nat) : Byte := bytes.getD i 0

/-- The two-byte field at an offset. -/
def u16 (bytes : List Byte) (i : Nat) : Half := u8 bytes i ++ u8 bytes (i + 1)

/-- The four-byte field at an offset. -/
def u32 (bytes : List Byte) (i : Nat) : Word :=
  u8 bytes i ++ u8 bytes (i + 1) ++ u8 bytes (i + 2) ++ u8 bytes (i + 3)

/-! ### Writing fields -/

/-- The bytes of a two-byte field, most significant first. -/
def bytes16 (w : Half) : List Byte := [w.extractLsb' 8 8, w.extractLsb' 0 8]

/-- The bytes of a four-byte field, most significant first. -/
def bytes32 (w : Word) : List Byte :=
  [w.extractLsb' 24 8, w.extractLsb' 16 8, w.extractLsb' 8 8, w.extractLsb' 0 8]

/-- The bytes of an eight-byte field, most significant first. -/
def bytes64 (w : BitVec 64) : List Byte :=
  bytes32 (w.extractLsb' 32 32) ++ bytes32 (w.extractLsb' 0 32)

/-- Four data bytes as one field, the first most significant (section 10.4). -/
def word4 (a b c d : Byte) : Word := a ++ b ++ c ++ d

/-- A flag as a byte with that bit. -/
def bitByte (b : Bool) (i : Nat) : Byte := if b then 1#8 <<< i else 0#8

/-- A natural number in one byte. -/
def byteOf (n : Nat) : Byte := BitVec.ofNat 8 n

/-- A byte with one bit replaced. -/
def withBit (b : Byte) (i : Nat) (v : Bool) : Byte := (b &&& ~~~(1#8 <<< i)) ||| bitByte v i

/-! ### The link CRC -/

/-- One bit of the CRC with polynomial x^16 + x^12 + x^5 + 1, most significant bit first (R152). -/
def crcBit (crc : Half) : Half := if crc.msb then (crc <<< 1) ^^^ 0x1021#16 else crc <<< 1

/-- One byte of the CRC, without reflection (R152). -/
def crcByte (crc : Half) (b : Byte) : Half :=
  crcBit (crcBit (crcBit (crcBit (crcBit (crcBit (crcBit (crcBit (crc ^^^ (b ++ 0#8)))))))))

/-- The link CRC: initial value all ones, no final inversion (R152); the same computation serves the bank image
(R120). -/
def linkCrc (bytes : List Byte) : Half := bytes.foldl crcByte 0xFFFF#16

/-! ### Integers -/

/-- A quantity clamped to [lo, hi] (chapter 0, Arithmetic). -/
def clamp (lo hi v : Int) : Int := min hi (max lo v)

/-- A common position saturated at ±2,000,000,000 (R54). -/
def saturate (v : Int) : Int := clamp (-2000000000) 2000000000 v

/-- A raw velocity field as an integer, −32,768 taken as −32,767 (R35, R54, log entry 19). -/
def velocityOf (raw : Half) : Int := if raw.toInt = -32768 then -32767 else raw.toInt

/-- The sign of an integer: +1, −1 or 0. -/
def signOf (v : Int) : Int := if v > 0 then 1 else if v < 0 then -1 else 0

end Sys2Proof.Machine
end

