-- ==== Sys2Proof/Config.lean ====
section
/-!
DEFINITION. What the part fixes (sizes the spec states) and the free values: opaque constants for what the spec
leaves open. All the free values concern rows damaged by an upset (R126) that no verified bank holds
(log entries 9 and 10); nothing is known of them but their type.
-/
namespace Sys2Proof.Config

/-- Places of a transmit queue (R155). -/
def transmitDepth : Nat := 16

/-- Places of the event queue (R180). -/
def eventDepth : Nat := 32

/-- Local setpoint frames that can wait at once (R162). -/
def waitingDepth : Nat := 4

/-- Entries of the deferred request table (R130). -/
def deferredDepth : Nat := 8

/-- Axis rows, gang rows and interlock rows of a bank (R107). -/
def axisRows : Nat := 64

/-- Gang rows of a bank (R107). -/
def gangRows : Nat := 8

/-- Interlock rows of a bank (R107). -/
def interlockRows : Nat := 16

/-- Warning lines (R102). -/
def warningLines : Nat := 4

/-- Bytes of the bank image (R120, section 10.5). -/
def imageBytes : Nat := 1068

/-- FREE VALUE (log entry 9): the watchdog timeout, in ms, that a code above 7 selects. -/
opaque watchdogTimeoutOpen : Nat → Nat

/-- FREE VALUE (log entry 9): the long-press time, in ms, that a code above 3 selects. -/
opaque longPressOpen : Nat → Nat

/-- FREE VALUE (log entry 9): the flash period, in ms, that a code above 3 selects. -/
opaque flashPeriodOpen : Nat → Nat

/-- FREE VALUE (log entry 9): the quotient (1000 × e) / B of the skew trim when the trim band B is 0. -/
opaque trimQuotientOpen : Int → Int

/-- FREE VALUE (log entry 9): the last forwarded velocity p of an axis that has no forwarding record, as a velocity
field; the arguments are the draw number and the axis row. -/
opaque orphanLast : Nat → Nat → BitVec 16

/-- FREE VALUE (log entry 9): the velocity before the cruise bound of an axis whose gang has no record, as a velocity
field; the arguments are the draw number and the axis row. -/
opaque orphanVelocity : Nat → Nat → BitVec 16

/-- FREE VALUE (log entry 9): the ENABLE bit of a substitute slot whose axis has no forwarding record. -/
opaque orphanEnable : Nat → Nat → Bool

/-- FREE VALUE (log entry 10): does the refresh in flight still read the byte at an image offset that an upset
alters now; the arguments are the draw number and the offset. -/
opaque upsetSeen : Nat → Nat → Bool

end Sys2Proof.Config
end

