-- ==== Sys2Proof/Machine/State.lean ====
section
/-!
DEFINITION. Everything the spec gives the bridge to hold, as plain data, and its value after a cold reset. Rows of
the banks are kept in the layout of section 10.5, so that every image an upset can make (R126) is a value;
runtime records hold the integers the rules speak of.
-/
namespace Sys2Proof.Machine

/-! ### Reasons to stop -/

/-- The bridge has no fault: whatever the rules describe has a next state. No constructor, so nothing raises one
(safe). -/
inductive Fault where
  deriving DecidableEq, Repr

/-- Reasons a command has no meaning. -/
inductive Refusal where
  /-- Raised by an arm of `exec` whose command has no meaning yet; no arm does (safe). -/
  | notModelled (mnemonic : String)
  deriving DecidableEq, Repr

/-! ### Ports and frames (chapter 8) -/

/-- Receive state of a port (R150): between frames, or inside one with the bytes taken so far. -/
inductive RxState where
  | idle
  | receiving (taken : List Byte)
  deriving DecidableEq, Repr

/-- One link port: its receive state (R150), its transmit queue, oldest first (R155), and the frame whose
transmission began last (the model's view of the line, log entry 24). -/
structure PortState where
  rx : RxState
  queue : List Frame
  onLine : Option Frame
  deriving DecidableEq, Repr

/-- Where a local setpoint frame came from (R162, R174); a controller frame keeps its arrival time. -/
inductive Origin where
  | controller (arrivedAt : Nat)
  | substitute
  deriving DecidableEq, Repr

/-- A local setpoint frame that waits for its processing (R162). -/
structure WaitingFrame where
  origin : Origin
  bytes : Frame
  deriving DecidableEq, Repr

/-! ### Table rows in their layouts (R109 to R112, section 10.5) -/

/-- Record of one warning line in a config row (R102). -/
structure LineRow where
  mask : Byte
  period : Byte
  duty : Byte
  deriving DecidableEq, Repr

/-- The config row (R109); `options` holds the on/off fields in the bits of section 10.5. -/
structure ConfigRow where
  upstreamSegment : Byte
  segment : Byte
  subordinate : Byte
  node : Byte
  options : Byte
  timeoutCode : Byte
  staleLimit : Byte
  weatherNode : Byte
  t1 : Half
  t2 : Half
  t3 : Half
  hysteresis : Byte
  longPressCode : Byte
  faultMask : Word
  protectedLo : Half
  protectedHi : Half
  warn0 : LineRow
  warn1 : LineRow
  warn2 : LineRow
  warn3 : LineRow
  deriving DecidableEq, Repr

/-- An axis row (R110); `flags` holds valid, sign, tier, echo check and read-back. -/
structure AxisRow where
  flags : Byte
  node : Byte
  gang : Byte
  offset : Word
  deriving DecidableEq, Repr

/-- A gang row (R111). -/
structure GangRow where
  validByte : Byte
  ceiling : Half
  breakaway : Half
  approach : Word
  band : Half
  floor : Byte
  tripLimit : Half
  slewStep : Half
  holdStep : Half
  settleVelocity : Half
  settleCycles : Byte
  wind0 : Byte
  wind1 : Byte
  wind2 : Byte
  wind3 : Byte
  permission : Byte
  envelopeLow : Word
  envelopeHigh : Word
  prewarn : Byte
  deriving DecidableEq, Repr

/-- An interlock row (R112). -/
structure InterlockRow where
  validByte : Byte
  subject : Byte
  protectedLow : Word
  protectedHigh : Word
  condition : Byte
  conditionLow : Word
  conditionHigh : Word
  deriving DecidableEq, Repr

/-- A bank: one config row, 64 axis rows, 8 gang rows and 16 interlock rows (R107). -/
structure Bank where
  config : ConfigRow
  axes : List AxisRow
  gangs : List GangRow
  interlocks : List InterlockRow
  deriving DecidableEq, Repr

/-- State of the pending bank (R108). -/
inductive PendingState where
  | editing
  | verifying
  | readyToSwap
  deriving DecidableEq, Repr

/-! ### Runtime records (chapters 1 to 4) -/

/-- Axis runtime record (R53). -/
structure AxisRec where
  reported : Bool
  rawPosition : Int
  rawVelocity : Int
  position : Int
  velocity : Int
  ready : Bool
  fault : Bool
  eventPending : Bool
  echoedCycle : Byte
  freshness : Nat
  stale : Bool
  echoCount : Nat
  echoFault : Bool
  start : Option Int
  deriving DecidableEq, Repr

/-- Forwarding record (R30): p, the two raw values and the last forwarded ENABLE. `fromRest` is the model's own: a swap
has put the axis into a gang newly valid and no slot has been forwarded for it since, so that its p starts at 0 while the
record stands unchanged (R29, log entry 25). -/
structure ForwardRec where
  velocity : Int
  recentRaw : Int
  previousRaw : Int
  enable : Bool
  fromRest : Bool
  deriving DecidableEq, Repr

/-- The nine gang states (R4). -/
inductive GangState where
  | idle
  | prewarn
  | breakaway
  | cruise
  | approach
  | settle
  | holding
  | held
  | tripped
  deriving DecidableEq, Repr

/-- The eight hold causes (R5). -/
inductive HoldCause where
  | watchdog
  | operator
  | wind
  | stale
  | notReady
  | command
  | interlock
  | restart
  deriving DecidableEq, Repr

/-- A set of hold causes (R5). -/
structure HoldSet where
  watchdog : Bool
  operator : Bool
  wind : Bool
  stale : Bool
  notReady : Bool
  command : Bool
  interlock : Bool
  restart : Bool
  deriving DecidableEq, Repr

/-- The four trip causes (R13). -/
inductive TripCause where
  | skew
  | echo
  | driveFault
  | overtravel
  deriving DecidableEq, Repr

/-- A set of trip causes (R13). -/
structure TripSet where
  skew : Bool
  echo : Bool
  driveFault : Bool
  overtravel : Bool
  deriving DecidableEq, Repr

/-- Gang runtime record (R3). `recovery` is the recovery skew, present exactly while the RECOVERY marker is set;
`prewarnLeft` is the prewarn timer's time left in ms, absent while it is stopped; a timer at 0 has run out and its
expiry is due (log entry 3). -/
structure GangRec where
  state : GangState
  holds : HoldSet
  trips : TripSet
  firstTrip : Option TripCause
  direction : Int
  skew : Nat
  currentCeiling : Int
  recovery : Option Nat
  prewarnLeft : Option Nat
  prewarnDone : Bool
  settleCount : Nat
  deriving DecidableEq, Repr

/-- What supplied an effective fence (R72). -/
inductive FenceSource where
  | envelope
  | row (index : Nat)
  | absent
  deriving DecidableEq, Repr

/-- Fence result (R72); the two row sets are lists in rising order. -/
structure FenceResult where
  lead : Option Nat
  leadPosition : Option Int
  fence : Option Int
  source : FenceSource
  remaining : Option Int
  blocking : List Nat
  inside : List Nat
  deriving DecidableEq, Repr

/-! ### Site inputs (chapter 5) -/

/-- Press state (R97). -/
inductive PressState where
  | released
  | debounce
  | armed
  | long
  deriving DecidableEq, Repr

/-- Demand of a warning line (R102). -/
inductive LineDemand where
  | steady
  | fast
  | own
  | off
  deriving DecidableEq, Repr

/-- Generator of a warning line (R102): demand, time within the flash period in ms, output level. -/
structure LineGen where
  demand : LineDemand
  time : Nat
  level : Bool
  deriving DecidableEq, Repr

/-! ### Deferred requests and the arbiter (chapter 7) -/

/-- Key of a deferred request (R130). -/
structure ParamKey where
  node : Byte
  object : Half
  subindex : Byte
  write : Bool
  data : Option Word
  deriving DecidableEq, Repr

/-- Result of a COMPLETE entry (R131); the reason stands with DRIVE_REFUSED alone. -/
inductive DeferredResult where
  | ok
  | driveRefused (reason : Half)
  | noAnswer
  | writeMismatch
  | moving
  deriving DecidableEq, Repr

/-- State of an entry with the fields present in it (R131). -/
inductive DeferredStatus where
  | queued
  | issued (frames : Nat)
  | readbackDue
  | readbackSent (frames : Nat)
  | complete (result : DeferredResult) (data : Option Word) (countdown : Nat)
  deriving DecidableEq, Repr

/-- Entry of the deferred request table (R131). -/
structure DeferredEntry where
  key : ParamKey
  status : DeferredStatus
  deriving DecidableEq, Repr

/-- Positions of the HIGH rotation (R144). -/
inductive HighPointer where
  | bridge
  | row (index : Nat)
  | low
  deriving DecidableEq, Repr

/-- Open grant (R148). -/
structure OpenGrant where
  row : Nat
  node : Byte
  seen : Bool
  deriving DecidableEq, Repr

/-- Consecutive-event count and saturation mark of an axis row (R144). -/
structure GrantRec where
  count : Nat
  saturated : Bool
  deriving DecidableEq, Repr

/-! ### Supervisor (chapter 9) -/

/-- Watchdog state (R171). -/
inductive WatchdogState where
  | stopped
  | running
  | substituting
  | latched
  deriving DecidableEq, Repr

/-- The 24 sticky flags (R177). -/
inductive Flag where
  | linkSyncU
  | linkSyncD
  | linkLengthU
  | linkLengthD
  | linkCrcU
  | linkCrcD
  | frameKind
  | watchdog
  | skewTrip
  | overtravel
  | echo
  | driveFault
  | stale
  | unknownAxis
  | eventLost
  | eventSaturated
  | deferredDiscard
  | activateFail
  | tableCrc
  | invalidMgmt
  | weatherStale
  | pressShort
  | pressLong
  | resetOccurred
  deriving DecidableEq, Repr

/-- Source of an event record (R180). -/
inductive EventSource where
  | bridge
  | node (address : Byte)
  deriving DecidableEq, Repr

/-- Event record (R180). -/
structure EventRecord where
  source : EventSource
  code : Half
  gang : Option Nat
  data : Option Word
  cycle : Byte
  deriving DecidableEq, Repr

/-! ### The whole machine -/

/-- What acts only when the local setpoint frame in its processing completes. -/
inductive Due where
  /-- A RESTART, with its answer where that is owed still: it then follows the effects of an earlier one (R187). -/
  | restart (owed : Option Frame)
  /-- A completion of the verification (R121). -/
  | verification
  /-- A completion of the refresh, with the rows its computation has read (R128). -/
  | refresh (read : Bank)
  /-- A CLEAR SATURATION of an axis row (R149). -/
  | saturation (row : Nat)
  deriving DecidableEq, Repr

/-- The bridge. Lists of records are indexed by row: 64 axis places, 8 gang places, 4 lines. -/
structure State where
  /-- Commands that wait, first in first out (the model's own). -/
  pending : List Instr
  /-- Internal time base in ms (chapter 0, log entries 2 and 7). -/
  now : Nat
  /-- Draw number of the free values (the model's own, log entry 8). -/
  draws : Nat
  /-- Upstream port (R150, R155). -/
  up : PortState
  /-- Downstream port (R150, R155). -/
  down : PortState
  /-- Local setpoint frames that wait for processing, oldest first (R162). -/
  waiting : List WaitingFrame
  /-- Active bank PRESENT (R108). -/
  bankPresent : Bool
  /-- Rows of the bank that is not pending; they govern while `bankPresent` (R107). -/
  active : Bank
  /-- Verified CRC of the active bank (R107, R108). -/
  verifiedCrc : Option Half
  /-- Rows of the pending bank (R107). -/
  pendingBank : Bank
  /-- Pending bank state (R108). -/
  pendingState : PendingState
  /-- Expected CRC, present while VERIFYING (R108, R119). -/
  expectedCrc : Option Half
  /-- Verified CRC of a pending bank that waits for the swap (R123). -/
  pendingCrc : Option Half
  /-- The refresh: present while RUNNING, with the rows its computation reads (R108, R126, log entry 10). -/
  refresh : Option Bank
  /-- Axis runtime records by axis row (R52). -/
  axes : List (Option AxisRec)
  /-- Forwarding records by axis row (R30). -/
  forwards : List (Option ForwardRec)
  /-- Reported-node set of unknown-axis slots (R33). -/
  reportedNodes : List Byte
  /-- Gang runtime records by gang row (R1). -/
  gangs : List (Option GangRec)
  /-- Fence results by gang row (R72). -/
  fences : List (Option FenceResult)
  /-- Wind class 0 to 3 (R89). -/
  windClass : Nat
  /-- Weather stale mark (R89). -/
  weatherStale : Bool
  /-- Weather freshness timer, ms left, absent while stopped (R89); at 0 its expiry is due (log entry 3). -/
  weatherTimer : Option Nat
  /-- Press state (R97). -/
  press : PressState
  /-- Press time in ms (R97). -/
  pressTime : Nat
  /-- Long-press time of the press in ms (R97). -/
  longTime : Nat
  /-- Operator-hold mark (R97). -/
  operatorHold : Bool
  /-- Warning line generators WARN0 to WARN3 (R102). -/
  lines : List LineGen
  /-- Deferred request table in latch order (R130). -/
  deferred : List DeferredEntry
  /-- Backoff count (R130). -/
  backoff : Nat
  /-- HIGH pointer (R144). -/
  highPtr : HighPointer
  /-- LOW pointer, absent at START (R144). -/
  lowPtr : Option Nat
  /-- Open grant (R144). -/
  openGrant : Option OpenGrant
  /-- Consecutive-event count and saturation mark by axis row (R144). -/
  grantRecs : List GrantRec
  /-- Watchdog state (R171). -/
  watchdog : WatchdogState
  /-- Watchdog timer, ms left, absent while stopped (R171); at 0 its expiry is due (log entry 3). -/
  watchdogTimer : Option Nat
  /-- Older arrival time of the history (R171). -/
  olderArrival : Option Nat
  /-- Newer arrival time of the history (R171). -/
  newerArrival : Option Nat
  /-- Substitute timer, ms left, absent while stopped (R171); at 0 its expiry is due (log entry 3). -/
  substituteTimer : Option Nat
  /-- Last cycle number (R171). -/
  lastCycle : Byte
  /-- Sticky flags in the bits of section 10.4 (R177). -/
  flags : BitVec 24
  /-- Event queue, oldest first (R180). -/
  events : List EventRecord
  /-- What has been taken while a local setpoint frame is in its processing and acts at its completion, in the order
  taken (R121, R128, R149, R187). -/
  due : List Due
  /-- The wind class in force when the processing of the oldest waiting frame began, where the class has changed since;
  absent otherwise (R41, R94). -/
  frameClass : Option Nat
  /-- The bridge stays in reset: RESETn low, or the supply below its operating range (R190). -/
  inReset : Bool
  /-- The level of the HOLDn pin: low while the button is pressed (R97, 10.6). -/
  holdnLow : Bool
  /-- A change of HOLDn has been taken at the sample of this millisecond (R190). -/
  sampled : Bool
  /-- The FAULTn pin is driven low (R179). -/
  faultnLow : Bool
  deriving DecidableEq, Repr

/-! ### Values after a cold reset -/

/-- Default line record: mask empty, period code 2 (1,000 ms), duty 4 (R109). -/
def defaultLine : LineRow := { mask := 0, period := 2, duty := 4 }

/-- Default config row (R109, section 10.5: options 0x07). -/
def defaultConfig : ConfigRow :=
  { upstreamSegment := 0, segment := 0, subordinate := 0, node := 126, options := 0x07, timeoutCode := 4,
    staleLimit := 4, weatherNode := 120, t1 := 100, t2 := 150, t3 := 200, hysteresis := 10, longPressCode := 1,
    faultMask := 0, protectedLo := 0x2000, protectedHi := 0x20FF,
    warn0 := defaultLine, warn1 := defaultLine, warn2 := defaultLine, warn3 := defaultLine }

/-- An invalid axis row: all zero (R115). -/
def invalidAxis : AxisRow := { flags := 0, node := 0, gang := 0, offset := 0 }

/-- An invalid gang row: all zero (R115). -/
def invalidGang : GangRow :=
  { validByte := 0, ceiling := 0, breakaway := 0, approach := 0, band := 0, floor := 0, tripLimit := 0,
    slewStep := 0, holdStep := 0, settleVelocity := 0, settleCycles := 0, wind0 := 0, wind1 := 0, wind2 := 0,
    wind3 := 0, permission := 0, envelopeLow := 0, envelopeHigh := 0, prewarn := 0 }

/-- An invalid interlock row: all zero (R115). -/
def invalidInterlock : InterlockRow :=
  { validByte := 0, subject := 0, protectedLow := 0, protectedHigh := 0, condition := 0, conditionLow := 0,
    conditionHigh := 0 }

/-- The contents cold reset and DISCARD PENDING leave in a bank (R107, R118). -/
def defaultBank : Bank :=
  { config := defaultConfig
    axes := List.replicate Config.axisRows invalidAxis
    gangs := List.replicate Config.gangRows invalidGang
    interlocks := List.replicate Config.interlockRows invalidInterlock }

/-- A port after cold reset (R150, R155). -/
def resetPort : PortState := { rx := .idle, queue := [], onLine := none }

/-- A warning line that is off (R102, R104). -/
def offLine : LineGen := { demand := .off, time := 0, level := false }

/-- No consecutive event and no saturation (R144). -/
def clearGrant : GrantRec := { count := 0, saturated := false }

/-- The bridge right after a cold reset with HOLDn high: each block's own reset rule (R68, R88, R89, R97, R102,
R107, R108, R130, R144, R150, R155, R171, R177, R181), with RESET_OCCURRED set and FAULTn low (R179). -/
def State.reset : State :=
  { pending := [], now := 0, draws := 0, up := resetPort, down := resetPort, waiting := []
    bankPresent := false, active := defaultBank, verifiedCrc := none
    pendingBank := defaultBank, pendingState := .editing, expectedCrc := none, pendingCrc := none, refresh := none
    axes := List.replicate Config.axisRows none
    forwards := List.replicate Config.axisRows none
    reportedNodes := []
    gangs := List.replicate Config.gangRows none
    fences := List.replicate Config.gangRows none
    windClass := 3, weatherStale := true, weatherTimer := none
    press := .released, pressTime := 0, longTime := 3000, operatorHold := false
    lines := List.replicate Config.warningLines offLine
    deferred := [], backoff := 0
    highPtr := .low, lowPtr := none, openGrant := none
    grantRecs := List.replicate Config.axisRows clearGrant
    watchdog := .stopped, watchdogTimer := none, olderArrival := none, newerArrival := none
    substituteTimer := none, lastCycle := 0
    flags := 0x800000, events := [], due := [], frameClass := none
    inReset := false, holdnLow := false, sampled := false, faultnLow := true }

end Sys2Proof.Machine
end

