-- ==== Sys2Proof/Machine/Rows.lean ====
section
/-!
DEFINITION. What the fields of the table rows mean (R109 to R112), the ranges TABLE WRITE accepts, the layouts of
the rows and the bank image (section 10.5, R120), and which axes belong to which gang (R1).
-/
namespace Sys2Proof.Machine

/-! ### Config row -/

/-- CRC check enable of a port (R152). -/
def ConfigRow.crcEnabled (c : ConfigRow) : Port → Bool
  | .upstream => c.options.getLsbD 0
  | .downstream => c.options.getLsbD 1

/-- Watchdog enable (R109). -/
def ConfigRow.watchdogEnabled (c : ConfigRow) : Bool := c.options.getLsbD 2

/-- Kick-on-management (R163). -/
def ConfigRow.kickOnManagement (c : ConfigRow) : Bool := c.options.getLsbD 3

/-- Read-back enable for nodes with no axis row (R137). -/
def ConfigRow.readBackOthers (c : ConfigRow) : Bool := c.options.getLsbD 4

/-- Discard period in cycles (R141). -/
def ConfigRow.discardPeriod (c : ConfigRow) : Nat := if c.options.getLsbD 5 then 64 else 1024

/-- Watchdog timeout in ms (R109, R171). -/
def ConfigRow.watchdogTimeout (c : ConfigRow) : Nat :=
  match c.timeoutCode.toNat with
  | 0 => 10
  | 1 => 20
  | 2 => 50
  | 3 => 100
  | 4 => 200
  | 5 => 500
  | 6 => 1000
  | 7 => 2000
  | code => Config.watchdogTimeoutOpen code

/-- Long-press time in ms (R109, R98). -/
def ConfigRow.longPressTime (c : ConfigRow) : Nat :=
  match c.longPressCode.toNat with
  | 0 => 2000
  | 1 => 3000
  | 2 => 4000
  | 3 => 5000
  | code => Config.longPressOpen code

/-- Threshold of a wind class 1 to 3 (R91). -/
def ConfigRow.windThreshold (c : ConfigRow) (cls : Nat) : Int :=
  if cls ≤ 1 then (c.t1.toNat : Int) else if cls = 2 then (c.t2.toNat : Int) else (c.t3.toNat : Int)

/-- Protected object range, both ends included (R132). -/
def ConfigRow.isProtected (c : ConfigRow) (object : Half) : Bool :=
  decide (c.protectedLo.toNat ≤ object.toNat) && decide (object.toNat ≤ c.protectedHi.toNat)

/-- Record of a warning line (R102). -/
def ConfigRow.line (c : ConfigRow) (i : Nat) : LineRow :=
  if i = 0 then c.warn0 else if i = 1 then c.warn1 else if i = 2 then c.warn2 else c.warn3

/-- Flash period in ms (R109). -/
def LineRow.periodMs (r : LineRow) : Nat :=
  match r.period.toNat with
  | 0 => 250
  | 1 => 500
  | 2 => 1000
  | 3 => 2000
  | code => Config.flashPeriodOpen code

/-- On time in ms: period × duty / 8, truncated (R104). -/
def LineRow.onMs (r : LineRow) : Nat := r.periodMs * r.duty.toNat / 8

/-- Does the line watch the gang (R102)? -/
def LineRow.watches (r : LineRow) (g : Nat) : Bool := r.mask.getLsbD g

/-- Range of a line record (R109). -/
def LineRow.inRange (r : LineRow) : Bool :=
  decide (r.period.toNat ≤ 3) && decide (1 ≤ r.duty.toNat) && decide (r.duty.toNat ≤ 8)

/-! ### Axis row -/

/-- The row is valid (R107). -/
def AxisRow.valid (r : AxisRow) : Bool := r.flags.getLsbD 0

/-- Mounting sign, +1 or −1 (R110). -/
def AxisRow.sign (r : AxisRow) : Int := if r.flags.getLsbD 1 then -1 else 1

/-- Tier LOW; clear means HIGH (R110). -/
def AxisRow.lowTier (r : AxisRow) : Bool := r.flags.getLsbD 2

/-- Echo check enable (R64). -/
def AxisRow.echoCheck (r : AxisRow) : Bool := r.flags.getLsbD 3

/-- Read-back enable (R137). -/
def AxisRow.readBack (r : AxisRow) : Bool := r.flags.getLsbD 4

/-- Offset (R110). -/
def AxisRow.offsetInt (r : AxisRow) : Int := r.offset.toInt

/-! ### Gang row -/

/-- The row is valid (R107). -/
def GangRow.valid (r : GangRow) : Bool := r.validByte.getLsbD 0

/-- Cruise ceiling C. -/
def GangRow.cruise (r : GangRow) : Int := r.ceiling.toNat

/-- Creep: C/10 truncated, and 1 when that is 0 (R40). -/
def GangRow.creep (r : GangRow) : Int := max 1 (r.cruise.tdiv 10)

/-- Breakaway distance. -/
def GangRow.breakawayDistance (r : GangRow) : Int := r.breakaway.toNat

/-- Approach distance A. -/
def GangRow.approachDistance (r : GangRow) : Int := r.approach.toNat

/-- Trim band B. -/
def GangRow.trimBand (r : GangRow) : Int := r.band.toNat

/-- Trim floor F in percent. -/
def GangRow.trimFloor (r : GangRow) : Int := r.floor.toNat

/-- Skew trip limit K. -/
def GangRow.skewLimit (r : GangRow) : Nat := r.tripLimit.toNat

/-- Slew step Sg. -/
def GangRow.slew (r : GangRow) : Int := r.slewStep.toNat

/-- Hold step Hg. -/
def GangRow.hold (r : GangRow) : Int := r.holdStep.toNat

/-- Settle velocity. -/
def GangRow.settleSpeed (r : GangRow) : Int := r.settleVelocity.toNat

/-- Wind percent W for a wind class (R41). -/
def GangRow.windPercent (r : GangRow) (cls : Nat) : Int :=
  (if cls = 0 then r.wind0 else if cls = 1 then r.wind1 else if cls = 2 then r.wind2 else r.wind3).toNat

/-- Wind permission (R9). -/
def GangRow.windPermission (r : GangRow) : Nat := r.permission.toNat

/-- Envelope low bound (R75). -/
def GangRow.low (r : GangRow) : Int := r.envelopeLow.toInt

/-- Envelope high bound (R75). -/
def GangRow.high (r : GangRow) : Int := r.envelopeHigh.toInt

/-- Prewarn time in ms; the row gives whole seconds (R111). -/
def GangRow.prewarnMs (r : GangRow) : Nat := r.prewarn.toNat * 1000

/-! ### Interlock row -/

/-- The row is valid (R107). -/
def InterlockRow.valid (r : InterlockRow) : Bool := r.validByte.getLsbD 0

/-- Does a position of the subject gang lie in the protected region, both edges included (R81)? -/
def InterlockRow.protects (r : InterlockRow) (pos : Int) : Bool :=
  decide (r.protectedLow.toInt ≤ pos) && decide (pos ≤ r.protectedHigh.toInt)

/-- Does a position of the condition gang lie in the condition region, both edges included (R77)? -/
def InterlockRow.permits (r : InterlockRow) (pos : Int) : Bool :=
  decide (r.conditionLow.toInt ≤ pos) && decide (pos ≤ r.conditionHigh.toInt)

/-! ### Ranges TABLE WRITE accepts (R109 to R112, R189) -/

/-- Does a natural number lie in [lo, hi]? -/
def within (lo hi n : Nat) : Bool := decide (lo ≤ n) && decide (n ≤ hi)

/-- Does an integer lie within ±bound? -/
def withinSigned (bound v : Int) : Bool := decide (-bound ≤ v) && decide (v ≤ bound)

/-- Ranges and relations of the config row (R109), no reserved option bit and no fault-mask bit above 23 (R189). -/
def ConfigRow.inRange (c : ConfigRow) : Bool :=
  within 1 126 c.node.toNat && within 0 63 c.options.toNat && within 0 7 c.timeoutCode.toNat &&
  within 1 15 c.staleLimit.toNat && within 1 126 c.weatherNode.toNat &&
  within 0 999 c.t1.toNat && within 0 999 c.t2.toNat && within 0 999 c.t3.toNat &&
  decide (c.t1.toNat < c.t2.toNat) && decide (c.t2.toNat < c.t3.toNat) &&
  within 0 50 c.hysteresis.toNat && within 0 3 c.longPressCode.toNat &&
  within 0 0xFFFFFF c.faultMask.toNat && decide (c.protectedLo.toNat ≤ c.protectedHi.toNat) &&
  c.warn0.inRange && c.warn1.inRange && c.warn2.inRange && c.warn3.inRange

/-- Ranges of a valid axis row (R110), no reserved flag bit (R189). -/
def AxisRow.inRange (r : AxisRow) : Bool :=
  within 0 31 r.flags.toNat && within 1 126 r.node.toNat && within 0 7 r.gang.toNat &&
  withinSigned 1000000000 r.offsetInt

/-- Ranges of a valid gang row (R111), no reserved flag bit (R189). -/
def GangRow.inRange (r : GangRow) : Bool :=
  within 0 1 r.validByte.toNat && within 1 32767 r.ceiling.toNat && within 1 1000000 r.approach.toNat &&
  within 1 10000 r.band.toNat && within 0 100 r.floor.toNat && within 1 50000 r.tripLimit.toNat &&
  within 1 32767 r.slewStep.toNat && within 1 32767 r.holdStep.toNat &&
  within 0 1000 r.settleVelocity.toNat && within 1 255 r.settleCycles.toNat &&
  within 0 100 r.wind0.toNat && within 0 100 r.wind1.toNat && within 0 100 r.wind2.toNat &&
  within 0 100 r.wind3.toNat && within 0 3 r.permission.toNat &&
  withinSigned 2000000000 r.low && withinSigned 2000000000 r.high && within 0 60 r.prewarn.toNat

/-- Ranges and relations of a valid interlock row (R112), no reserved flag bit (R189). -/
def InterlockRow.inRange (r : InterlockRow) : Bool :=
  within 0 1 r.validByte.toNat && within 0 7 r.subject.toNat && within 0 7 r.condition.toNat &&
  withinSigned 2000000000 r.protectedLow.toInt && withinSigned 2000000000 r.protectedHigh.toInt &&
  withinSigned 2000000000 r.conditionLow.toInt && withinSigned 2000000000 r.conditionHigh.toInt &&
  decide (r.protectedLow.toInt ≤ r.protectedHigh.toInt) && decide (r.conditionLow.toInt ≤ r.conditionHigh.toInt)

/-! ### Layouts of the rows (section 10.5) -/

/-- Bytes of a line record. -/
def LineRow.toBytes (r : LineRow) : List Byte := [r.mask, r.period, r.duty]

/-- Line record at an offset. -/
def LineRow.ofBytes (b : List Byte) (i : Nat) : LineRow :=
  { mask := u8 b i, period := u8 b (i + 1), duty := u8 b (i + 2) }

/-- The 36 bytes of a config row. -/
def ConfigRow.toBytes (c : ConfigRow) : List Byte :=
  [c.upstreamSegment, c.segment, c.subordinate, c.node, c.options, c.timeoutCode, c.staleLimit, c.weatherNode] ++
  bytes16 c.t1 ++ bytes16 c.t2 ++ bytes16 c.t3 ++ [c.hysteresis, c.longPressCode] ++ bytes32 c.faultMask ++
  bytes16 c.protectedLo ++ bytes16 c.protectedHi ++
  c.warn0.toBytes ++ c.warn1.toBytes ++ c.warn2.toBytes ++ c.warn3.toBytes

/-- Config row at an offset. -/
def ConfigRow.ofBytes (b : List Byte) (i : Nat) : ConfigRow :=
  { upstreamSegment := u8 b i, segment := u8 b (i + 1), subordinate := u8 b (i + 2), node := u8 b (i + 3),
    options := u8 b (i + 4), timeoutCode := u8 b (i + 5), staleLimit := u8 b (i + 6), weatherNode := u8 b (i + 7),
    t1 := u16 b (i + 8), t2 := u16 b (i + 10), t3 := u16 b (i + 12), hysteresis := u8 b (i + 14),
    longPressCode := u8 b (i + 15), faultMask := u32 b (i + 16), protectedLo := u16 b (i + 20),
    protectedHi := u16 b (i + 22), warn0 := LineRow.ofBytes b (i + 24), warn1 := LineRow.ofBytes b (i + 27),
    warn2 := LineRow.ofBytes b (i + 30), warn3 := LineRow.ofBytes b (i + 33) }

/-- The 7 bytes of an axis row. -/
def AxisRow.toBytes (r : AxisRow) : List Byte := [r.flags, r.node, r.gang] ++ bytes32 r.offset

/-- Axis row at an offset. -/
def AxisRow.ofBytes (b : List Byte) (i : Nat) : AxisRow :=
  { flags := u8 b i, node := u8 b (i + 1), gang := u8 b (i + 2), offset := u32 b (i + 3) }

/-- The 35 bytes of a gang row. -/
def GangRow.toBytes (r : GangRow) : List Byte :=
  [r.validByte] ++ bytes16 r.ceiling ++ bytes16 r.breakaway ++ bytes32 r.approach ++ bytes16 r.band ++ [r.floor] ++
  bytes16 r.tripLimit ++ bytes16 r.slewStep ++ bytes16 r.holdStep ++ bytes16 r.settleVelocity ++
  [r.settleCycles, r.wind0, r.wind1, r.wind2, r.wind3, r.permission] ++ bytes32 r.envelopeLow ++
  bytes32 r.envelopeHigh ++ [r.prewarn]

/-- Gang row at an offset. -/
def GangRow.ofBytes (b : List Byte) (i : Nat) : GangRow :=
  { validByte := u8 b i, ceiling := u16 b (i + 1), breakaway := u16 b (i + 3), approach := u32 b (i + 5),
    band := u16 b (i + 9), floor := u8 b (i + 11), tripLimit := u16 b (i + 12), slewStep := u16 b (i + 14),
    holdStep := u16 b (i + 16), settleVelocity := u16 b (i + 18), settleCycles := u8 b (i + 20),
    wind0 := u8 b (i + 21), wind1 := u8 b (i + 22), wind2 := u8 b (i + 23), wind3 := u8 b (i + 24),
    permission := u8 b (i + 25), envelopeLow := u32 b (i + 26), envelopeHigh := u32 b (i + 30),
    prewarn := u8 b (i + 34) }

/-- The 19 bytes of an interlock row. -/
def InterlockRow.toBytes (r : InterlockRow) : List Byte :=
  [r.validByte, r.subject] ++ bytes32 r.protectedLow ++ bytes32 r.protectedHigh ++ [r.condition] ++
  bytes32 r.conditionLow ++ bytes32 r.conditionHigh

/-- Interlock row at an offset. -/
def InterlockRow.ofBytes (b : List Byte) (i : Nat) : InterlockRow :=
  { validByte := u8 b i, subject := u8 b (i + 1), protectedLow := u32 b (i + 2), protectedHigh := u32 b (i + 6),
    condition := u8 b (i + 10), conditionLow := u32 b (i + 11), conditionHigh := u32 b (i + 15) }

/-! ### The bank image (R120) -/

/-- The image of a bank: config row, axis rows, gang rows, interlock rows, in index order. -/
def Bank.image (b : Bank) : List Byte :=
  b.config.toBytes ++ b.axes.flatMap AxisRow.toBytes ++ b.gangs.flatMap GangRow.toBytes ++
  b.interlocks.flatMap InterlockRow.toBytes

/-- The bank whose image the bytes are: rows at their offsets (section 10.5). -/
def Bank.ofImage (img : List Byte) : Bank :=
  { config := ConfigRow.ofBytes img 0
    axes := (List.range Config.axisRows).map fun i => AxisRow.ofBytes img (36 + 7 * i)
    gangs := (List.range Config.gangRows).map fun i => GangRow.ofBytes img (484 + 35 * i)
    interlocks := (List.range Config.interlockRows).map fun i => InterlockRow.ofBytes img (764 + 19 * i) }

/-- CRC of the bank image (R120). -/
def Bank.crc (b : Bank) : Half := linkCrc b.image

/-- A bank after bytes of its image have been altered (R126); offsets outside the image alter nothing. -/
def Bank.upset (b : Bank) (changes : List (Nat × Byte)) : Bank :=
  Bank.ofImage (changes.foldl (fun img c => img.set c.1 c.2) b.image)

/-! ### Rows of a bank, and membership (R1) -/

/-- Axis row of a bank; an index outside the table names an invalid row. -/
def Bank.axisRow (b : Bank) (i : Nat) : AxisRow := b.axes.getD i invalidAxis

/-- Gang row of a bank. -/
def Bank.gangRow (b : Bank) (g : Nat) : GangRow := b.gangs.getD g invalidGang

/-- Interlock row of a bank. -/
def Bank.interlockRow (b : Bank) (i : Nat) : InterlockRow := b.interlocks.getD i invalidInterlock

/-- Members of a gang: the indices of the valid axis rows that name it, rising (R1). -/
def Bank.members (b : Bank) (g : Nat) : List Nat :=
  (List.range Config.axisRows).filter fun i => (b.axisRow i).valid && (b.axisRow i).gang.toNat == g

/-- Indices of the valid axis rows, rising. -/
def Bank.validAxes (b : Bank) : List Nat :=
  (List.range Config.axisRows).filter fun i => (b.axisRow i).valid

/-- The valid axis row that names a node (R55, R137); a verified bank has at most one, and of several damaged ones
the lowest is taken (log entry 9). -/
def Bank.axisOfNode (b : Bank) (node : Byte) : Option Nat :=
  b.validAxes.find? fun i => (b.axisRow i).node == node

/-- The gang an axis row names while it is valid (R1). -/
def Bank.gangOfAxis (b : Bank) (i : Nat) : Option Nat :=
  if (b.axisRow i).valid then some (b.axisRow i).gang.toNat else none

/-- Member set of a gang as pairs of axis row index and node (R121, check 9). -/
def Bank.memberSet (b : Bank) (g : Nat) : List (Nat × Byte) :=
  (b.members g).map fun i => (i, (b.axisRow i).node)

end Sys2Proof.Machine
end

