-- ==== Sys2Proof/Machine/Flags.lean ====
section
/-!
DEFINITION. The sticky flags, the fault mask, the summary and the FAULTn pin (R177, R179, section 10.4).
-/
namespace Sys2Proof.Machine

/-- Bit of a sticky flag (section 10.4). -/
def Flag.bit : Flag → Nat
  | .linkSyncU => 0
  | .linkSyncD => 1
  | .linkLengthU => 2
  | .linkLengthD => 3
  | .linkCrcU => 4
  | .linkCrcD => 5
  | .frameKind => 6
  | .watchdog => 7
  | .skewTrip => 8
  | .overtravel => 9
  | .echo => 10
  | .driveFault => 11
  | .stale => 12
  | .unknownAxis => 13
  | .eventLost => 14
  | .eventSaturated => 15
  | .deferredDiscard => 16
  | .activateFail => 17
  | .tableCrc => 18
  | .invalidMgmt => 19
  | .weatherStale => 20
  | .pressShort => 21
  | .pressLong => 22
  | .resetOccurred => 23

/-- The flag set that holds one flag. -/
def Flag.mask (f : Flag) : BitVec 24 := 1#24 <<< f.bit

/-- Is a sticky flag set? -/
def State.flag (s : State) (f : Flag) : Bool := s.flags.getLsbD f.bit

/-- Setting a flag; one already set stays set (R177). -/
def State.setFlag (s : State) (f : Flag) : State := { s with flags := s.flags ||| f.mask }

/-- The fault mask in force: that of the active config row, nothing masked while no bank is active (R179). -/
def State.faultMask (s : State) : BitVec 24 := if s.bankPresent then s.active.config.faultMask.setWidth 24 else 0#24

/-- Is any flag set that is not masked? The summary of STATUS and the level of FAULTn (R179, R182). -/
def State.summary (s : State) : Bool := s.flags &&& ~~~s.faultMask != 0#24

/-- FAULTn follows its inputs (R179, log entry 33). -/
def State.updateFaultn (s : State) : State := { s with faultnLow := s.summary }

end Sys2Proof.Machine
end

