-- ==== Sys2Proof/Machine/Operands.lean ====
section
/-!
DEFINITION. What a delimited frame says: the port checks (R151, R152), the kinds and their fit (R153, R154, R189),
the route and the class of every frame on either port (R160 to R169), the fields of each kind (section 10.2), and
the frames the bridge builds (R155, R188).
-/
namespace Sys2Proof.Machine

/-! ### Kinds (section 10.1) -/

/-- The nine frame kinds. -/
inductive Kind where
  | setpoint
  | feedback
  | event
  | paramReq
  | paramRsp
  | mgmtReq
  | mgmtRsp
  | status
  | weather
  deriving DecidableEq, Repr

/-- Value of a kind byte (section 10.1). -/
def Kind.value : Kind → Byte
  | .setpoint => 0x11
  | .feedback => 0x21
  | .event => 0x22
  | .paramReq => 0x31
  | .paramRsp => 0x32
  | .mgmtReq => 0x41
  | .mgmtRsp => 0x42
  | .status => 0x43
  | .weather => 0x51

/-- The kind a byte names (R153). -/
def kindOf (b : Byte) : Option Kind :=
  if b = 0x11 then some .setpoint
  else if b = 0x21 then some .feedback
  else if b = 0x22 then some .event
  else if b = 0x31 then some .paramReq
  else if b = 0x32 then some .paramRsp
  else if b = 0x41 then some .mgmtReq
  else if b = 0x42 then some .mgmtRsp
  else if b = 0x43 then some .status
  else if b = 0x51 then some .weather
  else none

/-! ### Envelope (section 10.1) -/

/-- Kind byte of a frame. -/
def frameKind (f : Frame) : Byte := u8 f 2

/-- Payload of a frame: the bytes between the length byte and the trailer. -/
def framePayload (f : Frame) : List Byte := (f.drop 4).take (f.length - 6)

/-- Trailer of a frame. -/
def frameTrailer (f : Frame) : Half := u16 f (f.length - 2)

/-- Link CRC over kind, length and payload as received (R152). -/
def frameCrc (f : Frame) : Half := linkCrc ((f.drop 2).take (f.length - 4))

/-- A frame the bridge rewrites or originates: its own sync word, the length of the payload, the link CRC (R155,
R188). -/
def buildFrame (kind : Kind) (payload : List Byte) : Frame :=
  let body := [kind.value, byteOf payload.length] ++ payload
  [0x5A#8, 0xA5#8] ++ body ++ bytes16 (linkCrc body)

/-- The checks of a port (R151). -/
inductive Check where
  | sync
  | length
  | crc
  deriving DecidableEq, Repr

/-- The first check a delimited frame fails, none for a good frame (R151). -/
def failedCheck (crcOn : Bool) (f : Frame) : Option Check :=
  if f.length < 2 || u8 f 1 != ~~~(u8 f 0) then some .sync
  else if f.length < 6 || (u8 f 3).toNat != f.length - 6 then some .length
  else if crcOn && frameCrc f != frameTrailer f then some .crc
  else none

/-- CRC check enable of a port: on while no bank is active (R152). -/
def crcCheckOn (s : State) (p : Port) : Bool := !s.bankPresent || s.active.config.crcEnabled p

/-! ### Fit (R154, R189, section 10.2) -/

/-- Does a payload fit its kind? Kinds the bridge never takes in are not tested. -/
def fits (k : Kind) (p : List Byte) : Bool :=
  match k with
  | .setpoint => within 1 64 (u8 p 3).toNat && p.length == 20 + 3 * (u8 p 3).toNat
  | .feedback => p.length == 12
  | .event => p.length == 4 || p.length == 8
  | .paramReq => (p.length == 6 || p.length == 10) && within 0 1 (u8 p 5).toNat
  | .paramRsp => (p.length == 14 || p.length == 18) && within 0 1 (u8 p 5).toNat
  | .weather => p.length == 6
  | .mgmtReq => decide (4 ≤ p.length)
  | .mgmtRsp => true
  | .status => true

/-! ### Classes of arrivals -/

/-- What the ports and the router make of a delimited frame: one class for each course of chapter 8. -/
inductive FrameClass where
  /-- R151: dropped at the port with the flag of the failed check. -/
  | bad (check : Check)
  /-- R153, R154: dropped with FRAME_KIND. -/
  | frameKind
  /-- R160, R161, R165, R168: dropped without a flag. -/
  | ignored
  /-- R164: handed to the downstream queue unchanged. -/
  | transit
  /-- R165, R169: handed to the upstream queue unchanged. -/
  | upstreamBound
  /-- R162: a controller setpoint frame. -/
  | localSetpoint
  /-- R55, R165. -/
  | feedback
  /-- R90, R165. -/
  | weather
  /-- R166. -/
  | event
  /-- R136, R167. -/
  | paramRsp
  /-- R132, R161. -/
  | paramReq
  /-- R163, R168. -/
  | management
  deriving DecidableEq, Repr

/-- A class if the payload fits its kind, FRAME_KIND otherwise (R154). -/
def ifFits (k : Kind) (p : List Byte) (c : FrameClass) : FrameClass := if fits k p then c else .frameKind

/-- Class of a good frame of a known kind on the upstream port while a bank is active (R160, R161). -/
def routeUpstream (c : ConfigRow) (k : Kind) (p : List Byte) : FrameClass :=
  if k = .mgmtReq && u8 p 0 == c.upstreamSegment && u8 p 1 == c.node then ifFits k p .management
  else if u8 p 0 == c.segment then
    match k with
    | .setpoint => ifFits k p .localSetpoint
    | .paramReq => ifFits k p .paramReq
    | _ => .ignored
  else if c.segment.toNat < (u8 p 0).toNat && (u8 p 0).toNat ≤ c.subordinate.toNat then .transit
  else .ignored

/-- Class of such a frame while no bank is active (R168, R125, log entry 16). -/
def routeUnconfigured (s : State) (k : Kind) (p : List Byte) : FrameClass :=
  match k with
  | .mgmtReq => if u8 p 1 = 126 then ifFits k p .management else .ignored
  | .setpoint =>
    if s.pendingState = .readyToSwap && u8 p 0 == s.pendingBank.config.segment && fits k p then .localSetpoint
    else .ignored
  | _ => .ignored

/-- Class of a good frame of a known kind on the downstream port while a bank is active (R165). -/
def routeDownstream (c : ConfigRow) (k : Kind) (p : List Byte) : FrameClass :=
  match k with
  | .feedback => if u8 p 0 == c.segment then ifFits k p .feedback else .upstreamBound
  | .weather => if u8 p 0 == c.segment then ifFits k p .weather else .upstreamBound
  | .event => if u8 p 0 == c.segment then ifFits k p .event else .upstreamBound
  | .paramRsp => if u8 p 0 == c.segment then ifFits k p .paramRsp else .upstreamBound
  | .status => .upstreamBound
  | .mgmtRsp => .upstreamBound
  | .setpoint => .ignored
  | .paramReq => .ignored
  | .mgmtReq => .ignored

/-- Class of a good frame: the kind test of R153, then the route. -/
def routeGood (s : State) (port : Port) (kindByte : Byte) (p : List Byte) : FrameClass :=
  match kindOf kindByte with
  | none => .frameKind
  | some k =>
    if p.length = 0 then .frameKind
    else
      match port with
      | .upstream =>
        if k = .mgmtReq && p.length == 1 then .frameKind
        else if s.bankPresent then routeUpstream s.active.config k p
        else routeUnconfigured s k p
      | .downstream => if s.bankPresent then routeDownstream s.active.config k p else .upstreamBound

/-- Class of a delimited frame arriving on a port (R151 to R170). -/
def classify (s : State) (port : Port) (f : Frame) : FrameClass :=
  match failedCheck (crcCheckOn s port) f with
  | some c => .bad c
  | none => routeGood s port (frameKind f) (framePayload f)

/-! ### SETPOINT (section 10.2) -/

/-- One slot: node, control bits and raw velocity demand. -/
structure Slot where
  node : Byte
  enable : Bool
  quickstop : Bool
  raw : Half
  deriving DecidableEq, Repr

/-- Slot k of a SETPOINT payload. -/
def slotAt (p : List Byte) (k : Nat) : Slot :=
  { node := u8 p (20 + 3 * k)
    enable := (u8 p (4 + k / 4)).getLsbD (2 * (k % 4))
    quickstop := (u8 p (4 + k / 4)).getLsbD (2 * (k % 4) + 1)
    raw := u16 p (21 + 3 * k) }

/-- The slots of a SETPOINT payload, in frame order. -/
def slotsOf (p : List Byte) : List Slot := (List.range (u8 p 3).toNat).map (slotAt p)

/-- Two control bits of slot position k in its control byte. -/
def withControl (b : Byte) (k : Nat) (sl : Slot) : Byte :=
  withBit (withBit b (2 * (k % 4)) sl.enable) (2 * (k % 4) + 1) sl.quickstop

/-- Control byte j with the bits of the slots at positions 4j to 4j + 3 that exist (R188). -/
def controlByte (old : Byte) (slots : List Slot) (j : Nat) : Byte :=
  (List.range 4).foldl (fun b t => match slots[4 * j + t]? with
    | some sl => withControl b (4 * j + t) sl
    | none => b) old

/-- Payload of a SETPOINT with its slots and grant node rewritten; the rest as it arrived (R31, R188). -/
def rewrittenPayload (p : List Byte) (slots : List Slot) (grant : Byte) : List Byte :=
  [u8 p 0, u8 p 1, grant, u8 p 3] ++
  (List.range 16).map (fun j => controlByte (u8 p (4 + j)) slots j) ++
  slots.flatMap (fun sl => [sl.node] ++ bytes16 sl.raw)

/-- Payload of a SETPOINT the bridge originates (R174, R188); the arbiter writes the grant later. -/
def setpointPayload (segment cycle : Byte) (slots : List Slot) : List Byte :=
  [segment, cycle, 127#8, byteOf slots.length] ++
  (List.range 16).map (fun j => controlByte 0 slots j) ++
  slots.flatMap (fun sl => [sl.node] ++ bytes16 sl.raw)

/-- Slot a frame carries for a node: the first that names it (R32). -/
def slotOfNode (slots : List Slot) (node : Byte) : Option Slot := slots.find? fun sl => sl.node == node

/-! ### Other kinds the bridge reads (section 10.2) -/

/-- Fields of a FEEDBACK. -/
structure Feedback where
  node : Byte
  cycle : Byte
  position : Int
  velocity : Int
  echo : Int
  ready : Bool
  fault : Bool
  eventPending : Bool
  deriving DecidableEq, Repr

/-- Fields of a FEEDBACK payload; status bits 3 to 7 are not used (R189, chapter 3.2). -/
def feedbackOf (p : List Byte) : Feedback :=
  { node := u8 p 1, cycle := u8 p 2, position := (u32 p 3).toInt, velocity := velocityOf (u16 p 7),
    echo := (u16 p 9).toInt, ready := (u8 p 11).getLsbD 0, fault := (u8 p 11).getLsbD 1,
    eventPending := (u8 p 11).getLsbD 2 }

/-- Gust speed of a WEATHER payload; above 999 it is taken as 999 (R90). -/
def gustOf (p : List Byte) : Int := min 999 (u16 p 2).toNat

/-- Key of a PARAM-REQ payload (R130). -/
def requestKey (p : List Byte) : ParamKey :=
  { node := u8 p 1, object := u16 p 2, subindex := u8 p 4, write := decide (u8 p 5 = 1),
    data := if p.length = 10 then some (u32 p 6) else none }

/-- Key a PARAM-RSP payload answers: write data takes part only with key-flags bit 0 (R136, R189). -/
def responseKey (p : List Byte) : ParamKey :=
  { node := u8 p 1, object := u16 p 2, subindex := u8 p 4, write := decide (u8 p 5 = 1),
    data := if (u8 p 9).getLsbD 0 then some (u32 p 10) else none }

/-- Read data of a PARAM-RSP payload. -/
def responseData (p : List Byte) : Option Word := if p.length = 18 then some (u32 p 14) else none

/-- Access byte of a key. -/
def accessByte (k : ParamKey) : Byte := if k.write then 1 else 0

/-- Payload of the bridge's own PARAM-REQ (R135). -/
def requestPayload (segment : Byte) (k : ParamKey) : List Byte :=
  [segment, k.node] ++ bytes16 k.object ++ [k.subindex, accessByte k] ++
  (match k.data with
   | some d => bytes32 d
   | none => [])

/-- Payload of a PARAM-RSP answer to the controller (R133, R188). -/
def answerPayload (segment : Byte) (k : ParamKey) (result : Byte) (reason : Half) (data : Option Word) : List Byte :=
  [segment, k.node] ++ bytes16 k.object ++ [k.subindex, accessByte k, result] ++ bytes16 reason ++
  [bitByte k.data.isSome 0] ++ bytes32 (k.data.getD 0) ++
  (match data with
   | some d => bytes32 d
   | none => [])

end Sys2Proof.Machine
end

