-- ==== Sys2Proof/Machine/Ops.lean ====
section
/-!
DEFINITION. The named operations the blocks share: reading and updating one record, the event queue (R180), handing
a frame to a port (R155, R156), adding and removing hold causes (R6, R7), adding a trip cause (R13), the wind
relation (R9, R94), the warning lines (R103, R104), and how every command ends.
-/
namespace Sys2Proof.Machine

/-- Outcome of a command. -/
abbrev Out := Host.Outcome State Fault Refusal

/-! ### Records -/

/-- Axis record of an axis row, if there is one. -/
def State.axis (s : State) (i : Nat) : Option AxisRec := s.axes.getD i none

/-- Forwarding record of an axis row, if there is one. -/
def State.forward (s : State) (i : Nat) : Option ForwardRec := s.forwards.getD i none

/-- Gang record of a gang row, if there is one. -/
def State.gang (s : State) (g : Nat) : Option GangRec := s.gangs.getD g none

/-- Fence result of a gang, if there is one. -/
def State.fence (s : State) (g : Nat) : Option FenceResult := s.fences.getD g none

/-- Config row in force. -/
def State.config (s : State) : ConfigRow := s.active.config

/-- Gang row of the active bank. -/
def State.gangRow (s : State) (g : Nat) : GangRow := s.active.gangRow g

/-- Update the axis record of a row that has one. -/
def State.modifyAxis (s : State) (i : Nat) (f : AxisRec → AxisRec) : State :=
  match s.axis i with
  | some r => { s with axes := s.axes.set i (some (f r)) }
  | none => s

/-- Update the forwarding record of a row that has one. -/
def State.modifyForward (s : State) (i : Nat) (f : ForwardRec → ForwardRec) : State :=
  match s.forward i with
  | some r => { s with forwards := s.forwards.set i (some (f r)) }
  | none => s

/-- Update the record of a gang that has one. -/
def State.modifyGang (s : State) (g : Nat) (f : GangRec → GangRec) : State :=
  match s.gang g with
  | some r => { s with gangs := s.gangs.set g (some (f r)) }
  | none => s

/-- Apply an operation for each index below n, in rising order. -/
def forEach (n : Nat) (f : State → Nat → State) (s : State) : State := (List.range n).foldl f s

/-- Apply an operation for each gang index. -/
def forGangs (f : State → Nat → State) (s : State) : State := forEach Config.gangRows f s

/-- Apply an operation for each axis row index. -/
def forAxes (f : State → Nat → State) (s : State) : State := forEach Config.axisRows f s

/-- Update a port. -/
def State.setPort (s : State) (p : Port) (v : PortState) : State :=
  match p with
  | .upstream => { s with up := v }
  | .downstream => { s with down := v }

/-- A port. -/
def State.port (s : State) : Port → PortState
  | .upstream => s.up
  | .downstream => s.down

/-! ### Events and transmission -/

/-- The bridge's event codes (section 10.4). -/
inductive BridgeEvent where
  | gangTripped
  | interlockBlocked
  | unknownAxis
  | windClass
  | activationFailed
  | lateResponse
  | discard
  | eventSaturated
  | linkTxOverrun
  deriving DecidableEq, Repr

/-- Value of an event code (section 10.4). -/
def BridgeEvent.code : BridgeEvent → Half
  | .gangTripped => 0xF001
  | .interlockBlocked => 0xF002
  | .unknownAxis => 0xF003
  | .windClass => 0xF004
  | .activationFailed => 0xF005
  | .lateResponse => 0xF006
  | .discard => 0xF007
  | .eventSaturated => 0xF008
  | .linkTxOverrun => 0xF009

/-- Offer an event record: it joins the tail, or is discarded with EVENT_LOST when 32 are held (R180). -/
def State.offer (s : State) (source : EventSource) (code : Half) (gang : Option Nat) (data : Option Word) : State :=
  if s.events.length < Config.eventDepth then
    { s with events := s.events ++ [{ source, code, gang, data, cycle := s.lastCycle }] }
  else s.setFlag .eventLost

/-- Offer one of the bridge's own records (R180). -/
def State.offerOwn (s : State) (e : BridgeEvent) (gang : Option Nat) (data : Word) : State :=
  s.offer .bridge e.code gang (some data)

/-- Number of a port in event data (section 10.4). -/
def Port.number : Port → Byte
  | .upstream => 0
  | .downstream => 1

/-- Hand a frame to a port: it joins the tail of the transmit queue, or is discarded with a LINK_TX_OVERRUN record
when 16 are held (R155, R156). -/
def State.hand (s : State) (p : Port) (f : Frame) : State :=
  if (s.port p).queue.length < Config.transmitDepth then
    s.setPort p { s.port p with queue := (s.port p).queue ++ [f] }
  else s.offerOwn .linkTxOverrun none (word4 (Port.number p) (frameKind f) 0 0)

/-! ### Hold causes (R5 to R7) -/

/-- Is a cause in the set? -/
def HoldSet.has (h : HoldSet) : HoldCause → Bool
  | .watchdog => h.watchdog
  | .operator => h.operator
  | .wind => h.wind
  | .stale => h.stale
  | .notReady => h.notReady
  | .command => h.command
  | .interlock => h.interlock
  | .restart => h.restart

/-- The set with a cause put in or taken out. -/
def HoldSet.put (h : HoldSet) (c : HoldCause) (v : Bool) : HoldSet :=
  match c with
  | .watchdog => { h with watchdog := v }
  | .operator => { h with operator := v }
  | .wind => { h with wind := v }
  | .stale => { h with stale := v }
  | .notReady => { h with notReady := v }
  | .command => { h with command := v }
  | .interlock => { h with interlock := v }
  | .restart => { h with restart := v }

/-- The empty set of hold causes. -/
def HoldSet.empty : HoldSet :=
  { watchdog := false, operator := false, wind := false, stale := false, notReady := false, command := false,
    interlock := false, restart := false }

/-- The set holding RESTART alone (R3, R28). -/
def HoldSet.restartAlone : HoldSet := HoldSet.empty.put .restart true

/-- No cause in the set. -/
def HoldSet.isEmpty (h : HoldSet) : Bool := h == HoldSet.empty

/-- The set as the byte of section 10.4. -/
def HoldSet.toByte (h : HoldSet) : Byte :=
  bitByte h.watchdog 0 ||| bitByte h.operator 1 ||| bitByte h.wind 2 ||| bitByte h.stale 3 |||
  bitByte h.notReady 4 ||| bitByte h.command 5 ||| bitByte h.interlock 6 ||| bitByte h.restart 7

/-- State a gang takes when a hold cause enters its set (R6). -/
def GangState.onHold : GangState → GangState
  | .breakaway => .holding
  | .cruise => .holding
  | .approach => .holding
  | .settle => .holding
  | .idle => .held
  | .prewarn => .held
  | .holding => .holding
  | .held => .held
  | .tripped => .tripped

/-- A hold cause added to a gang record (R5, R6); leaving PREWARN stops the timer and clears PREWARN_DONE. -/
def GangRec.addHold (r : GangRec) (c : HoldCause) : GangRec :=
  if r.holds.has c then r
  else
    { r with
      holds := r.holds.put c true
      state := r.state.onHold
      prewarnLeft := if r.state = .prewarn then none else r.prewarnLeft
      prewarnDone := if r.state = .prewarn then false else r.prewarnDone }

/-- A hold cause removed from a gang record; the state stays (R7). -/
def GangRec.removeHold (r : GangRec) (c : HoldCause) : GangRec := { r with holds := r.holds.put c false }

/-- Adding a hold cause to a gang that has a record (R6). -/
def State.addHold (s : State) (c : HoldCause) (g : Nat) : State := s.modifyGang g fun r => r.addHold c

/-- Removing a hold cause from a gang that has a record (R7). -/
def State.removeHold (s : State) (c : HoldCause) (g : Nat) : State := s.modifyGang g fun r => r.removeHold c

/-- Adding a hold cause to every gang that has a record. -/
def State.addHoldAll (s : State) (c : HoldCause) : State := forGangs (fun s g => s.addHold c g) s

/-- Removing a hold cause from every gang that has a record. -/
def State.removeHoldAll (s : State) (c : HoldCause) : State := forGangs (fun s g => s.removeHold c g) s

/-! ### Gang states (R4) -/

/-- The moving states. -/
def GangState.moving : GangState → Bool
  | .prewarn => true
  | .breakaway => true
  | .cruise => true
  | .approach => true
  | .settle => true
  | .holding => true
  | .idle => false
  | .held => false
  | .tripped => false

/-- The states in which steps 3 to 6 of the pipeline act and a ceiling is applied (R39 to R42). -/
def GangState.driven : GangState → Bool
  | .breakaway => true
  | .cruise => true
  | .approach => true
  | .idle => false
  | .prewarn => false
  | .settle => false
  | .holding => false
  | .held => false
  | .tripped => false

/-- Value of a gang state (section 10.4). -/
def GangState.value : GangState → Byte
  | .idle => 0
  | .prewarn => 1
  | .breakaway => 2
  | .cruise => 3
  | .approach => 4
  | .settle => 5
  | .holding => 6
  | .held => 7
  | .tripped => 8

/-! ### Trip causes (R13) -/

/-- The set with a trip cause put in. -/
def TripSet.put (t : TripSet) : TripCause → TripSet
  | .skew => { t with skew := true }
  | .echo => { t with echo := true }
  | .driveFault => { t with driveFault := true }
  | .overtravel => { t with overtravel := true }

/-- The empty set of trip causes. -/
def TripSet.empty : TripSet := { skew := false, echo := false, driveFault := false, overtravel := false }

/-- The set as the byte of section 10.3. -/
def TripSet.toByte (t : TripSet) : Byte :=
  bitByte t.skew 0 ||| bitByte t.echo 1 ||| bitByte t.driveFault 2 ||| bitByte t.overtravel 3

/-- Value of a first trip cause (section 10.4). -/
def TripCause.value : TripCause → Byte
  | .skew => 1
  | .echo => 2
  | .driveFault => 3
  | .overtravel => 4

/-- Sticky flag of a trip cause (R13). -/
def TripCause.flag : TripCause → Flag
  | .skew => .skewTrip
  | .echo => .echo
  | .driveFault => .driveFault
  | .overtravel => .overtravel

/-- Value of a first trip cause or its absence (section 10.4). -/
def firstTripByte : Option TripCause → Byte
  | none => 0
  | some c => TripCause.value c

/-- A trip cause added to a gang record (R13). -/
def GangRec.addTrip (r : GangRec) (c : TripCause) : GangRec :=
  if r.state = .tripped then { r with trips := r.trips.put c }
  else
    { r with
      state := .tripped
      trips := r.trips.put c
      firstTrip := some c
      prewarnLeft := none
      prewarnDone := false
      settleCount := 0
      recovery := none }

/-- Adding a trip cause to a gang that has a record: the flag is set, and entry to TRIPPED queues GANG_TRIPPED
(R13). R58 and R66 do not say what a report does whose axis row, altered by an upset, names a gang without a record:
there the model sets no flag (log entry 9, DESIGN CHOICE). -/
def State.addTrip (s : State) (c : TripCause) (g : Nat) : State :=
  match s.gang g with
  | none => s
  | some r =>
    let s1 := (s.modifyGang g fun r => r.addTrip c).setFlag c.flag
    if r.state = .tripped then s1 else s1.offerOwn .gangTripped (some g) (word4 c.value 0 0 0)

/-! ### Members and fresh members (R1, R2) -/

/-- Members of a gang under the active bank (R1). -/
def State.members (s : State) (g : Nat) : List Nat := s.active.members g

/-- A record that counts as fresh: reported and not STALE (R2). -/
def AxisRec.fresh (r : AxisRec) : Bool := r.reported && !r.stale

/-- The axis has a fresh record (R2). -/
def State.isFresh (s : State) (i : Nat) : Bool :=
  match s.axis i with
  | some r => r.fresh
  | none => false

/-- Fresh members of a gang with their records, by rising axis row (R2). -/
def State.freshMembers (s : State) (g : Nat) : List (Nat × AxisRec) :=
  (s.members g).filterMap fun i =>
    match s.axis i with
    | some r => if r.fresh then some (i, r) else none
    | none => none

/-- Saturated common positions of the fresh members (R16, R42). -/
def State.freshPositions (s : State) (g : Nat) : List Int := (s.freshMembers g).map fun m => saturate m.2.position

/-- Does any member of a gang carry the STALE mark (R10)? -/
def State.anyStale (s : State) (g : Nat) : Bool :=
  (s.members g).any fun i =>
    match s.axis i with
    | some r => r.stale
    | none => false

/-- Has every member of a gang READY set in its record (R10, R57)? -/
def State.allReady (s : State) (g : Nat) : Bool :=
  (s.members g).all fun i =>
    match s.axis i with
    | some r => r.ready
    | none => false

/-- Apply an operation to the gang an axis belongs to, if any. -/
def State.onGangOf (s : State) (i : Nat) (f : State → Nat → State) : State :=
  match s.active.gangOfAxis i with
  | some g => f s g
  | none => s

/-- Largest of some positions less the smallest; 0 for none (R16). -/
def spread (ps : List Int) : Nat :=
  match ps with
  | [] => 0
  | p :: rest => (rest.foldl max p - rest.foldl min p).toNat

/-- Skew of a gang measured from the records as they stand (R16). -/
def State.measuredSkew (s : State) (g : Nat) : Nat := spread (s.freshPositions g)

/-- Overtravel test: a fresh member beyond the envelope by more than K (R84). -/
def State.overtravels (s : State) (g : Nat) : Bool :=
  (s.freshMembers g).any fun m =>
    decide (m.2.position < (s.gangRow g).low - (s.gangRow g).skewLimit) ||
    decide (m.2.position > (s.gangRow g).high + (s.gangRow g).skewLimit)

/-! ### Wind (R9, R94) -/

/-- WIND added to a gang whose permission is less than the class, removed otherwise (R9). -/
def State.windOnGang (s : State) (g : Nat) : State :=
  if (s.gangRow g).windPermission < s.windClass then s.addHold .wind g else s.removeHold .wind g

/-- Reasons of a change of wind class (section 10.4). -/
inductive WindReason where
  | arrival
  | stale
  | swap
  deriving DecidableEq, Repr

/-- Value of a reason (section 10.4). -/
def WindReason.value : WindReason → Byte
  | .arrival => 1
  | .stale => 2
  | .swap => 3

/-- The wind class whose percent governs the frame in its processing: the one in force when that began (R41). -/
def State.classInFrame (s : State) : Nat := s.frameClass.getD s.windClass

/-- The class kept at a change for the frame in its processing, the oldest that waits (R41, R94; log entry 41). -/
def State.classKept (s : State) : Option Nat :=
  match s.waiting with
  | [] => none
  | _ :: _ => some s.classInFrame

/-- The wind class set; a change queues one WIND_CLASS record (R94). A frame in its processing keeps the old percent
(R41). -/
def State.setWindClass (s : State) (cls : Nat) (why : WindReason) : State :=
  if s.windClass = cls then s
  else
    State.offerOwn { s with windClass := cls, frameClass := s.classKept } .windClass none
      (word4 (byteOf s.windClass) (byteOf cls) why.value 0)

/-- A change of class between frames: the record, then WIND on each gang (R94). -/
def State.changeWindClass (s : State) (cls : Nat) (why : WindReason) : State :=
  if s.windClass = cls then s else forGangs State.windOnGang (s.setWindClass cls why)

/-! ### Warning lines (R103, R104) -/

/-- Does a gang of the mask stand in one of some states? -/
def State.watchedIn (s : State) (line : LineRow) (p : GangState → Bool) : Bool :=
  (List.range Config.gangRows).any fun g =>
    line.watches g &&
    match s.gang g with
    | some r => p r.state
    | none => false

/-- Demand of a line from the states of the gangs in its mask; OFF while no bank is active (R102, R103). -/
def State.lineDemand (s : State) (i : Nat) : LineDemand :=
  if !s.bankPresent then .off
  else if s.watchedIn (s.config.line i) (fun st => st = .prewarn) then .steady
  else if s.watchedIn (s.config.line i) (fun st => st = .holding) then .fast
  else if s.watchedIn (s.config.line i) (fun st => st.driven || st = .settle) then .own
  else .off

/-- A demand taken at this event, a flashing one starting a new period (R104). -/
def LineGen.take (d : LineDemand) : LineGen := { demand := d, time := 0, level := d != .off }

/-- Each line takes its demand where it differs from the present one, at a local setpoint frame (R103, R104). -/
def State.updateLines (s : State) : State :=
  { s with
    lines := s.lines.mapIdx fun i l => if l.demand = s.lineDemand i then l else LineGen.take (s.lineDemand i) }

/-- Flash period and on time of a line, in ms, for a flashing demand (R104). -/
def State.lineTiming (s : State) (i : Nat) (d : LineDemand) : Nat × Nat :=
  if d = .fast then (250, 125) else ((s.config.line i).periodMs, (s.config.line i).onMs)

/-- Does a line with this demand flash (R104)? -/
def LineDemand.flashes : LineDemand → Bool
  | .fast => true
  | .own => true
  | .steady => false
  | .off => false

/-! ### How a command ends -/

/-- State of a gang that has a record. -/
def State.gangState (s : State) (g : Nat) : Option GangState := (s.gang g).map fun r => r.state

/-- Has a gang in the mask of a line changed its state between two states (R103)? -/
def lineTouched (old new : State) (i : Nat) : Bool :=
  (List.range Config.gangRows).any fun g => (new.config.line i).watches g && old.gangState g != new.gangState g

/-- A line's demand is found again where a gang in its mask has changed its state, and taken where it differs
(R103, R104). -/
def settleLines (old new : State) : State :=
  { new with
    lines := new.lines.mapIdx fun i l =>
      if lineTouched old new i && l.demand != new.lineDemand i then LineGen.take (new.lineDemand i) else l }

/-- The lines and FAULTn follow what the event has changed (R103, R179). -/
def settle (old new : State) : State := (settleLines old new).updateFaultn

/-- A command's next state, from the state it found and the state its rules leave. -/
def finish (old new : State) : Out := .next (settle old new)

end Sys2Proof.Machine
end

