-- ==== Sys2Proof/Machine/Deferred.lean ====
section
/-!
DEFINITION. The deferred request unit (sections 7.1 to 7.3): answers to the controller, the unit's step at a local
setpoint frame, issue, and the drives' answers. DEFERRED_TIMEOUT, DISCARD_EXPIRY.
-/
namespace Sys2Proof.Machine

/-! ### Entries -/

/-- Result values of a PARAM-RSP (section 10.2). -/
inductive AnswerCode where
  | ok
  | driveBusy
  | driveRefused
  | retry
  | busy
  | moving
  | noAnswer
  | writeMismatch
  deriving DecidableEq, Repr

/-- Value of a result (section 10.2). -/
def AnswerCode.value : AnswerCode → Byte
  | .ok => 0x00
  | .driveBusy => 0x01
  | .driveRefused => 0x02
  | .retry => 0x10
  | .busy => 0x11
  | .moving => 0x12
  | .noAnswer => 0x13
  | .writeMismatch => 0x14

/-- Answer code of a held result. -/
def DeferredResult.answer : DeferredResult → AnswerCode
  | .ok => .ok
  | .driveRefused _ => .driveRefused
  | .noAnswer => .noAnswer
  | .writeMismatch => .writeMismatch
  | .moving => .moving

/-- Reason of a held result: present with DRIVE_REFUSED, sent as 0 with every other (R131, R188). -/
def DeferredResult.reason : DeferredResult → Half
  | .driveRefused reason => reason
  | .ok => 0
  | .noAnswer => 0
  | .writeMismatch => 0
  | .moving => 0

/-- Key of the verifying read of a write (R131). -/
def ParamKey.readback (k : ParamKey) : ParamKey := { k with write := false, data := none }

/-- Key of the request an entry has in flight, if it has one (R131). -/
def DeferredEntry.inFlightKey (e : DeferredEntry) : Option ParamKey :=
  match e.status with
  | .issued _ => some e.key
  | .readbackSent _ => some e.key.readback
  | .queued => none
  | .readbackDue => none
  | .complete _ _ _ => none

/-- Has an entry the request in flight (R131)? -/
def DeferredEntry.inFlight (e : DeferredEntry) : Bool := e.inFlightKey.isSome

/-- An entry that becomes COMPLETE starts its discard countdown (R141). -/
def DeferredEntry.completed (e : DeferredEntry) (period : Nat) (r : DeferredResult) (data : Option Word) :
    DeferredEntry :=
  { e with status := .complete r data period }

/-- Discard period in force (R141). -/
def State.discardPeriod (s : State) : Nat := s.config.discardPeriod

/-- Gang state of the gang of the valid axis row that names a node: is it a moving one (R132, R134)? -/
def State.nodeMoves (s : State) (node : Byte) : Bool :=
  match s.active.axisOfNode node with
  | none => false
  | some i =>
    match s.gang (s.active.axisRow i).gang.toNat with
    | some r => r.state.moving
    | none => false

/-- A write to a protected object of a drive whose gang moves (R132, R134). -/
def State.protectedMoving (s : State) (k : ParamKey) : Bool :=
  k.write && s.config.isProtected k.object && s.nodeMoves k.node

/-- Data of LATE_RESPONSE and DISCARD records: node, subindex, object index (section 10.4). -/
def keyData (k : ParamKey) : Word := k.node ++ k.subindex ++ k.object

/-! ### Answering the controller (R132, R133) -/

/-- Hand a PARAM-RSP answer to the upstream port (R133). -/
def State.answer (s : State) (k : ParamKey) (code : AnswerCode) (reason : Half) (data : Option Word) : State :=
  s.hand .upstream (buildFrame .paramRsp (answerPayload s.config.segment k code.value reason data))

/-- Answer to a repeat of a request in the table: a COMPLETE entry is handed out and freed, any other holds
(R132 case 3, R133). -/
def answerRepeat (k : ParamKey) (e : DeferredEntry) (s : State) : State :=
  match e.status with
  | .complete r data _ =>
    State.answer { s with deferred := s.deferred.filter fun x => x.key != k } k r.answer r.reason data
  | .queued => s.answer k .retry 0 none
  | .issued _ => s.answer k .retry 0 none
  | .readbackDue => s.answer k .retry 0 none
  | .readbackSent _ => s.answer k .retry 0 none

/-- A controller PARAM-REQ by the first case of R132 that applies. -/
def takeRequest (k : ParamKey) (s : State) : State :=
  if !within 1 126 k.node.toNat then s.answer k .noAnswer 0 none
  else if s.protectedMoving k then s.answer k .moving 0 none
  else
    match s.deferred.find? fun e => e.key == k with
    | some e => answerRepeat k e s
    | none =>
      if s.deferred.length < Config.deferredDepth then
        State.answer { s with deferred := s.deferred ++ [{ key := k, status := .queued }] } k .retry 0 none
      else s.answer k .busy 0 none

/-! ### The unit's step at a local setpoint frame (R141) -/

/-- Part 2, first half: frames since issue advance (R140). -/
def DeferredEntry.aged (e : DeferredEntry) : DeferredEntry :=
  match e.status with
  | .issued n => { e with status := .issued (n + 1) }
  | .readbackSent n => { e with status := .readbackSent (n + 1) }
  | .queued => e
  | .readbackDue => e
  | .complete _ _ _ => e

/-- Has the request of an entry been in flight for 8 frames (R140)? -/
def DeferredEntry.timedOut (e : DeferredEntry) : Bool :=
  match e.status with
  | .issued n => decide (8 ≤ n)
  | .readbackSent n => decide (8 ≤ n)
  | .queued => false
  | .readbackDue => false
  | .complete _ _ _ => false

/-- Part 2, second half: a timeout completes the entry with NO_ANSWER (R140). -/
def takeTimeouts (s : State) : State :=
  { s with
    deferred := s.deferred.map fun e => if e.timedOut then e.completed s.discardPeriod .noAnswer none else e }

/-- Part 3: QUEUED writes to protected objects of moving gangs complete with MOVING (R134). -/
def reviewQueued (s : State) : State :=
  { s with
    deferred := s.deferred.map fun e =>
      if e.status = .queued && s.protectedMoving e.key then e.completed s.discardPeriod .moving none else e }

/-- Part 4: a running countdown falls by 1 (R141). -/
def DeferredEntry.countedDown (e : DeferredEntry) : DeferredEntry :=
  match e.status with
  | .complete r data n => { e with status := .complete r data (n - 1) }
  | .queued => e
  | .issued _ => e
  | .readbackDue => e
  | .readbackSent _ => e

/-- Has the discard countdown of an entry run out (R141)? -/
def DeferredEntry.expired (e : DeferredEntry) : Bool :=
  match e.status with
  | .complete _ _ n => n == 0
  | .queued => false
  | .issued _ => false
  | .readbackDue => false
  | .readbackSent _ => false

/-- One discarded entry: the flag and its DISCARD record (R141). -/
def reportDiscard (s : State) (e : DeferredEntry) : State :=
  (s.setFlag .deferredDiscard).offerOwn .discard none (keyData e.key)

/-- Entries whose countdown has reached 0 are freed, each with its flag and record, in latch order (R141). -/
def discardExpired (s : State) : State :=
  (s.deferred.filter DeferredEntry.expired).foldl reportDiscard
    { s with deferred := s.deferred.filter fun e => !e.expired }

/-- The unit's step: backoff, timeouts, review, countdowns (R141). -/
def deferredStep (s : State) : State :=
  let s1 := { s with backoff := s.backoff - 1 }
  let s2 := takeTimeouts { s1 with deferred := s1.deferred.map DeferredEntry.aged }
  let s3 := reviewQueued s2
  discardExpired { s3 with deferred := s3.deferred.map DeferredEntry.countedDown }

/-- DEFERRED_TIMEOUT (R140): the timeout standing alone (log entry 22). -/
def execDeferredTimeout (s : State) : Out := finish s (takeTimeouts s)

/-- DISCARD_EXPIRY (R141): the discard standing alone (log entry 22). -/
def execDiscardExpiry (s : State) : Out := finish s (discardExpired s)

/-! ### Issue (R135) -/

/-- Is a request in flight (R131)? -/
def State.requestInFlight (s : State) : Bool := s.deferred.any DeferredEntry.inFlight

/-- Does an entry wait to be sent: a read-back DUE or a QUEUED request (R135)? -/
def DeferredEntry.sendable (e : DeferredEntry) : Bool := e.status = .readbackDue || e.status = .queued

/-- Is the bridge's requester a candidate for the window (R135)? -/
def State.requesterCandidate (s : State) : Bool :=
  s.backoff == 0 && !s.requestInFlight && s.deferred.any DeferredEntry.sendable

/-- The entry the requester chooses: a read-back DUE, else the oldest QUEUED (R135). -/
def State.chosenEntry (s : State) : Option DeferredEntry :=
  match s.deferred.find? fun e => e.status = .readbackDue with
  | some e => some e
  | none => s.deferred.find? fun e => e.status = .queued

/-- Status and request of a chosen entry (R135). -/
def DeferredEntry.sent (e : DeferredEntry) : DeferredEntry × ParamKey :=
  if e.status = .readbackDue then ({ e with status := .readbackSent 0 }, e.key.readback)
  else ({ e with status := .issued 0 }, e.key)

/-- Replace the entry of a key. -/
def State.replaceEntry (s : State) (e : DeferredEntry) : State :=
  { s with deferred := s.deferred.map fun x => if x.key = e.key then e else x }

/-- The requester's choice at its grant: the state, and the PARAM-REQ to transmit after the frame (R135, R147). -/
def issueRequest (s : State) : State × Option Frame :=
  match s.chosenEntry with
  | none => (s, none)
  | some e =>
    (s.replaceEntry e.sent.1, some (buildFrame .paramReq (requestPayload s.config.segment e.sent.2)))

/-! ### Drives' answers (R136 to R139) -/

/-- Is read-back enabled for a node (R137)? -/
def State.readBackEnabled (s : State) (node : Byte) : Bool :=
  match s.active.axisOfNode node with
  | some i => (s.active.axisRow i).readBack
  | none => s.config.readBackOthers

/-- DRIVE_BUSY: the backoff, and an ISSUED entry to the tail, a READBACK entry back to DUE (R139). -/
def takeBusy (e : DeferredEntry) (s : State) : State :=
  let s1 := { s with backoff := 2 }
  match e.status with
  | .readbackSent _ => s1.replaceEntry { e with status := .readbackDue }
  | .issued _ => { s1 with deferred := (s1.deferred.filter fun x => x.key != e.key) ++ [{ e with status := .queued }] }
  | .queued => s1
  | .readbackDue => s1
  | .complete _ _ _ => s1

/-- OK to an ISSUED entry (R137) or to a verifying read (R138). -/
def takeOk (e : DeferredEntry) (data : Option Word) (s : State) : State :=
  match e.status with
  | .issued _ =>
    if !e.key.write then s.replaceEntry (e.completed s.discardPeriod .ok data)
    else if s.readBackEnabled e.key.node then s.replaceEntry { e with status := .readbackDue }
    else s.replaceEntry (e.completed s.discardPeriod .ok none)
  | .readbackSent _ =>
    s.replaceEntry (e.completed s.discardPeriod (if data = e.key.data then .ok else .writeMismatch) data)
  | .queued => s
  | .readbackDue => s
  | .complete _ _ _ => s

/-- A matching answer by its result code; a code the drive cannot give counts as DRIVE_REFUSED with reason 0
(R136 to R139). Read data that a refusal carries is not kept: R137 says so of an ISSUED entry, R138 is silent on a
verifying read, which the model takes the same way (log entry 39, DESIGN CHOICE). -/
def takeMatching (e : DeferredEntry) (code : Byte) (reason : Half) (data : Option Word) (s : State) : State :=
  if code = AnswerCode.ok.value then takeOk e data s
  else if code = AnswerCode.driveBusy.value then takeBusy e s
  else if code = AnswerCode.driveRefused.value then
    s.replaceEntry (e.completed s.discardPeriod (.driveRefused reason) none)
  else s.replaceEntry (e.completed s.discardPeriod (.driveRefused 0) none)

/-- A PARAM-RSP from segment S: matched against the request in flight, dropped with LATE_RESPONSE otherwise
(R136). -/
def takeResponse (p : List Byte) (s : State) : State :=
  match s.deferred.find? fun e => e.inFlightKey == some (responseKey p) with
  | some e => takeMatching e (u8 p 6) (u16 p 7) (responseData p) s
  | none => s.offerOwn .lateResponse none (keyData (responseKey p))

end Sys2Proof.Machine
end

