-- ==== Sys2Proof/Machine/Arbiter.lean ====
section
/-!
DEFINITION. The acyclic window arbiter (section 7.4): candidates, the two rotations, the open grant and saturation.
-/
namespace Sys2Proof.Machine

/-- Arbiter record of an axis row (R144). -/
def State.grantRec (s : State) (i : Nat) : GrantRec := s.grantRecs.getD i clearGrant

/-- Is an axis a candidate (R145)? -/
def State.axisCandidate (s : State) (i : Nat) : Bool :=
  (s.active.axisRow i).valid &&
  (match s.axis i with
   | some r => r.eventPending && !r.stale
   | none => false) &&
  !(s.grantRec i).saturated

/-- Valid axis rows of a tier, rising (R146). -/
def State.tierRows (s : State) (low : Bool) : List Nat :=
  s.active.validAxes.filter fun i => (s.active.axisRow i).lowTier == low

/-- A rising list of indices taken from the first above a mark, wrapping to the start (R146). -/
def rotateAfter (mark : Nat) (rows : List Nat) : List Nat :=
  (rows.filter fun i => decide (mark < i)) ++ rows.filter fun i => decide (i ≤ mark)

/-- LOW-tier rows in the order the LOW rotation searches them (R146). -/
def State.lowOrder (s : State) : List Nat :=
  match s.lowPtr with
  | none => s.tierRows true
  | some i => rotateAfter i (s.tierRows true)

/-- Positions of the HIGH rotation in the order it searches them: from the position after the HIGH pointer once
round (R146). -/
def State.highOrder (s : State) : List HighPointer :=
  let rows := s.tierRows false
  match s.highPtr with
  | .low => [.bridge] ++ rows.map .row ++ [.low]
  | .bridge => rows.map .row ++ [.low, .bridge]
  | .row i =>
    (rows.filter fun j => decide (i < j)).map .row ++ [.low, .bridge] ++
      (rows.filter fun j => decide (j ≤ i)).map .row

/-- First LOW-tier candidate of the LOW rotation (R146). -/
def State.lowWinner (s : State) : Option Nat := s.lowOrder.find? s.axisCandidate

/-- Is a position of the HIGH rotation a candidate (R145, R146)? -/
def State.highCandidate (s : State) : HighPointer → Bool
  | .bridge => s.requesterCandidate
  | .row i => s.axisCandidate i
  | .low => s.lowWinner.isSome

/-- Who may use the window (R146). -/
inductive Winner where
  | nobody
  | bridge
  | axis (row : Nat)
  deriving DecidableEq, Repr

/-- The frame's choice: the winner, with the pointers moved (R146). -/
def choose (s : State) : State × Winner :=
  match s.highOrder.find? s.highCandidate with
  | none => (s, .nobody)
  | some .bridge => ({ s with highPtr := .bridge }, .bridge)
  | some (.row i) => ({ s with highPtr := .row i }, .axis i)
  | some .low =>
    match s.lowWinner with
    | some i => ({ s with highPtr := .low, lowPtr := some i }, .axis i)
    | none => (s, .nobody)

/-- Update the arbiter record of an axis row. -/
def State.modifyGrant (s : State) (i : Nat) (f : GrantRec → GrantRec) : State :=
  { s with grantRecs := s.grantRecs.set i (f (s.grantRec i)) }

/-- Closing of the open grant: the count rises or returns to 0, and at 6 the axis is saturated (R148, R149). -/
def closeGrant (s : State) : State :=
  match s.openGrant with
  | none => s
  | some o =>
    let s1 := { s with openGrant := none }
    if o.seen then
      if (s.grantRec o.row).count + 1 ≥ 6 then
        ((s1.modifyGrant o.row fun _ => { count := 6, saturated := true }).setFlag .eventSaturated).offerOwn
          .eventSaturated none (word4 o.node 0 0 0)
      else s1.modifyGrant o.row fun r => { r with count := r.count + 1 }
    else s1.modifyGrant o.row fun r => { r with count := 0 }

/-- Grant field and state after the choice: an axis opens a grant, the bridge issues its request (R146 to R148). -/
def applyChoice (w : Winner) (s : State) : State × Byte × Option Frame :=
  match w with
  | .nobody => (s, 127#8, none)
  | .bridge => ((issueRequest s).1, 127#8, (issueRequest s).2)
  | .axis i =>
    ({ s with openGrant := some { row := i, node := (s.active.axisRow i).node, seen := false } },
     (s.active.axisRow i).node, none)

/-- The arbiter's stage: close, choose, grant (R145 to R148). The open grant is closed here, in the frame's processing, and
not at its arrival (log entry 14, DEDUCED). -/
def arbitrate (s : State) : State × Byte × Option Frame :=
  let chosen := choose (closeGrant s)
  applyChoice chosen.2 chosen.1

/-- An EVENT from a node marks the open grant of that node as seen. While a local setpoint frame waits for its
processing the EVENT has come after that frame's arrival, at which R148 closes the grant: it counts toward nothing, the
closing itself being made in the frame's processing (R148; log entry 14). -/
def markSeen (node : Byte) (s : State) : State :=
  match s.openGrant with
  | some o =>
    if o.node = node && s.waiting.isEmpty then { s with openGrant := some { o with seen := true } } else s
  | none => s

/-- An EVENT frame of segment S: offered as a record of its sender, and the open grant marked (R166, R180). -/
def takeEvent (p : List Byte) (s : State) : State :=
  markSeen (u8 p 1)
    (s.offer (.node (u8 p 1)) (u16 p 2)
      ((s.active.axisOfNode (u8 p 1)).map fun i => (s.active.axisRow i).gang.toNat)
      (if p.length = 8 then some (u32 p 4) else none))

/-- The arbiter after cold reset, warm restart and refresh mismatch (R144). -/
def arbiterCleared (s : State) : State :=
  { s with highPtr := .low, lowPtr := none, openGrant := none, grantRecs := List.replicate Config.axisRows clearGrant }

/-- The arbiter at a swap: the grant dropped, rows made valid or rewritten cleared (R144). The whole row is compared as
stored, so that a reserved flag bit, which is no field of R110 and which only an upset sets, makes the row differ (log
entry 9, DESIGN CHOICE). -/
def arbiterAtSwap (old : Bank) (s : State) : State :=
  { s with
    openGrant := none
    grantRecs := s.grantRecs.mapIdx fun i r =>
      if (s.active.axisRow i).valid && s.active.axisRow i != old.axisRow i then clearGrant else r }

end Sys2Proof.Machine
end

