-- ==== Sys2Proof/Machine/Axes.lean ====
section
/-!
DEFINITION. The axis monitor (chapter 3): common coordinates, a FEEDBACK arrival in its four parts, freshness and
STALE, and the echo check. AXIS_BECOMES_STALE.
-/
namespace Sys2Proof.Machine

/-- Common position of a raw one under an axis row (R54). -/
def AxisRow.commonPosition (row : AxisRow) (raw : Int) : Int := saturate (row.sign * raw + row.offsetInt)

/-- Common velocity of a raw one under an axis row (R54). -/
def AxisRow.commonVelocity (row : AxisRow) (raw : Int) : Int := row.sign * raw

/-- An axis record at its creation or after a clearing (R53, R68, R69). -/
def AxisRec.cleared : AxisRec :=
  { reported := false, rawPosition := 0, rawVelocity := 0, position := 0, velocity := 0, ready := false,
    fault := false, eventPending := false, echoedCycle := 0, freshness := 0, stale := false, echoCount := 0,
    echoFault := false, start := none }

/-- Figures and freshness of a report (R56): the record's part. -/
def AxisRec.withFigures (r : AxisRec) (row : AxisRow) (f : Feedback) : AxisRec :=
  { r with
    reported := true
    rawPosition := f.position
    rawVelocity := f.velocity
    position := row.commonPosition f.position
    velocity := row.commonVelocity f.velocity
    echoedCycle := f.cycle
    freshness := 0
    stale := false }

/-- Part 1 of a FEEDBACK arrival: figures and freshness; STALE leaves the gang when no member is marked (R56). -/
def feedbackFigures (f : Feedback) (i : Nat) (s : State) : State :=
  (s.modifyAxis i fun r => r.withFigures (s.active.axisRow i) f).onGangOf i fun s g =>
    if s.anyStale g then s else s.removeHold .stale g

/-- NOT_READY at a FEEDBACK arrival: added in a moving state when READY is clear, removed when every member has
READY set (R57). -/
def readyCause (ready : Bool) (s : State) (g : Nat) : State :=
  if ready then (if s.allReady g then s.removeHold .notReady g else s)
  else
    match s.gang g with
    | some r => if r.state.moving then s.addHold .notReady g else s
    | none => s

/-- Part 2: the status bits READY and EVENT_PENDING (R57, R59). -/
def feedbackStatus (f : Feedback) (i : Nat) (s : State) : State :=
  (s.modifyAxis i fun r => { r with ready := f.ready, eventPending := f.eventPending }).onGangOf i
    (readyCause f.ready)

/-- Part 3: FAULT (R58, R14). -/
def feedbackFault (f : Feedback) (i : Nat) (s : State) : State :=
  let s1 := s.modifyAxis i fun r => { r with fault := f.fault }
  if f.fault then s1.onGangOf i fun s g => s.addTrip .driveFault g else s1

/-- Echo mismatch count and ECHO_FAULT mark after a check (R65, R66). -/
def AxisRec.afterEcho (r : AxisRec) (pass : Bool) : AxisRec :=
  if pass then { r with echoCount := 0 }
  else if r.echoCount < 3 then
    { r with echoCount := r.echoCount + 1, echoFault := r.echoFault || r.echoCount + 1 == 3 }
  else r

/-- Part 4: the echo check against the two forwarded raw values (R64 to R66). -/
def feedbackEcho (f : Feedback) (i : Nat) (s : State) : State :=
  match s.axis i, s.forward i with
  | some r, some w =>
    if (s.active.axisRow i).echoCheck && w.enable then
      let pass := f.echo == w.recentRaw || f.echo == w.previousRaw
      let s1 := s.modifyAxis i fun r => r.afterEcho pass
      if !pass && r.echoCount == 2 then s1.onGangOf i fun s g => s.addTrip .echo g else s1
    else s
  | _, _ => s

/-- A FEEDBACK arrival applied to the record of the row its node names; without such a record it has no effect
(R55). -/
def applyFeedback (f : Feedback) (s : State) : State :=
  match s.active.axisOfNode f.node with
  | none => s
  | some i =>
    if (s.axis i).isSome then
      feedbackEcho f i (feedbackFault f i (feedbackStatus f i (feedbackFigures f i s)))
    else s

/-- An axis whose count exceeds the stale limit and whose mark is clear becomes STALE (R60). -/
def becomeStale (s : State) (i : Nat) : State :=
  match s.axis i with
  | none => s
  | some r =>
    if s.config.staleLimit.toNat < r.freshness && !r.stale then
      ((s.modifyAxis i fun r => { r with stale := true }).setFlag .stale).onGangOf i fun s g => s.addHold .stale g
    else s

/-- Every freshness count increases by 1, a count of 15 stays (R60). -/
def advanceFreshness (s : State) : State :=
  { s with
    axes := s.axes.map fun a =>
      a.map fun r => { r with freshness := if r.freshness < 15 then r.freshness + 1 else r.freshness } }

/-- The freshness step of a local setpoint frame (R60). -/
def freshnessStep (s : State) : State := forAxes becomeStale (advanceFreshness s)

/-- Is any axis record marked STALE (R178)? -/
def State.anyAxisStale (s : State) : Bool :=
  s.axes.any fun a =>
    match a with
    | some r => r.stale
    | none => false

/-- AXIS_BECOMES_STALE (R60), the step of one axis standing alone (log entry 22). -/
def execAxisBecomesStale (axis : Nat) (s : State) : Out := finish s (becomeStale s axis)

end Sys2Proof.Machine
end

