-- ==== Sys2Proof/Machine/Fences.lean ====
section
/-!
DEFINITION. The fence and interlock unit (chapter 4): interlock conditions, the fence result of each gang, and the
INTERLOCK hold cause.
-/
namespace Sys2Proof.Machine

/-- A fence result at its creation and after a warm restart (R72, R88). -/
def FenceResult.cleared : FenceResult :=
  { lead := none, leadPosition := none, fence := none, source := .absent, remaining := none, blocking := [],
    inside := [] }

/-- Truth of an interlock row's condition: every member of the condition gang fresh and within the region, and the
gang not TRIPPED (R77). -/
def State.conditionHolds (s : State) (row : InterlockRow) : Bool :=
  ((s.members row.condition.toNat).all fun i =>
    match s.axis i with
    | some r => r.fresh && row.permits r.position
    | none => false) &&
  match s.gang row.condition.toNat with
  | some r => r.state != .tripped
  | none => true

/-- Blocking rows of a gang: valid rows naming it as subject whose condition is false, rising (R78). -/
def State.blockingRows (s : State) (g : Nat) : List Nat :=
  (List.range Config.interlockRows).filter fun i =>
    (s.active.interlockRow i).valid && (s.active.interlockRow i).subject.toNat == g &&
    !s.conditionHolds (s.active.interlockRow i)

/-- Blocking rows inside whose protected region a fresh member lies (R81). -/
def State.insideRows (s : State) (g : Nat) : List Nat :=
  (s.blockingRows g).filter fun i => (s.freshMembers g).any fun m => (s.active.interlockRow i).protects m.2.position

/-- The member furthest along d, the lowest axis row among equals (R74). -/
def leadOf (d : Int) : List (Nat × AxisRec) → Option (Nat × Int)
  | [] => none
  | m :: rest =>
    some (rest.foldl (fun best n => if d * n.2.position > d * best.2 then (n.1, n.2.position) else best)
      (m.1, m.2.position))

/-- Fence candidate of a blocking row: its near edge while the region is not wholly behind the lead (R78). -/
def InterlockRow.candidate (row : InterlockRow) (d lead : Int) : Option Int :=
  if d > 0 then (if row.protectedHigh.toInt ≥ lead then some row.protectedLow.toInt else none)
  else if row.protectedLow.toInt ≤ lead then some row.protectedHigh.toInt
  else none

/-- Nearest candidate along d, beginning with the envelope bound; a row must be strictly nearer to replace what
stands, so ENVELOPE and then the lowest row win ties (R75, R79). -/
def State.effectiveFence (s : State) (g : Nat) (d lead : Int) : Int × FenceSource :=
  (s.blockingRows g).foldl
    (fun best i =>
      match (s.active.interlockRow i).candidate d lead with
      | some edge => if d * edge < d * best.1 then (edge, .row i) else best
      | none => best)
    (if d > 0 then (s.gangRow g).high else (s.gangRow g).low, .envelope)

/-- Fence result of a gang in direction d (R74 to R79). -/
def State.fenceResult (s : State) (g : Nat) (d : Int) : FenceResult :=
  let sets := { FenceResult.cleared with blocking := s.blockingRows g, inside := s.insideRows g }
  if d = 0 then sets
  else
    match leadOf d (s.freshMembers g) with
    | none => { sets with remaining := some 0 }
    | some (i, pos) =>
      { sets with
        lead := some i
        leadPosition := some pos
        fence := some (s.effectiveFence g d pos).1
        source := (s.effectiveFence g d pos).2
        remaining := some (d * ((s.effectiveFence g d pos).1 - pos)) }

/-- Fence results of every gang that has a record, from the states as the skew pass left them (R73). -/
def fenceResults (s : State) : State :=
  { s with
    fences := (List.range Config.gangRows).map fun g =>
      match s.gang g with
      | some r => some (s.fenceResult g r.direction)
      | none => none }

/-- INTERLOCK of one gang: added while it has inside rows, with one INTERLOCK_BLOCKED record at its entry, removed
otherwise (R81, R82). -/
def interlockCause (s : State) (g : Nat) : State :=
  match s.gang g, s.fence g with
  | some r, some f =>
    match f.inside with
    | [] => s.removeHold .interlock g
    | row :: _ =>
      if r.holds.interlock then s
      else (s.addHold .interlock g).offerOwn .interlockBlocked (some g) (word4 (byteOf row) 0 0 0)
  | _, _ => s

/-- The fence pass (R73): every result first, then INTERLOCK of every gang. -/
def fencePass (s : State) : State := forGangs interlockCause (fenceResults s)

end Sys2Proof.Machine
end

