-- ==== Sys2Proof/Machine/Gangs.lean ====
section
/-!
DEFINITION. The gang controller (chapter 1): the skew, demand and state passes of a local setpoint frame, clearing a
trip, and PREWARN_EXPIRY. The fence pass stands in Fences.
-/
namespace Sys2Proof.Machine

/-! ### Records -/

/-- A gang record at its creation, before the causes that section 1.7 adds (R3). -/
def GangRec.created : GangRec :=
  { state := .held, holds := HoldSet.restartAlone, trips := TripSet.empty, firstTrip := none, direction := 0,
    skew := 0, currentCeiling := 0, recovery := none, prewarnLeft := none, prewarnDone := false, settleCount := 0 }

/-! ### Skew pass (R16, R17) -/

/-- Skew test of a record whose skew has been measured: the record, with RECOVERY ended where it ends, and whether
SKEW is added (R17, R27). -/
def skewTest (row : GangRow) (r : GangRec) : GangRec × Bool :=
  match r.recovery with
  | some limit =>
    if r.skew ≤ row.skewLimit then ({ r with recovery := none }, false)
    else (r, decide (r.skew > limit + row.band.toNat / 4))
  | none => (r, decide (r.skew > row.skewLimit))

/-- Skew pass of one gang: measure, test, overtravel (R16, R17, R84); a TRIPPED gang is tested with RECOVERY
clear. -/
def skewPassGang (s : State) (g : Nat) : State :=
  match s.gang g with
  | none => s
  | some r =>
    let measured := { r with skew := s.measuredSkew g }
    let tested :=
      if r.state = .tripped then (measured, decide (measured.skew > (s.gangRow g).skewLimit))
      else skewTest (s.gangRow g) measured
    let s1 := s.modifyGang g fun _ => tested.1
    let s2 := if tested.2 then s1.addTrip .skew g else s1
    if s2.overtravels g then s2.addTrip .overtravel g else s2

/-- The skew pass (R15). -/
def skewPass (s : State) : State := forGangs skewPassGang s

/-! ### Demand pass (R18) -/

/-- Common demand of an axis in a frame: that of its axis slot, 0 without one (R18, R34, R35). Where an upset has put
the node of a valid row outside 1 to 126, R32's first sentence would make its slot an axis slot and its last makes it an
unknown-axis slot; the model takes the last, here and in `State.slotClass`: the slot is stopped and no member's demand
(log entry 9, DESIGN CHOICE). Where an upset gives two valid rows one node, the slot goes through the pipeline for the
lowest row alone (`Bank.axisOfNode`), and is the demand of the member of each of the rows (log entry 9, DESIGN
CHOICE). -/
def State.axisDemand (s : State) (slots : List Slot) (i : Nat) : Int :=
  if within 1 126 (s.active.axisRow i).node.toNat then
    match slotOfNode slots (s.active.axisRow i).node with
    | some sl => (s.active.axisRow i).sign * velocityOf sl.raw
    | none => 0
  else 0

/-- Member demands of a gang in a frame (R18). -/
def State.memberDemands (s : State) (slots : List Slot) (g : Nat) : List Int :=
  (s.members g).map (s.axisDemand slots)

/-- Are a gang's demands all zero (R18)? -/
def State.demandsAllZero (s : State) (slots : List Slot) (g : Nat) : Bool :=
  (s.memberDemands slots g).all fun v => v == 0

/-- Direction of a gang in a frame: sign of the summed demands (R18). -/
def State.demandDirection (s : State) (slots : List Slot) (g : Nat) : Int :=
  signOf (s.memberDemands slots g).sum

/-- The demand pass: d of every gang (R18). -/
def demandPass (slots : List Slot) (s : State) : State :=
  forGangs (fun s g => s.modifyGang g fun r => { r with direction := s.demandDirection slots g }) s

/-! ### State pass (R19 to R25) -/

/-- CRUISE or APPROACH by the remaining distance (R21 to R23). -/
def placeByDistance (row : GangRow) (remaining : Int) : GangState :=
  if remaining ≤ 0 then .approach
  else if remaining ≥ row.approachDistance then .cruise
  else .approach

/-- Remaining distance of a gang's fence result. -/
def State.remaining (s : State) (g : Nat) : Int := ((s.fence g).bind fun f => f.remaining).getD 0

/-- Last forwarded velocity p of a record, 0 where the axis starts from rest in a gang newly valid (R29, R30, log entry
25). -/
def ForwardRec.last (w : ForwardRec) : Int := if w.fromRest then 0 else w.velocity

/-- Every member's last forwarded velocity is 0 and every fresh member moves no faster than the settle velocity
(R23, R24). -/
def State.atRest (s : State) (g : Nat) : Bool :=
  ((s.members g).all fun i =>
    match s.forward i with
    | some w => w.last == 0
    | none => true) &&
  (s.freshMembers g).all fun m => decide ((m.2.velocity.natAbs : Int) ≤ (s.gangRow g).settleSpeed)

/-- Breakaway test: every fresh member that has a start position lies at the breakaway distance or further (R21). -/
def State.brokenAway (s : State) (g : Nat) : Bool :=
  (s.freshMembers g).all fun m =>
    match m.2.start with
    | some start => decide (((m.2.position - start).natAbs : Int) ≥ (s.gangRow g).breakawayDistance)
    | none => true

/-- Start positions written at entry to BREAKAWAY (R21). -/
def State.writeStarts (s : State) (g : Nat) : State :=
  (s.members g).foldl
    (fun s i => s.modifyAxis i fun r => { r with start := if r.reported then some r.position else none }) s

/-- Entry to BREAKAWAY (R19 to R21). -/
def State.enterBreakaway (s : State) (g : Nat) : State :=
  (s.modifyGang g fun r => { r with state := .breakaway, prewarnDone := false }).writeStarts g

/-- Step of a gang in IDLE (R19). -/
def stepIdle (s : State) (g : Nat) (d : Int) : State :=
  if d = 0 then s
  else if (s.gangRow g).prewarnMs > 0 then
    s.modifyGang g fun r =>
      { r with state := .prewarn, prewarnLeft := some (s.gangRow g).prewarnMs, prewarnDone := false }
  else s.enterBreakaway g

/-- Step of a gang in PREWARN (R20). -/
def stepPrewarn (s : State) (g : Nat) (d : Int) (allZero : Bool) (ready : Bool) : State :=
  if allZero then s.modifyGang g fun r => { r with state := .idle, prewarnLeft := none, prewarnDone := false }
  else if ready && d != 0 then s.enterBreakaway g
  else s

/-- Step of a gang in BREAKAWAY (R21). -/
def stepBreakaway (s : State) (g : Nat) (d : Int) (allZero : Bool) : State :=
  if allZero then s.modifyGang g fun r => { r with state := .settle, settleCount := 0 }
  else if d != 0 && s.brokenAway g then
    s.modifyGang g fun r => { r with state := placeByDistance (s.gangRow g) (s.remaining g) }
  else s

/-- Step of a gang in CRUISE or APPROACH (R22). -/
def stepTravel (s : State) (g : Nat) (d : Int) (allZero : Bool) : State :=
  if allZero then s.modifyGang g fun r => { r with state := .settle, settleCount := 0 }
  else if d != 0 then s.modifyGang g fun r => { r with state := placeByDistance (s.gangRow g) (s.remaining g) }
  else s

/-- Step of a gang in SETTLE (R23); a gang that leaves SETTLE keeps its count (log entry 32). -/
def stepSettle (s : State) (g : Nat) (d : Int) : State :=
  if d != 0 then s.modifyGang g fun r => { r with state := placeByDistance (s.gangRow g) (s.remaining g) }
  else if s.atRest g then
    s.modifyGang g fun r =>
      { r with
        settleCount := r.settleCount + 1
        state := if r.settleCount + 1 ≥ (s.gangRow g).settleCycles.toNat then .idle else .settle }
  else s.modifyGang g fun r => { r with settleCount := 0 }

/-- Step of a gang in HOLDING (R24). -/
def stepHolding (s : State) (g : Nat) : State :=
  if s.atRest g then s.modifyGang g fun r => { r with state := .held } else s

/-- Step of a gang in HELD (R25). -/
def stepHeld (s : State) (g : Nat) (allZero : Bool) (noHold : Bool) : State :=
  if noHold && allZero then s.modifyGang g fun r => { r with state := .idle } else s

/-- State pass of one gang: RESTART removed where every demand is zero (R12), then the step of its state. -/
def statePassGang (slots : List Slot) (s : State) (g : Nat) : State :=
  let allZero := s.demandsAllZero slots g
  let s1 := if allZero then s.removeHold .restart g else s
  match s1.gang g with
  | none => s1
  | some r =>
    match r.state with
    | .idle => stepIdle s1 g r.direction
    | .prewarn => stepPrewarn s1 g r.direction allZero r.prewarnDone
    | .breakaway => stepBreakaway s1 g r.direction allZero
    | .cruise => stepTravel s1 g r.direction allZero
    | .approach => stepTravel s1 g r.direction allZero
    | .settle => stepSettle s1 g r.direction
    | .holding => stepHolding s1 g
    | .held => stepHeld s1 g allZero r.holds.isEmpty
    | .tripped => s1

/-- The state pass (R15). -/
def statePass (slots : List Slot) (s : State) : State := forGangs (statePassGang slots) s

/-- The gang controller's four passes (R15). -/
def gangPasses (slots : List Slot) (s : State) : State :=
  statePass slots (fencePass (demandPass slots (skewPass s)))

/-! ### Clearing a trip (R26) -/

/-- ECHO_FAULT marks and echo mismatch counts of a gang's members cleared (R26, R67). -/
def State.clearEcho (s : State) (g : Nat) : State :=
  (s.members g).foldl (fun s i => s.modifyAxis i fun r => { r with echoCount := 0, echoFault := false }) s

/-- Does a member's last report carry FAULT (R26)? -/
def State.anyFault (s : State) (g : Nat) : Bool :=
  (s.members g).any fun i =>
    match s.axis i with
    | some r => r.fault
    | none => false

/-- Acceptance of CLEAR TRIP for a TRIPPED gang (R26). -/
def State.acceptClearTrip (s : State) (g : Nat) : State :=
  let s1 := s.clearEcho g
  let skew := s1.measuredSkew g
  s1.modifyGang g fun r =>
    { r with
      trips := TripSet.empty
      firstTrip := none
      state := .held
      skew := skew
      recovery := if skew > (s1.gangRow g).skewLimit then some skew else none }

/-! ### Warm restart (R28) -/

/-- A gang record after a warm restart, before OPERATOR and WIND are added again (R28). -/
def GangRec.restarted (_ : GangRec) : GangRec := GangRec.created

/-! ### PREWARN_EXPIRY (R20) -/

/-- The prewarn timer of a gang has run out: it stops and PREWARN_DONE is set; one stopped or started again since does
not expire (R20, log entry 3). -/
def prewarnExpires (s : State) (g : Nat) : State :=
  s.modifyGang g fun r =>
    if r.prewarnLeft = some 0 then { r with prewarnLeft := none, prewarnDone := true } else r

/-- PREWARN_EXPIRY (R20). -/
def execPrewarnExpiry (gang : Nat) (s : State) : Out := finish s (prewarnExpires s gang)

end Sys2Proof.Machine
end

