-- ==== Sys2Proof/Machine/Pipeline.lean ====
section
/-!
DEFINITION. The setpoint engine (chapter 2): the eight steps, the treatment of duplicate and unknown-axis slots, the
forwarding records, the current ceilings and the zeros of the refresh.
-/
namespace Sys2Proof.Machine

/-- A forwarding record at its creation and after a warm restart (R30). -/
def ForwardRec.cleared : ForwardRec :=
  { velocity := 0, recentRaw := 0, previousRaw := 0, enable := false, fromRest := false }

/-! ### The steps -/

/-- Step 3, direction conformance (R39). -/
def conform (d v : Int) : Int := if d = 0 then 0 else if d * v < 0 then 0 else v

/-- Governor ceiling G: the first case of the table of R40. -/
def governor (row : GangRow) (st : GangState) (d remaining : Int) : Int :=
  if d = 0 then (if st = .breakaway then row.creep else row.cruise)
  else if remaining ≤ 0 then 0
  else if st = .breakaway then row.creep
  else if remaining < row.approachDistance then
    max row.creep ((row.cruise * remaining).tdiv row.approachDistance)
  else row.cruise

/-- Ceiling E = G × W / 100, truncated (R41, log entry 30). -/
def windCeiling (row : GangRow) (cls : Nat) (g : Int) : Int := (g * row.windPercent cls).tdiv 100

/-- Trim factor in per mille for a lead e (R42); F is 0 while RECOVERY is set (R27). -/
def trimFactor (row : GangRow) (recovery : Bool) (e : Int) : Int :=
  let quotient := if row.trimBand = 0 then Config.trimQuotientOpen e else (1000 * e).tdiv row.trimBand
  clamp (10 * (if recovery then 0 else row.trimFloor)) 1000 (1000 - quotient)

/-- Lead of a fresh member over the laggard along d; none when the axis is not fresh (R42, R43). -/
def State.leadOverLaggard (s : State) (g i : Nat) (d : Int) : Option Int :=
  match s.axis i with
  | some r =>
    if r.fresh then
      some (d * saturate r.position -
        ((s.freshPositions g).map fun p => d * p).foldl min (d * saturate r.position))
    else none
  | none => none

/-- Step 5, skew trim (R42, R43). -/
def State.trim (s : State) (g i : Nat) (r : GangRec) (v : Int) : Int :=
  if r.direction = 0 then v
  else
    match s.leadOverLaggard g i r.direction with
    | some e => (v * trimFactor (s.gangRow g) r.recovery.isSome e).tdiv 1000
    | none => v

/-- The slew limit (R44). -/
def slewTo (step p v : Int) : Int := if v - p > step then p + step else if p - v > step then p - step else v

/-- The fence exception: r ≤ 0 in a frame with a direction, and p toward the reached fence (R44). -/
def fenceStops (d remaining p : Int) : Bool := d != 0 && decide (remaining ≤ 0) && p != 0 && signOf p == d

/-- Step 6, slew limit with the fence exception, in a driven state (R44). -/
def slewDriven (row : GangRow) (d remaining p v : Int) : Int :=
  if fenceStops d remaining p then 0 else slewTo row.slew p v

/-- The hold ramp: p moved toward zero by Hg (R37). -/
def rampToZero (step p : Int) : Int :=
  if (p.natAbs : Int) > step then (if p > 0 then p - step else p + step) else 0

/-- Step 7, cruise bound (R46). -/
def cruiseBound (row : GangRow) (v : Int) : Int := clamp (-row.cruise) row.cruise v

/-- Ceiling E of a gang in this frame (R40, R41). -/
def State.ceilingOf (s : State) (g : Nat) (r : GangRec) : Int :=
  windCeiling (s.gangRow g) s.classInFrame (governor (s.gangRow g) r.state r.direction (s.remaining g))

/-- Steps 3 to 6 for an axis of a gang in BREAKAWAY, CRUISE or APPROACH. -/
def State.drivenVelocity (s : State) (g i : Nat) (r : GangRec) (p v : Int) : Int :=
  let e := s.ceilingOf g r
  slewDriven (s.gangRow g) r.direction (s.remaining g) p (s.trim g i r (clamp (-e) e (conform r.direction v)))

/-- Steps 2 to 7: the common velocity decided for an axis with last forwarded velocity p and common demand v (R36 to
R46). -/
def State.decideVelocity (s : State) (g i : Nat) (r : GangRec) (p v : Int) : Int :=
  match r.state with
  | .tripped => 0
  | .idle => cruiseBound (s.gangRow g) 0
  | .prewarn => cruiseBound (s.gangRow g) 0
  | .held => cruiseBound (s.gangRow g) 0
  | .holding => cruiseBound (s.gangRow g) (rampToZero (s.gangRow g).hold p)
  | .settle => cruiseBound (s.gangRow g) (slewTo (s.gangRow g).slew p 0)
  | .breakaway => cruiseBound (s.gangRow g) (s.drivenVelocity g i r p v)
  | .cruise => cruiseBound (s.gangRow g) (s.drivenVelocity g i r p v)
  | .approach => cruiseBound (s.gangRow g) (s.drivenVelocity g i r p v)

/-- Step 8: the forwarding record after a slot forwarded with a common velocity (R47). -/
def ForwardRec.after (w : ForwardRec) (sign v : Int) (enable : Bool) : ForwardRec :=
  { velocity := v, recentRaw := sign * v, previousRaw := w.recentRaw, enable := enable, fromRest := false }

/-! ### Slots (R32, R33) -/

/-- What a slot is in its frame (R32). -/
inductive SlotClass where
  | axis (row : Nat)
  | duplicate
  | unknown
  deriving DecidableEq, Repr

/-- Class of a slot after the nodes of the earlier slots of its frame (R32). A node outside 1 to 126 is an unknown-axis
slot even where an upset has given it to a valid row (log entry 9, DESIGN CHOICE). -/
def State.slotClass (s : State) (seen : List Byte) (node : Byte) : SlotClass :=
  if !within 1 126 node.toNat then .unknown
  else
    match s.active.axisOfNode node with
    | none => .unknown
    | some i => if seen.contains node then .duplicate else .axis i

/-- A slot stopped: velocity 0, ENABLE cleared, QUICKSTOP as received (R32, R33). -/
def Slot.stopped (sl : Slot) : Slot := { sl with raw := 0, enable := false }

/-- An unknown-axis slot: the flag, and one event per node (R33). -/
def unknownSlot (node : Byte) (s : State) : State :=
  let s1 := s.setFlag .unknownAxis
  if s.reportedNodes.contains node then s1
  else
    let s2 := s1.offerOwn .unknownAxis none (word4 node 0 0 0)
    { s2 with reportedNodes := node :: s2.reportedNodes }

/-- The axis slot forwarded with a common velocity, and its record (R35, R36, R47). -/
def forwardSlot (i : Nat) (v : Int) (quick : Bool) (sl : Slot) (s : State) : State × Slot :=
  let sign := (s.active.axisRow i).sign
  (s.modifyForward i fun w => w.after sign v sl.enable,
   { sl with raw := BitVec.ofInt 16 (sign * v), quickstop := sl.quickstop || quick })

/-- Last forwarded velocity p of an axis (R29, R30). An axis that an upset (R126) has made valid has no record until a swap:
its p is a free value (log entry 9). -/
def State.lastVelocity (s : State) (i : Nat) : Int :=
  match s.forward i with
  | some w => w.last
  | none => velocityOf (Config.orphanLast s.draws i)

/-- Is the gang of an axis TRIPPED (R36, R49)? A gang without a record is not (log entry 9). -/
def State.axisTripped (s : State) (i : Nat) : Bool :=
  match s.gang (s.active.axisRow i).gang.toNat with
  | some r => r.state == .tripped
  | none => false

/-- The common velocity forwarded in an axis slot with common demand v (R36 to R46). A gang that an upset (R126) has
left without a record has no state: its axis is forwarded a free value, within the cruise ceiling of the row it names as
every other (R46), unbounded where no gang row has the number (log entry 9). -/
def State.slotVelocity (s : State) (i : Nat) (v : Int) : Int :=
  let g := (s.active.axisRow i).gang.toNat
  match s.gang g with
  | some r => s.decideVelocity g i r (s.lastVelocity i) v
  | none =>
    if g < Config.gangRows then cruiseBound (s.gangRow g) (velocityOf (Config.orphanVelocity s.draws i))
    else velocityOf (Config.orphanVelocity s.draws i)

/-- An axis slot through the pipeline (R35 to R47). -/
def axisSlot (i : Nat) (sl : Slot) (s : State) : State × Slot :=
  forwardSlot i (s.slotVelocity i ((s.active.axisRow i).sign * velocityOf sl.raw)) (s.axisTripped i) sl s

/-- An axis slot during the refresh: velocity 0, QUICKSTOP set for a TRIPPED gang (R49). -/
def refreshSlot (i : Nat) (sl : Slot) (s : State) : State × Slot := forwardSlot i 0 (s.axisTripped i) sl s

/-- One slot of a local setpoint frame (R31 to R33, R49). -/
def rewriteSlot (refreshing : Bool) (seen : List Byte) (sl : Slot) (s : State) : State × Slot :=
  match s.slotClass seen sl.node with
  | .axis i => if refreshing then refreshSlot i sl s else axisSlot i sl s
  | .duplicate => (s, sl.stopped)
  | .unknown => (unknownSlot sl.node s, sl.stopped)

/-- The slots of a frame, in frame order (R31). -/
def rewriteSlots (refreshing : Bool) (seen : List Byte) : List Slot → State → State × List Slot
  | [], s => (s, [])
  | sl :: rest, s =>
    let one := rewriteSlot refreshing seen sl s
    let more := rewriteSlots refreshing (sl.node :: seen) rest one.1
    (more.1, one.2 :: more.2)

/-- The current ceiling of a gang: E in a driven state, 0 in any other (R41). -/
def writeCeiling (s : State) (g : Nat) : State :=
  s.modifyGang g fun r => { r with currentCeiling := if r.state.driven then s.ceilingOf g r else 0 }

/-- Current ceilings of every gang (R41); during the refresh they stay (R49). -/
def writeCeilings (s : State) : State := forGangs writeCeiling s

end Sys2Proof.Machine
end

