-- ==== Sys2Proof/Machine/Site.lean ====
section
/-!
DEFINITION. The site input unit (chapter 5): wind classes and weather staleness, the hold-station pushbutton, the
warning lines. WEATHER_TIMER_EXPIRY, PRESS_START, DEBOUNCE_EXPIRY, PRESS_RELEASE, LONG_PRESS, WARN_ON_TIME_END,
WARN_PERIOD_END.
-/
namespace Sys2Proof.Machine

/-! ### Wind -/

/-- Weather freshness period in ms (R91). -/
def weatherPeriod : Nat := 3000

/-- Highest class whose threshold a gust reaches (R91, step 1). -/
def riseClass (c : ConfigRow) (gust : Int) : Nat :=
  if gust ≥ c.windThreshold 3 then 3
  else if gust ≥ c.windThreshold 2 then 2
  else if gust ≥ c.windThreshold 1 then 1
  else 0

/-- Falls from a class while the gust lies below its threshold less the hysteresis (R91, step 2). -/
def fallClass (c : ConfigRow) (gust : Int) : Nat → Nat
  | 0 => 0
  | k + 1 => if gust < c.windThreshold (k + 1) - c.hysteresis.toNat then fallClass c gust k else k + 1

/-- Class a weather arrival gives: afresh while stale (R92), else rise or fall from the present class (R91). -/
def gustClass (c : ConfigRow) (stale : Bool) (k : Nat) (gust : Int) : Nat :=
  if stale then riseClass c gust
  else if riseClass c gust > k then riseClass c gust
  else fallClass c gust k

/-- A weather arrival (R90 to R92): the class, the mark cleared, the timer restarted. -/
def weatherArrives (gust : Int) (s : State) : State :=
  let cls := gustClass s.config s.weatherStale s.windClass gust
  State.changeWindClass { s with weatherStale := false, weatherTimer := some weatherPeriod } cls .arrival

/-- A WEATHER frame from segment S: an arrival when its node is the weather node (R90). -/
def applyWeather (p : List Byte) (s : State) : State :=
  if u8 p 1 == s.config.weatherNode then weatherArrives (gustOf p) s else s

/-- The weather becomes stale at the timer's expiry (R93). -/
def weatherExpires (s : State) : State :=
  (State.changeWindClass { s with weatherStale := true, weatherTimer := none } 3 .stale).setFlag .weatherStale

/-- WEATHER_TIMER_EXPIRY (R93): the expiry of a timer that has run out; one restarted or stopped since does not
expire (log entry 3). -/
def execWeatherTimerExpiry (s : State) : Out :=
  finish s (if s.weatherTimer = some 0 then weatherExpires s else s)

/-! ### Hold station -/

/-- Long-press time a new press is measured against: the code of the active config row, 3,000 ms while no bank is
active (R98). -/
def State.longPressNow (s : State) : Nat := if s.bankPresent then s.config.longPressTime else 3000

/-- DEBOUNCE_EXPIRY (R98): a press in DEBOUNCE has reached 60 ms. -/
def execDebounceExpiry (s : State) : Out :=
  finish s (match s.press with
    | .debounce => if 60 ≤ s.pressTime then { s with press := .armed } else s
    | .released => s
    | .armed => s
    | .long => s)

/-- A SHORT press: the mark, PRESS_SHORT, and OPERATOR on every gang (R99); the press time stops (log entry 27). -/
def shortPress (s : State) : State :=
  (State.setFlag { s with press := .released, operatorHold := true } .pressShort).addHoldAll .operator

/-- HOLDn seen low: a press begins in RELEASED; in any other press state the line was low already (R98). -/
def pressBegins (s : State) : State :=
  match s.press with
  | .released => { s with press := .debounce, pressTime := 0, longTime := s.longPressNow }
  | .debounce => s
  | .armed => s
  | .long => s

/-- HOLDn seen high: ignored in DEBOUNCE, a SHORT press in ARMED, no further effect in LONG (R98 to R100). -/
def pressEnds (s : State) : State :=
  match s.press with
  | .released => s
  | .debounce => { s with press := .released }
  | .armed => shortPress s
  | .long => { s with press := .released }

/-- The level the press state has seen at the last sample: low in every press state but RELEASED (R97). -/
def State.levelSeen (s : State) : Bool :=
  match s.press with
  | .released => false
  | .debounce => true
  | .armed => true
  | .long => true

/-- HOLDn takes a level. The change is taken at the sample of this millisecond; a level that changes again in the same
millisecond is taken at the next sample, if it still stands (R190, log entry 38). In reset nothing is taken. -/
def holdnTakes (low : Bool) (s : State) : State :=
  if s.inReset then s
  else if s.sampled then { s with holdnLow := low }
  else if s.levelSeen = low then { s with holdnLow := low }
  else (if low then pressBegins else pressEnds) { s with holdnLow := low, sampled := true }

/-- PRESS_START (R98): HOLDn goes low. -/
def execPressStart (s : State) : Out := finish s (holdnTakes true s)

/-- PRESS_RELEASE (R98 to R100): HOLDn goes high. -/
def execPressRelease (s : State) : Out := finish s (holdnTakes false s)

/-- A LONG press: PRESS_LONG, and the mark with OPERATOR lifted where it was set (R100). -/
def longPressActs (s : State) : State :=
  let s1 := State.setFlag { s with press := .long } .pressLong
  if s.operatorHold then State.removeHoldAll { s1 with operatorHold := false } .operator else s1

/-- LONG_PRESS (R100): a press in ARMED has reached its long-press time. -/
def execLongPress (s : State) : Out :=
  finish s (match s.press with
    | .armed => if s.longTime ≤ s.pressTime then longPressActs s else s
    | .released => s
    | .debounce => s
    | .long => s)

/-! ### Warning lines -/

/-- Update one line generator. -/
def State.modifyLine (s : State) (i : Nat) (f : LineGen → LineGen) : State :=
  match s.lines[i]? with
  | some l => { s with lines := s.lines.set i (f l) }
  | none => s

/-- The on time of a flashing line has ended; an on time of the whole period has no end of its own, and a period begun
since has not reached its on time (R104). -/
def lineOnTimeEnds (s : State) (i : Nat) (l : LineGen) : LineGen :=
  if l.demand.flashes && decide ((s.lineTiming i l.demand).2 < (s.lineTiming i l.demand).1) &&
      decide ((s.lineTiming i l.demand).2 ≤ l.time) then
    { l with level := false }
  else l

/-- The flash period has ended and a new one begins with the line on (R104). -/
def linePeriodEnds (s : State) (i : Nat) (l : LineGen) : LineGen :=
  if l.demand.flashes && decide ((s.lineTiming i l.demand).1 ≤ l.time) then { l with time := 0, level := true } else l

/-- WARN_ON_TIME_END (R104). -/
def execWarnOnTimeEnd (line : Nat) (s : State) : Out :=
  finish s (s.modifyLine line (lineOnTimeEnds s line))

/-- WARN_PERIOD_END (R104). -/
def execWarnPeriodEnd (line : Nat) (s : State) : Out :=
  finish s (s.modifyLine line (linePeriodEnds s line))

/-! ### Swap, warm restart, refresh mismatch -/

/-- The weather made stale at a swap; the record of the change is queued here, the gangs' WIND is re-determined by
the gang controller's part of the swap (R95, R29). The swap frame is processed under class 3 (log entry 30). -/
def weatherAtSwap (s : State) : State :=
  { (State.setWindClass { s with weatherStale := true, weatherTimer := none } 3 .swap).setFlag .weatherStale with
    frameClass := none }

/-- The wind state at a refresh mismatch (R96). -/
def weatherLost (s : State) : State := { s with windClass := 3, frameClass := none, weatherStale := true, weatherTimer := none }

/-- The line records that differ between two config rows start afresh at a swap, the others as for any change of
demand (R105). -/
def linesAtSwap (old : ConfigRow) (s : State) : State :=
  { s with
    lines := s.lines.mapIdx fun i l =>
      if old.line i = s.config.line i && l.demand = s.lineDemand i then l else LineGen.take (s.lineDemand i) }

end Sys2Proof.Machine
end

