-- ==== Sys2Proof/Machine/Tables.lean ====
section
/-!
DEFINITION. The table store (chapter 6): the five table commands, verification, the swap with what every block does
at it, the refresh and its mismatch, and upsets. VERIFICATION_COMPLETION, REFRESH_COMPLETION, BANK_UPSET.
-/
namespace Sys2Proof.Machine

/-! ### Results of management commands (R184, section 10.3) -/

/-- The seven result codes. -/
inductive ResultCode where
  | done
  | started
  | busy
  | badIndex
  | badField
  | notAllowed
  | unknownCommand
  deriving DecidableEq, Repr

/-- Value of a result code (section 10.3). -/
def ResultCode.value : ResultCode → Byte
  | .done => 0x00
  | .started => 0x01
  | .busy => 0x02
  | .badIndex => 0x03
  | .badField => 0x04
  | .notAllowed => 0x05
  | .unknownCommand => 0x06

/-- What a management command leaves: the state, the result, and the returned data (R183, R188). -/
structure Reply where
  state : State
  result : ResultCode
  data : List Byte

/-- A reply without returned data. -/
def reply (s : State) (r : ResultCode) : Reply := { state := s, result := r, data := [] }

/-- A table command refused with BUSY sets INVALID_MGMT (R113). -/
def replyBusy (s : State) : Reply := reply (s.setFlag .invalidMgmt) .busy

/-! ### Tables and indices (R114) -/

/-- The four tables. -/
inductive Table where
  | config
  | axis
  | gang
  | interlock
  deriving DecidableEq, Repr

/-- The table a selector names (section 10.3). -/
def tableOf (selector : Byte) : Option Table :=
  if selector = 0 then some .config
  else if selector = 1 then some .axis
  else if selector = 2 then some .gang
  else if selector = 3 then some .interlock
  else none

/-- Rows of a table (R114). -/
def Table.rows : Table → Nat
  | .config => 1
  | .axis => Config.axisRows
  | .gang => Config.gangRows
  | .interlock => Config.interlockRows

/-- Bytes of a row (section 10.5). -/
def Table.rowBytes : Table → Nat
  | .config => 36
  | .axis => 7
  | .gang => 35
  | .interlock => 19

/-- Bytes of a row as they stand in a bank. -/
def Bank.rowImage (b : Bank) (t : Table) (i : Nat) : List Byte :=
  match t with
  | .config => b.config.toBytes
  | .axis => (b.axisRow i).toBytes
  | .gang => (b.gangRow i).toBytes
  | .interlock => (b.interlockRow i).toBytes

/-- A config row with its reserved bits as they are sent (R188, section 10.5). -/
def ConfigRow.sent (r : ConfigRow) : ConfigRow :=
  { r with options := r.options &&& 0x3F, faultMask := r.faultMask &&& 0x00FFFFFF }

/-- An axis row with its reserved bits as they are sent (R188, section 10.5). -/
def AxisRow.sent (r : AxisRow) : AxisRow := { r with flags := r.flags &&& 0x1F }

/-- A gang row with its reserved bits as they are sent (R188, section 10.5). -/
def GangRow.sent (r : GangRow) : GangRow := { r with validByte := r.validByte &&& 0x01 }

/-- An interlock row with its reserved bits as they are sent (R188, section 10.5). -/
def InterlockRow.sent (r : InterlockRow) : InterlockRow := { r with validByte := r.validByte &&& 0x01 }

/-- Bytes of a row in the answer to TABLE READ: as they stand, but that a reserved bit, which only an upset sets (R126), is
sent as 0 (R188), and an invalid row is sent as all zero (R116). -/
def Bank.rowAnswer (b : Bank) (t : Table) (i : Nat) : List Byte :=
  match t with
  | .config => b.config.sent.toBytes
  | .axis => if (b.axisRow i).valid then (b.axisRow i).sent.toBytes else List.replicate 7 0
  | .gang => if (b.gangRow i).valid then (b.gangRow i).sent.toBytes else List.replicate 35 0
  | .interlock => if (b.interlockRow i).valid then (b.interlockRow i).sent.toBytes else List.replicate 19 0

/-- A bank with a written row, none when a field or relation is out of range; a row written invalid becomes all zero
unchecked (R114, R115). -/
def Bank.writeRow (b : Bank) (t : Table) (i : Nat) (row : List Byte) : Option Bank :=
  match t with
  | .config => if (ConfigRow.ofBytes row 0).inRange then some { b with config := ConfigRow.ofBytes row 0 } else none
  | .axis =>
    if !(AxisRow.ofBytes row 0).valid then some { b with axes := b.axes.set i invalidAxis }
    else if (AxisRow.ofBytes row 0).inRange then some { b with axes := b.axes.set i (AxisRow.ofBytes row 0) }
    else none
  | .gang =>
    if !(GangRow.ofBytes row 0).valid then some { b with gangs := b.gangs.set i invalidGang }
    else if (GangRow.ofBytes row 0).inRange then some { b with gangs := b.gangs.set i (GangRow.ofBytes row 0) }
    else none
  | .interlock =>
    if !(InterlockRow.ofBytes row 0).valid then some { b with interlocks := b.interlocks.set i invalidInterlock }
    else if (InterlockRow.ofBytes row 0).inRange then
      some { b with interlocks := b.interlocks.set i (InterlockRow.ofBytes row 0) }
    else none

/-! ### The table commands (R113 to R119) -/

/-- Is a table command refused with BUSY: during the refresh, or, for those that edit, outside EDITING (R113)? -/
def State.tableBusy (s : State) (edits : Bool) : Bool := s.refresh.isSome || (edits && s.pendingState != .editing)

/-- TABLE WRITE (R114, R115). -/
def tableWrite (s : State) (args : List Byte) : Reply :=
  if s.tableBusy true then replyBusy s
  else
    match tableOf (u8 args 0) with
    | none => reply s .badIndex
    | some t =>
      if t.rows ≤ (u8 args 1).toNat then reply s .badIndex
      else
        match s.pendingBank.writeRow t (u8 args 1).toNat (args.drop 2) with
        | none => reply s .badField
        | some b => reply { s with pendingBank := b } .done

/-- Value of a pending bank state (section 10.3). -/
def PendingState.value : PendingState → Byte
  | .editing => 0
  | .verifying => 1
  | .readyToSwap => 2

/-- TABLE READ (R116, R189). -/
def tableRead (s : State) (args : List Byte) : Reply :=
  if s.tableBusy false then replyBusy s
  else
    match tableOf (u8 args 1) with
    | none => reply s .badIndex
    | some t =>
      if 1 < (u8 args 0).toNat || t.rows ≤ (u8 args 2).toNat then reply s .badIndex
      else if u8 args 0 = 0 then
        if s.bankPresent then
          { state := s, result := .done,
            data := s.active.rowAnswer t (u8 args 2).toNat ++ bytes16 (s.verifiedCrc.getD 0) }
        else reply s .notAllowed
      else
        { state := s, result := .done,
          data := s.pendingBank.rowAnswer t (u8 args 2).toNat ++ [s.pendingState.value] }

/-- COPY ACTIVE (R117). -/
def copyActive (s : State) : Reply :=
  if s.tableBusy true then replyBusy s
  else if s.bankPresent then reply { s with pendingBank := s.active } .done
  else reply s .notAllowed

/-- DISCARD PENDING (R118). -/
def discardPending (s : State) : Reply :=
  if s.tableBusy true then replyBusy s
  else reply { s with pendingBank := defaultBank } .done

/-- ACTIVATE (R119). -/
def activate (s : State) (args : List Byte) : Reply :=
  if s.tableBusy true then replyBusy s
  else reply { s with pendingState := .verifying, expectedCrc := some (u16 args 0) } .started

/-! ### Verification (R121 to R123) -/

/-- Reasons a verification fails, in check order (R121). -/
inductive VerifyReason where
  | crcMismatch
  | route
  | duplicateNode
  | noGang
  | emptyGang
  | skewLimit
  | envelope
  | interlockGang
  | movingMembership
  deriving DecidableEq, Repr

/-- Value of a reason (section 10.4). -/
def VerifyReason.value : VerifyReason → Byte
  | .crcMismatch => 1
  | .route => 2
  | .duplicateNode => 3
  | .noGang => 4
  | .emptyGang => 5
  | .skewLimit => 6
  | .envelope => 7
  | .interlockGang => 8
  | .movingMembership => 9

/-- Does the gang field of ACTIVATION_FAILED name the gang for a reason (R122)? -/
def VerifyReason.namesGang : VerifyReason → Bool
  | .emptyGang => true
  | .skewLimit => true
  | .envelope => true
  | .movingMembership => true
  | .crcMismatch => false
  | .route => false
  | .duplicateNode => false
  | .noGang => false
  | .interlockGang => false

/-- First index below n that offends (R121). -/
def firstBelow (n : Nat) (offends : Nat → Bool) : Option Nat := (List.range n).find? offends

/-- Check 3: a valid axis row whose node an earlier valid row has; the higher of the two is reported. Of several pairs
the one whose higher row is lowest is the first (log entry 40, DEDUCED). -/
def Bank.duplicateNode (b : Bank) : Option Nat :=
  firstBelow Config.axisRows fun j =>
    (b.axisRow j).valid &&
    (List.range j).any fun i => (b.axisRow i).valid && (b.axisRow i).node == (b.axisRow j).node

/-- Check 4: a valid axis row that names no valid gang. -/
def Bank.noGang (b : Bank) : Option Nat :=
  firstBelow Config.axisRows fun i => (b.axisRow i).valid && !(b.gangRow (b.axisRow i).gang.toNat).valid

/-- Check 5: a valid gang without a member. -/
def Bank.emptyGang (b : Bank) : Option Nat :=
  firstBelow Config.gangRows fun g => (b.gangRow g).valid && (b.members g).isEmpty

/-- Check 6: a valid gang with K below B. -/
def Bank.skewLimitBroken (b : Bank) : Option Nat :=
  firstBelow Config.gangRows fun g => (b.gangRow g).valid && decide ((b.gangRow g).skewLimit < (b.gangRow g).band.toNat)

/-- Check 7: a valid gang whose envelope is empty or a point. -/
def Bank.envelopeBroken (b : Bank) : Option Nat :=
  firstBelow Config.gangRows fun g => (b.gangRow g).valid && decide ((b.gangRow g).high ≤ (b.gangRow g).low)

/-- Check 8: a valid interlock row that names an invalid gang, or one gang twice. -/
def Bank.interlockBroken (b : Bank) : Option Nat :=
  firstBelow Config.interlockRows fun i =>
    (b.interlockRow i).valid &&
    (!(b.gangRow (b.interlockRow i).subject.toNat).valid || !(b.gangRow (b.interlockRow i).condition.toNat).valid ||
      (b.interlockRow i).subject == (b.interlockRow i).condition)

/-- Check 9: a gang in a moving state whose row or member set the pending bank would change. -/
def State.movingMembership (s : State) : Option Nat :=
  firstBelow Config.gangRows fun g =>
    match s.gang g with
    | some r =>
      r.state.moving &&
      (!(s.pendingBank.gangRow g).valid || s.pendingBank.memberSet g != s.active.memberSet g)
    | none => false

/-- A failed check with the index it reports, if any. -/
def failAt (reason : VerifyReason) (i : Option Nat) : Option (VerifyReason × Option Nat) :=
  i.map fun n => (reason, some n)

/-- The first check that fails, with its index (R121). -/
def verifyFailure (s : State) : Option (VerifyReason × Option Nat) :=
  if s.expectedCrc != some s.pendingBank.crc then some (.crcMismatch, none)
  else if s.pendingBank.config.subordinate.toNat < s.pendingBank.config.segment.toNat then some (.route, none)
  else
    (failAt .duplicateNode s.pendingBank.duplicateNode).or <|
    (failAt .noGang s.pendingBank.noGang).or <|
    (failAt .emptyGang s.pendingBank.emptyGang).or <|
    (failAt .skewLimit s.pendingBank.skewLimitBroken).or <|
    (failAt .envelope s.pendingBank.envelopeBroken).or <|
    (failAt .interlockGang s.pendingBank.interlockBroken).or <|
    (failAt .movingMembership s.movingMembership)

/-- A failed verification (R122). -/
def verificationFails (reason : VerifyReason) (index : Option Nat) (s : State) : State :=
  (State.setFlag { s with pendingState := .editing, expectedCrc := none } .activateFail).offerOwn .activationFailed
    (if reason.namesGang then index else none)
    (word4 reason.value (match index with
      | some i => byteOf i
      | none => 0xFF) 0 0)

/-- A verification that meets every check (R123). -/
def verificationPasses (s : State) : State :=
  { s with pendingState := .readyToSwap, pendingCrc := s.expectedCrc, expectedCrc := none }

/-- The completion of verification (R121 to R123). -/
def completeVerification (s : State) : State :=
  match verifyFailure s with
  | some (reason, index) => verificationFails reason index s
  | none => verificationPasses s

/-- Is this a RESTART? -/
def Due.isRestart : Due → Bool
  | .restart _ => true
  | .verification => false
  | .refresh _ => false
  | .saturation _ => false

/-- Is a RESTART taken whose effects wait for the processing in progress (R187)? -/
def State.restartDue (s : State) : Bool := s.due.any Due.isRestart

/-- A completion of the table store, or a CLEAR SATURATION: it acts at once, or, while a local setpoint frame is in its
processing, when that completes (R121, R128, R149). A RESTART taken before it abandons what it would complete, and clears
every saturation itself (R127, R129, R144; log entries 23 and 41). -/
def atCompletion (d : Due) (act : State → State) (s : State) : State :=
  match s.waiting with
  | [] => act s
  | _ :: _ => if s.restartDue then s else { s with due := s.due ++ [d] }

/-- VERIFICATION_COMPLETION; outside VERIFYING there is none to complete (R121, R129). -/
def execVerificationCompletion (s : State) : Out :=
  finish s (if s.pendingState = .verifying then atCompletion .verification completeVerification s else s)

/-! ### The swap (R124) -/

/-- An axis record under a kept row (R70). -/
def AxisRec.kept (r : AxisRec) (old new : AxisRow) : AxisRec :=
  { r with
    position := new.commonPosition r.rawPosition
    velocity := new.commonVelocity r.rawVelocity
    start := if new.sign = old.sign && new.offsetInt = old.offsetInt then r.start else none }

/-- Is an axis row kept across a swap: valid in both banks with the same node (R30, R70)? -/
def rowKept (old new : AxisRow) : Bool := old.valid && new.valid && old.node == new.node

/-- Axis record of a row after a swap (R52, R68, R70). -/
def axisAtSwap (old new : AxisRow) (r : Option AxisRec) : Option AxisRec :=
  if !new.valid then none
  else
    match r with
    | some a => if rowKept old new then some (a.kept old new) else some AxisRec.cleared
    | none => some AxisRec.cleared

/-- Forwarding record of a row after a swap: kept unchanged with its row, its axis starting from p = 0 where it joins a
gang newly valid (R29, R30; log entry 25). -/
def forwardAtSwap (old new : AxisRow) (joins : Bool) (w : Option ForwardRec) : Option ForwardRec :=
  if !new.valid then none
  else
    match w with
    | some a => if rowKept old new then some { a with fromRest := a.fromRest || joins } else some ForwardRec.cleared
    | none => some ForwardRec.cleared

/-- Does a swap find the gang of an axis row newly valid: valid in the new bank, and without a record yet (R29)? The gang
records still stand as the old bank left them. -/
def State.joinsNewGang (s : State) (i : Nat) : Bool :=
  let g := (s.active.axisRow i).gang.toNat
  (s.active.gangRow g).valid && (s.gang g).isNone

/-- Axis and forwarding records at a swap (R29, R30, R70). -/
def axesAtSwap (old : Bank) (s : State) : State :=
  { s with
    axes := s.axes.mapIdx fun i r => axisAtSwap (old.axisRow i) (s.active.axisRow i) r
    forwards := s.forwards.mapIdx fun i w =>
      forwardAtSwap (old.axisRow i) (s.active.axisRow i) (s.joinsNewGang i) w }

/-- Gang records and fence results coming into being and ceasing at a swap (R1, R29, R72, R86). A gang is valid in the
old bank by R29 where it has a record. So a gang whose active row an upset has made invalid, its record still held, keeps
that record where the new bank holds it valid; an axis row in that case starts afresh, since `axesAtSwap` compares the
stored rows (log entry 9, DESIGN CHOICE). -/
def gangsAtSwap (s : State) : State :=
  { s with
    gangs := s.gangs.mapIdx fun g r =>
      if (s.active.gangRow g).valid then some (r.getD GangRec.created) else none
    fences := s.fences.mapIdx fun g f =>
      if (s.active.gangRow g).valid then some (f.getD FenceResult.cleared) else none }

/-- Causes of a newly created gang (R29, R8, R101). -/
def causesOfNewGang (s : State) (g : Nat) : State :=
  let s1 := if s.flag .watchdog then s.addHold .watchdog g else s
  let s2 := if s1.operatorHold then s1.addHold .operator g else s1
  let s3 := s2.windOnGang g
  if s3.anyStale g then s3.addHold .stale g else s3

/-- Causes of a kept gang re-determined (R29). -/
def causesOfKeptGang (s : State) (g : Nat) : State :=
  let s1 := if s.anyStale g then s.addHold .stale g else s.removeHold .stale g
  let s2 := if s1.allReady g then s1.removeHold .notReady g else s1
  s2.windOnGang g

/-- The gang controller's part of a swap, `had` telling which gangs had a record before it (R29). -/
def causesAtSwap (had : Nat → Bool) (s : State) : State :=
  forGangs (fun s g => if had g then causesOfKeptGang s g else causesOfNewGang s g) s

/-- The watchdog at a swap (R176); the history keeps only the swap frame of the controller. A controller frame that has
arrived between the swap frame's own arrival and its processing, in which a configured bridge makes the swap, drops out of
the history with the older times (log entry 37, DEDUCED). -/
def watchdogAtSwap (origin : Origin) (s : State) : State :=
  let s1 := { s with
    olderArrival := none
    newerArrival := match origin with
      | .controller t => some t
      | .substitute => none }
  match s1.watchdog with
  | .substituting => s1
  | .latched => s1
  | .running =>
    if s1.config.watchdogEnabled then { s1 with watchdogTimer := some s1.config.watchdogTimeout }
    else { s1 with watchdog := .stopped, watchdogTimer := none }
  | .stopped =>
    if s1.flag .watchdog then { s1 with watchdog := .latched }
    else if s1.config.watchdogEnabled then
      { s1 with watchdog := .running, watchdogTimer := some s1.config.watchdogTimeout }
    else s1

/-- The deferred request unit at a swap: emptied when S changes (R142). -/
def deferredAtSwap (old : Bank) (s : State) : State :=
  if old.config.segment = s.config.segment then s else { s with deferred := [], backoff := 0 }

/-- The exchange of the banks (R124, steps 1 and 2). -/
def exchangeBanks (s : State) : State :=
  { s with
    active := s.pendingBank
    bankPresent := true
    verifiedCrc := s.pendingCrc
    pendingBank := s.active
    pendingState := .editing
    pendingCrc := none
    expectedCrc := none }

/-- The swap at a local setpoint frame of an origin (R124). -/
def swapBanks (origin : Origin) (s : State) : State :=
  let old := s.active
  let had := fun g => (s.gang g).isSome
  linesAtSwap old.config
    (watchdogAtSwap origin
      (deferredAtSwap old
        (arbiterAtSwap old
          (causesAtSwap had
            (weatherAtSwap
              (gangsAtSwap
                (axesAtSwap old (exchangeBanks s))))))))

/-! ### The refresh (R126, R128) -/

/-- The active bank lost at a refresh mismatch, with every block's part (R128, R1, R52, R30, R88, R96, R102, R142,
R144, R155, R176). -/
def loseBank (s : State) : State :=
  let s1 := State.setFlag
    { s with
      refresh := none
      active := defaultBank
      bankPresent := false
      verifiedCrc := none
      axes := List.replicate Config.axisRows none
      forwards := List.replicate Config.axisRows none
      gangs := List.replicate Config.gangRows none
      fences := List.replicate Config.gangRows none
      deferred := []
      backoff := 0
      lines := List.replicate Config.warningLines offLine
      down := { s.down with queue := [] }
      watchdog := .stopped
      watchdogTimer := none
      substituteTimer := none
      olderArrival := none
      newerArrival := none } .tableCrc
  arbiterCleared (weatherLost s1)

/-- The completion of a refresh whose computation has read the rows of a bank (R128). -/
def completeRefresh (read : Bank) (s : State) : State :=
  if s.verifiedCrc = some read.crc then { s with refresh := none } else loseBank s

/-- REFRESH_COMPLETION; with the refresh IDLE there is none to complete (R128). -/
def execRefreshCompletion (s : State) : Out :=
  finish s (match s.refresh with
    | some read => atCompletion (.refresh read) (completeRefresh read) s
    | none => s)

/-- The rows of the active bank altered from outside (R126). A refresh in flight reads an altered byte or not: a free
value for each (log entry 10). -/
def upsetActive (changes : List (Nat × Byte)) (s : State) : State :=
  { s with
    active := s.active.upset changes
    refresh := s.refresh.map fun read => read.upset (changes.filter fun c => Config.upsetSeen s.draws c.1)
    draws := s.draws + 1 }

/-- BANK_UPSET (R126); with no bank active there are no rows of an active bank to alter. -/
def execBankUpset (changes : List (Nat × Byte)) (s : State) : Out :=
  finish s (if s.bankPresent then upsetActive changes s else s)

end Sys2Proof.Machine
end

