-- ==== Sys2Proof/Machine/Supervisor.lean ====
section
/-!
DEFINITION. The supervisor (chapter 9): the watchdog and substitute frames, STATUS, the warm restart, and the
management commands that are not table commands. COLD_RESET, WATCHDOG_EXPIRY, SUBSTITUTE_TIMER_EXPIRY, WARM_RESTART.
-/
namespace Sys2Proof.Machine

/-! ### Waiting setpoint frames (R162) -/

/-- A local setpoint frame waits for its processing, or is discarded when 4 already wait (R162). The oldest waiting frame,
which the model takes to be in its processing from its arrival, counts among the 4, so that 3 can wait behind it (log
entry 41, DEDUCED). -/
def State.enqueueSetpoint (s : State) (w : WaitingFrame) : State :=
  if s.waiting.length < Config.waitingDepth then { s with waiting := s.waiting ++ [w] } else s

/-! ### The watchdog (R171 to R175) -/

/-- The watchdog timer restarted with the full timeout in RUNNING (R172). -/
def kickWatchdog (s : State) : State :=
  match s.watchdog with
  | .running => { s with watchdogTimer := some s.config.watchdogTimeout }
  | .stopped => s
  | .substituting => s
  | .latched => s

/-- A controller setpoint frame reported to the supervisor: the history, then a kick, or the end of substitute
cycles (R172, R175). -/
def reportSetpoint (s : State) : State :=
  let s1 := { s with olderArrival := s.newerArrival, newerArrival := some s.now }
  match s1.watchdog with
  | .substituting => { s1 with substituteTimer := none, watchdog := .latched }
  | .running => kickWatchdog s1
  | .stopped => s1
  | .latched => s1

/-- Substitute period: the measured cycle period in [1, 100] ms, 10 ms without two times (R172, R174). -/
def State.substitutePeriod (s : State) : Nat :=
  match s.olderArrival, s.newerArrival with
  | some a, some b => min 100 (max 1 (b - a))
  | _, _ => 10

/-- Slots of a substitute frame: one for every valid axis row in index order (R50, R174). -/
def State.substituteSlots (s : State) : List Slot :=
  s.active.validAxes.map fun i =>
    { node := (s.active.axisRow i).node
      enable := match s.forward i with
        | some w => w.enable
        | none => Config.orphanEnable s.draws i
      quickstop := false
      raw := 0 }

/-- A substitute frame originated, unless it would carry no slot (R174). -/
def originate (s : State) : State :=
  if s.active.validAxes.isEmpty then s
  else
    s.enqueueSetpoint
      { origin := .substitute
        bytes := buildFrame .setpoint (setpointPayload s.config.segment (s.lastCycle + 1) s.substituteSlots) }

/-- The watchdog timer runs out in RUNNING (R173). -/
def watchdogExpires (s : State) : State :=
  let s1 := (s.setFlag .watchdog).addHoldAll .watchdog
  let s2 := { s1 with watchdog := .substituting, watchdogTimer := none }
  originate { s2 with substituteTimer := some s2.substitutePeriod }

/-- WATCHDOG_EXPIRY (R173): the expiry in RUNNING of a timer that has run out; one kicked or stopped since does not
expire (R172, log entry 3). -/
def execWatchdogExpiry (s : State) : Out :=
  finish s (match s.watchdog with
    | .running => if s.watchdogTimer = some 0 then watchdogExpires s else s
    | .stopped => s
    | .substituting => s
    | .latched => s)

/-- The substitute timer has run out: it starts again, and one more substitute frame is originated (R174). -/
def substituteExpires (s : State) : State := originate { s with substituteTimer := some s.substitutePeriod }

/-- SUBSTITUTE_TIMER_EXPIRY (R174): the expiry in SUBSTITUTING of a timer that has run out (log entry 3). -/
def execSubstituteTimerExpiry (s : State) : Out :=
  finish s (match s.watchdog with
    | .substituting => if s.substituteTimer = some 0 then substituteExpires s else s
    | .stopped => s
    | .running => s
    | .latched => s)

/-! ### STATUS (R181, R182, section 10.4) -/

/-- Value of a watchdog state (section 10.4). -/
def WatchdogState.value : WatchdogState → Byte
  | .stopped => 0
  | .running => 1
  | .substituting => 2
  | .latched => 3

/-- Four bytes of the flag set (section 10.4). -/
def flagBytes (f : BitVec 24) : List Byte := bytes32 (f.setWidth 32)

/-- The byte of an absent or present gang (R188). -/
def gangByte : Option Nat → Byte
  | none => 0xFF
  | some g => byteOf g

/-- The byte of an event source (section 10.4). -/
def EventSource.value : EventSource → Byte
  | .bridge => 0
  | .node a => a

/-- The ten bytes of an event record (section 10.4). -/
def EventRecord.toBytes (e : EventRecord) : List Byte :=
  [e.source.value] ++ bytes16 e.code ++ [gangByte e.gang, bitByte e.data.isSome 0] ++ bytes32 (e.data.getD 0) ++
  [e.cycle]

/-- The ten bytes of a gang entry (section 10.4). The current ceiling is sent in its low 16 bits, of which a row that an
upset has damaged may need more (log entry 9, DESIGN CHOICE). -/
def gangEntry (g : Nat) (r : GangRec) : List Byte :=
  [byteOf g, r.state.value, r.holds.toByte, firstTripByte r.firstTrip] ++ bytes32 (BitVec.ofNat 32 r.skew) ++
  bytes16 (BitVec.ofInt 16 r.currentCeiling)

/-- Gang records with their indices, rising. -/
def State.gangList (s : State) : List (Nat × GangRec) :=
  (List.range Config.gangRows).filterMap fun g =>
    match s.gang g with
    | some r => some (g, r)
    | none => none

/-- Payload of a STATUS frame with the records it drains, from the state those records have left (R182). -/
def statusPayload (s : State) (cycle : Byte) (drained : List EventRecord) : List Byte :=
  [s.config.segment, cycle,
   bitByte s.bankPresent 0 ||| (s.pendingState.value <<< 1) ||| bitByte s.refresh.isSome 3,
   byteOf s.windClass,
   s.watchdog.value ||| bitByte s.operatorHold 2 ||| bitByte s.summary 3] ++
  flagBytes s.flags ++ [byteOf s.gangList.length] ++ s.gangList.flatMap (fun e => gangEntry e.1 e.2) ++
  [byteOf s.events.length, byteOf drained.length] ++ drained.flatMap EventRecord.toBytes

/-- The STATUS frame built and handed to the upstream port: up to two records leave the queue (R181, R182). -/
def sendStatus (cycle : Byte) (s : State) : State :=
  let s1 := { s with events := s.events.drop 2 }
  s1.hand .upstream (buildFrame .status (statusPayload s1 cycle (s.events.take 2)))

/-! ### Gang commands (R11, R26) -/

/-- A command that names a gang: BAD_INDEX without a record (R11, R26, R185). -/
def onGang (s : State) (g : Nat) (f : GangRec → Reply) : Reply :=
  match s.gang g with
  | some r => f r
  | none => reply s .badIndex

/-- GANG HOLD (R11). -/
def gangHold (s : State) (args : List Byte) : Reply :=
  onGang s (u8 args 0).toNat fun _ => reply (s.addHold .command (u8 args 0).toNat) .done

/-- GANG RELEASE (R11). -/
def gangRelease (s : State) (args : List Byte) : Reply :=
  onGang s (u8 args 0).toNat fun _ => reply (s.removeHold .command (u8 args 0).toNat) .done

/-- CLEAR TRIP (R26, R85). -/
def clearTrip (s : State) (args : List Byte) : Reply :=
  onGang s (u8 args 0).toNat fun r =>
    if r.state != .tripped then reply (s.clearEcho (u8 args 0).toNat) .done
    else if s.anyFault (u8 args 0).toNat || s.overtravels (u8 args 0).toNat then reply s .notAllowed
    else reply (s.acceptClearTrip (u8 args 0).toNat) .done

/-! ### CLEAR FLAGS (R178) -/

/-- May CLEAR FLAGS clear a flag (R178)? -/
def State.clearable (s : State) (f : Flag) : Bool :=
  match f with
  | .watchdog => s.watchdog != .substituting
  | .stale => !s.anyAxisStale
  | .weatherStale => !s.weatherStale
  | _ => true

/-- Flags a clear mask clears: named, set, and not held by an exception (R178). -/
def State.clearedFlags (s : State) (mask : BitVec 24) : BitVec 24 :=
  s.flags &&& mask &&&
  ~~~((if s.clearable .watchdog then 0 else Flag.mask .watchdog) |||
      (if s.clearable .stale then 0 else Flag.mask .stale) |||
      (if s.clearable .weatherStale then 0 else Flag.mask .weatherStale))

/-- WATCHDOG cleared: the cause leaves every gang, and the watchdog runs or stops (R175, R178). -/
def watchdogCleared (s : State) : State :=
  let s1 := s.removeHoldAll .watchdog
  if s1.bankPresent && s1.config.watchdogEnabled then
    { s1 with watchdog := .running, watchdogTimer := some s1.config.watchdogTimeout }
  else { s1 with watchdog := .stopped, watchdogTimer := none }

/-- Flags cleared with the effects beyond them (R178, R33). -/
def clearFlagSet (s : State) (gone : BitVec 24) : State :=
  let s1 := { s with flags := s.flags &&& ~~~gone }
  let s2 := if gone.getLsbD Flag.watchdog.bit then watchdogCleared s1 else s1
  if gone.getLsbD Flag.unknownAxis.bit then { s2 with reportedNodes := [] } else s2

/-- CLEAR FLAGS (R178). -/
def clearFlags (s : State) (args : List Byte) : Reply :=
  let s1 := clearFlagSet s (s.clearedFlags ((u32 args 0).setWidth 24))
  { state := s1, result := .done, data := flagBytes s1.flags }

/-! ### Other commands on one axis, and reads -/

/-- The count and the mark of an axis row cleared together (R149). -/
def saturationCleared (row : Nat) (s : State) : State := s.modifyGrant row fun _ => clearGrant

/-- CLEAR SATURATION (R149). While a local setpoint frame waits for its processing that frame has been taken first: the
command is answered at once, and clears at the frame's completion, so that the axis is first a candidate at the next frame
(log entry 41). -/
def clearSaturation (s : State) (args : List Byte) : Reply :=
  let row := (u8 args 0).toNat
  if (s.axis row).isSome then reply (atCompletion (.saturation row) (saturationCleared row) s) .done
  else reply s .badIndex

/-- The 26 bytes of READ AXIS (section 10.3); absent fields are sent as zero (R188, log entry 20). -/
def axisBytes (r : AxisRec) (w : ForwardRec) : List Byte :=
  [bitByte r.reported 0 ||| bitByte r.ready 1 ||| bitByte r.fault 2 ||| bitByte r.eventPending 3 |||
   bitByte r.stale 4 ||| bitByte r.echoFault 5 ||| bitByte r.start.isSome 6 ||| bitByte w.enable 7] ++
  bytes32 (BitVec.ofInt 32 r.rawPosition) ++ bytes16 (BitVec.ofInt 16 r.rawVelocity) ++
  bytes32 (BitVec.ofInt 32 r.position) ++ bytes16 (BitVec.ofInt 16 r.velocity) ++
  [r.echoedCycle, byteOf r.freshness, byteOf r.echoCount] ++ bytes32 (BitVec.ofInt 32 (r.start.getD 0)) ++
  bytes16 (BitVec.ofInt 16 w.velocity) ++ bytes16 (BitVec.ofInt 16 w.recentRaw) ++
  bytes16 (BitVec.ofInt 16 w.previousRaw)

/-- READ AXIS (R71). -/
def readAxis (s : State) (args : List Byte) : Reply :=
  match s.axis (u8 args 0).toNat with
  | some r =>
    { state := s, result := .done,
      data := axisBytes r ((s.forward (u8 args 0).toNat).getD ForwardRec.cleared) }
  | none => reply s .badIndex

/-- Two bytes of a set of interlock rows: bit i for row i (section 10.3). -/
def rowSetBytes (rows : List Nat) : List Byte :=
  bytes16 (rows.foldl (fun w i => w ||| (1#16 <<< i)) 0#16)

/-- Byte of a fence source (section 10.3). -/
def FenceSource.value : FenceSource → Byte
  | .envelope => 0x10
  | .row i => byteOf i
  | .absent => 0xFF

/-- The 43 bytes of READ GANG (section 10.3). The current ceiling and the prewarn time left are sent in their low 16
bits, of which a row that an upset has damaged may need more (log entry 9, DESIGN CHOICE). -/
def gangBytes (r : GangRec) (f : FenceResult) (members : Nat) : List Byte :=
  [r.state.value, r.holds.toByte, r.trips.toByte, firstTripByte r.firstTrip] ++
  [BitVec.ofInt 8 r.direction] ++ bytes32 (BitVec.ofNat 32 r.skew) ++ bytes16 (BitVec.ofInt 16 r.currentCeiling) ++
  [bitByte r.recovery.isSome 0 ||| bitByte r.prewarnDone 1 ||| bitByte r.prewarnLeft.isSome 2] ++
  bytes32 (BitVec.ofNat 32 (r.recovery.getD 0)) ++ bytes16 (BitVec.ofNat 16 (r.prewarnLeft.getD 0)) ++
  [byteOf r.settleCount] ++
  [bitByte f.lead.isSome 0 ||| bitByte f.fence.isSome 1 ||| bitByte f.remaining.isSome 2] ++
  [byteOf (f.lead.getD 0)] ++ bytes32 (BitVec.ofInt 32 (f.leadPosition.getD 0)) ++
  bytes32 (BitVec.ofInt 32 (f.fence.getD 0)) ++ [f.source.value] ++ bytes64 (BitVec.ofInt 64 (f.remaining.getD 0)) ++
  rowSetBytes f.blocking ++ rowSetBytes f.inside ++ [byteOf members]

/-- READ GANG (R185). -/
def readGang (s : State) (args : List Byte) : Reply :=
  onGang s (u8 args 0).toNat fun r =>
    { state := s, result := .done,
      data := gangBytes r ((s.fence (u8 args 0).toNat).getD FenceResult.cleared)
        (s.members (u8 args 0).toNat).length }

/-- State byte, read-back phase byte, and presence bits beyond the key of an entry (section 10.3). -/
def DeferredStatus.header : DeferredStatus → Byte × Byte × Byte
  | .queued => (0, 0, 0x00)
  | .issued _ => (1, 0, 0x08)
  | .readbackDue => (2, 1, 0x00)
  | .readbackSent _ => (2, 2, 0x08)
  | .complete r data _ =>
    (3, 0, 0x30 ||| bitByte data.isSome 1 |||
      (match r with
       | .driveRefused _ => 0x04
       | .ok => 0
       | .noAnswer => 0
       | .writeMismatch => 0
       | .moving => 0))

/-- Frames since issue, result, reason, read data and countdown of an entry; absent fields are zero (section 10.3). -/
def DeferredStatus.body : DeferredStatus → List Byte
  | .queued => [0, 0] ++ bytes16 0 ++ bytes32 0 ++ bytes16 0
  | .issued n => [byteOf n, 0] ++ bytes16 0 ++ bytes32 0 ++ bytes16 0
  | .readbackDue => [0, 0] ++ bytes16 0 ++ bytes32 0 ++ bytes16 0
  | .readbackSent n => [byteOf n, 0] ++ bytes16 0 ++ bytes32 0 ++ bytes16 0
  | .complete r data n =>
    [0, r.answer.value] ++ bytes16 r.reason ++ bytes32 (data.getD 0) ++ bytes16 (BitVec.ofNat 16 n)

/-- The 22 bytes of an entry in READ DEFERRED (section 10.3). -/
def DeferredEntry.toBytes (e : DeferredEntry) : List Byte :=
  [e.key.node] ++ bytes16 e.key.object ++
  [e.key.subindex, accessByte e.key, bitByte e.key.data.isSome 0 ||| e.status.header.2.2] ++
  bytes32 (e.key.data.getD 0) ++ [e.status.header.1, e.status.header.2.1] ++ e.status.body

/-- READ DEFERRED (R143). -/
def readDeferred (s : State) : Reply :=
  { state := s, result := .done,
    data := [byteOf s.deferred.length, byteOf s.backoff] ++ s.deferred.flatMap DeferredEntry.toBytes }

/-! ### The warm restart (R186) -/

/-- Supervisor's part: flags, event queue, watchdog (R177, R181, R171, R176). -/
def supervisorRestart (s : State) : State :=
  let runs := s.bankPresent && s.config.watchdogEnabled
  State.setFlag
    { s with
      flags := 0
      events := []
      watchdog := if runs then .running else .stopped
      watchdogTimer := if runs then some s.config.watchdogTimeout else none
      olderArrival := none
      newerArrival := none
      substituteTimer := none } .resetOccurred

/-- Table store's part (R126, R129). -/
def tablesRestart (s : State) : State :=
  { s with
    pendingState := .editing
    expectedCrc := none
    pendingCrc := none
    refresh := if s.bankPresent then some s.active else none }

/-- The records' part: gangs, axes, forwarding, fences, reported nodes, deferred table, arbiter (R28, R69, R30, R88,
R33, R142, R144). -/
def recordsRestart (s : State) : State :=
  arbiterCleared
    { s with
      gangs := s.gangs.map fun r => r.map GangRec.restarted
      axes := s.axes.map fun r => r.map fun _ => AxisRec.cleared
      forwards := s.forwards.map fun w => w.map fun _ => ForwardRec.cleared
      fences := s.fences.map fun f => f.map fun _ => FenceResult.cleared
      reportedNodes := []
      deferred := []
      backoff := 0 }

/-- OPERATOR and WIND added again to one gang (R28). -/
def siteCauses (s : State) (g : Nat) : State :=
  State.windOnGang (if s.operatorHold then s.addHold .operator g else s) g

/-- Site input unit's part: WEATHER_STALE while stale, OPERATOR and WIND, every line off (R96, R101, R106). -/
def siteRestart (s : State) : State :=
  forGangs siteCauses
    { (if s.weatherStale then s.setFlag .weatherStale else s) with
      lines := List.replicate Config.warningLines offLine }

/-- The warm restart as one event (R186). A completion of the table store that waits is abandoned with what it would
complete (R127, R129). -/
def makeWarmRestart (s : State) : State :=
  siteRestart (recordsRestart (tablesRestart (supervisorRestart { s with due := s.due.filter Due.isRestart })))

/-- A RESTART has its answer handed over and then its effects (R186). -/
def restartInTurn (s : State) (answer : Frame) : State := makeWarmRestart (s.hand .upstream answer)

/-- A RESTART with its answer: the answer handed over and then the warm restart, or, while a local setpoint frame is in
its processing, the answer alone, the restart due at the completion. With a restart due already the answer too waits,
for the effects of the one before (R186, R187, log entry 23). -/
def takeRestart (answer : Frame) (s : State) : State :=
  match s.waiting with
  | [] => restartInTurn s answer
  | _ :: _ =>
    if s.restartDue then { s with due := s.due ++ [.restart (some answer)] }
    else { s.hand .upstream answer with due := s.due ++ [.restart none] }

/-- What was due has its effects (R121, R128, R149, R187). -/
def takeDue (s : State) (d : Due) : State :=
  match d with
  | .restart none => makeWarmRestart s
  | .restart (some answer) => restartInTurn s answer
  | .verification => if s.pendingState = .verifying then completeVerification s else s
  | .refresh read => if s.refresh.isSome then completeRefresh read s else s
  | .saturation row => saturationCleared row s

/-- The completion of the processing of a local setpoint frame: what was taken during it and waits has its effects now,
in the order taken, and the next frame begins under the wind class then in force (R41, R121, R128, R149, R187). -/
def completeProcessing (s : State) : State := s.due.foldl takeDue { s with due := [], frameClass := none }

/-- WARM_RESTART (R186); a bridge in reset makes none (R190). -/
def execWarmRestart (s : State) : Out := finish s (if s.inReset then s else makeWarmRestart s)

/-! ### The cold reset (R190) -/

/-- Does an input start a cold reset: power-on, or RESETn low for 10 µs or more (R190)? -/
def ResetCause.resets : ResetCause → Bool
  | .powerOn => true
  | .resetnLow micros => decide (10 ≤ micros)

/-- Every block at its cold-reset values. Throughout the reset they hold, with FAULTn and the lines low and nothing to
transmit; at its end a button held down is a press that begins then (R97, R190). The model's own queue and draw number
are kept (log entries 6 and 18). -/
def coldResetState (release : Option Bool) (s : State) : State :=
  let held := release == some true
  { State.reset with
    pending := s.pending
    draws := s.draws
    press := if held then .debounce else .released
    holdnLow := held
    sampled := held
    inReset := release.isNone }

/-- COLD_RESET (R190): a reset whole, its beginning (no release), or the end of one that the bridge is in. -/
def execColdReset (cause : ResetCause) (release : Option Bool) (s : State) : Out :=
  finish s (if ResetCause.resets cause || s.inReset then coldResetState release s else s)

end Sys2Proof.Machine
end

