-- ==== Sys2Proof/Machine/Processing.lean ====
section
/-!
DEFINITION. Processing of a local setpoint frame (section 1.5, R162): swap, freshness, gang passes, pipeline, deferred
step, arbiter, STATUS. LOCAL_SETPOINT_PROCESSING and TRANSMIT_FRAME.
-/
namespace Sys2Proof.Machine

/-- The stages from freshness to the rewritten slots: the gang controller and the full pipeline, or the zeros of the
refresh (R15, R31, R49, R60). -/
def rewriteStages (slots : List Slot) (s : State) : State × List Slot :=
  let s1 := freshnessStep s
  if s.refresh.isSome then rewriteSlots true [] slots s1
  else
    let done := rewriteSlots false [] slots (gangPasses slots s1).updateLines
    (writeCeilings done.1, done.2)

/-- The rewritten frame and then the bridge's PARAM-REQ handed downstream together (R157), before the STATUS frame is
built (log entry 12). -/
def handDownstream (frame : Frame) (request : Option Frame) (s : State) : State :=
  match request with
  | some f => (s.hand .downstream frame).hand .downstream f
  | none => s.hand .downstream frame

/-- Processing of a local setpoint frame under the active bank (R15, R162): its cycle number becomes the last one as
processing begins (R171), and its STATUS frame ends it (R182). The model sets the number here, after a swap: a record or a
substitute frame made between the arrival of the frame and this goes by the number of the frame before (log entry 13,
DEDUCED). -/
def processLocal (bytes : Frame) (s : State) : State :=
  let p := framePayload bytes
  let rewritten := rewriteStages (slotsOf p) { s with lastCycle := u8 p 1, draws := s.draws + 1 }
  let granted := arbitrate (deferredStep rewritten.1)
  sendStatus (u8 p 1)
    (handDownstream (buildFrame .setpoint (rewrittenPayload p rewritten.2 granted.2.1)) granted.2.2 granted.1)

/-- A controller frame after the swap it has made, classified again under the new route (R125). -/
def reclassify (bytes : Frame) (s : State) : State :=
  match routeUpstream s.config .setpoint (framePayload bytes) with
  | .localSetpoint => processLocal bytes s
  | .transit => s.hand .downstream bytes
  | _ => s

/-- A controller setpoint frame whose processing comes (R124, R125). A configured bridge makes the swap here, where
95_what_each_step_holds.md places it; an arrival between the frame's own and this one is classified under the old route and
CRC enables (log entry 37, DEDUCED). A bridge without an active bank makes it at the arrival (`takeSetpoint`); a frame that
finds none active here has arrived before the bank was lost (log entry 17, DEDUCED). -/
def processController (w : WaitingFrame) (s : State) : State :=
  let segment := u8 (framePayload w.bytes) 0
  if s.bankPresent then
    if s.pendingState = .readyToSwap && segment == s.config.segment then reclassify w.bytes (swapBanks w.origin s)
    else processLocal w.bytes s
  else if s.pendingState = .readyToSwap && segment == s.pendingBank.config.segment then
    reclassify w.bytes (swapBanks w.origin s)
  else s

/-- A substitute frame whose processing comes: discarded when its own swap changes S (R125), and while no bank is
active (R176). -/
def processSubstitute (w : WaitingFrame) (s : State) : State :=
  if !s.bankPresent then s
  else if s.pendingState = .readyToSwap then
    if (swapBanks w.origin s).config.segment = s.config.segment then processLocal w.bytes (swapBanks w.origin s)
    else swapBanks w.origin s
  else processLocal w.bytes s

/-- A waiting frame by its origin. -/
def processWaiting (w : WaitingFrame) (s : State) : State :=
  match w.origin with
  | .controller _ => processController w s
  | .substitute => processSubstitute w s

/-- LOCAL_SETPOINT_PROCESSING: the oldest waiting frame, processed whole, and what is due at its completion (R121,
R128, R149, R162, R187). -/
def execLocalSetpointProcessing (s : State) : Out :=
  finish s (match s.waiting with
    | [] => s
    | w :: rest => completeProcessing (processWaiting w { s with waiting := rest }))

/-- The head of a transmit queue leaves it as its transmission begins (R155). -/
def transmitHead (p : Port) (s : State) : State :=
  match (s.port p).queue with
  | [] => s
  | f :: rest => s.setPort p { s.port p with queue := rest, onLine := some f }

/-- TRANSMIT_FRAME (R155). -/
def execTransmitFrame (port : Port) (s : State) : Out := finish s (transmitHead port s)

end Sys2Proof.Machine
end

