-- ==== Sys2Proof/Machine/Router.lean ====
section
/-!
DEFINITION. Management frames (R163, R183, R184), and the frame router: what each class of arrival does (chapter 8).
-/
namespace Sys2Proof.Machine

/-! ### Management frames -/

/-- The fourteen commands. -/
inductive Command where
  | tableWrite
  | tableRead
  | copyActive
  | discardPending
  | activate
  | gangHold
  | gangRelease
  | clearTrip
  | clearFlags
  | clearSaturation
  | readAxis
  | readGang
  | readDeferred
  | restart
  deriving DecidableEq, Repr

/-- The command a value names (section 10.3). -/
def commandOf (b : Byte) : Option Command :=
  if b = 0x01 then some .tableWrite
  else if b = 0x02 then some .tableRead
  else if b = 0x03 then some .copyActive
  else if b = 0x04 then some .discardPending
  else if b = 0x05 then some .activate
  else if b = 0x06 then some .gangHold
  else if b = 0x07 then some .gangRelease
  else if b = 0x08 then some .clearTrip
  else if b = 0x09 then some .clearFlags
  else if b = 0x0A then some .clearSaturation
  else if b = 0x0B then some .readAxis
  else if b = 0x0C then some .readGang
  else if b = 0x0D then some .readDeferred
  else if b = 0x0E then some .restart
  else none

/-- Have the arguments of a command the length of its layout (R184, R189, section 10.3)? -/
def argumentsFit (c : Command) (args : List Byte) : Bool :=
  match c with
  | .tableWrite =>
    decide (2 ≤ args.length) &&
    match tableOf (u8 args 0) with
    | some t => args.length == 2 + t.rowBytes
    | none => true
  | .tableRead => args.length == 3
  | .copyActive => args.length == 0
  | .discardPending => args.length == 0
  | .activate => args.length == 2
  | .gangHold => args.length == 1
  | .gangRelease => args.length == 1
  | .clearTrip => args.length == 1
  | .clearFlags => args.length == 4
  | .clearSaturation => args.length == 1
  | .readAxis => args.length == 1
  | .readGang => args.length == 1
  | .readDeferred => args.length == 0
  | .restart => args.length == 0

/-- A command whose arguments fit, up to its answer (R184); the effects of RESTART come after the answer (R186). -/
def runCommand (c : Command) (args : List Byte) (s : State) : Reply :=
  match c with
  | .tableWrite => tableWrite s args
  | .tableRead => tableRead s args
  | .copyActive => copyActive s
  | .discardPending => discardPending s
  | .activate => activate s args
  | .gangHold => gangHold s args
  | .gangRelease => gangRelease s args
  | .clearTrip => clearTrip s args
  | .clearFlags => clearFlags s args
  | .clearSaturation => clearSaturation s args
  | .readAxis => readAxis s args
  | .readGang => readGang s args
  | .readDeferred => readDeferred s
  | .restart => reply s .done

/-- Command value, then argument length, then the command's own rule (R184; log entry 15). -/
def executeManagement (p : List Byte) (s : State) : Reply :=
  match commandOf (u8 p 3) with
  | none => reply (s.setFlag .invalidMgmt) .unknownCommand
  | some c => if argumentsFit c (p.drop 4) then runCommand c (p.drop 4) s else reply s .badField

/-- The MGMT-RSP of a request (R183, R188). -/
def responseFrame (p : List Byte) (r : Reply) : Frame :=
  buildFrame .mgmtRsp ([u8 p 0, u8 p 2, u8 p 3, r.result.value] ++ if r.result = .done then r.data else [])

/-- Is a request an accepted RESTART, whose effects follow its answer (R184, R186)? -/
def ordersRestart (p : List Byte) : Bool := commandOf (u8 p 3) == some .restart && argumentsFit .restart (p.drop 4)

/-- A management frame: the kick where it is on, the command, and its answer, by its own rule for a RESTART (R163, R172,
R183, R186, R187). -/
def takeManagement (p : List Byte) (s : State) : State :=
  let s1 := if s.bankPresent && s.config.kickOnManagement then kickWatchdog s else s
  let r := executeManagement p s1
  let answer := responseFrame p r
  if ordersRestart p then takeRestart answer r.state else r.state.hand .upstream answer

/-! ### Arrivals -/

/-- Flag of a failed check on a port (R151). -/
def checkFlag : Port → Check → Flag
  | .upstream, .sync => .linkSyncU
  | .upstream, .length => .linkLengthU
  | .upstream, .crc => .linkCrcU
  | .downstream, .sync => .linkSyncD
  | .downstream, .length => .linkLengthD
  | .downstream, .crc => .linkCrcD

/-- Does a controller setpoint frame make the swap at its arrival: no bank is active, one waits for the swap, and the frame
is not discarded (R162, R168, R170)? -/
def State.swapsAtArrival (s : State) : Bool :=
  !s.bankPresent && s.pendingState = .readyToSwap && decide (s.waiting.length < Config.waitingDepth)

/-- A controller setpoint frame: reported, and handed to processing (R162, log entry 26). At an unconfigured bridge it makes
the swap at its arrival, and the new route and CRC enables hold from then on (R168, R170). -/
def takeSetpoint (f : Frame) (s : State) : State :=
  let reported := reportSetpoint s
  State.enqueueSetpoint (if s.swapsAtArrival then swapBanks (.controller s.now) reported else reported)
    { origin := .controller s.now, bytes := f }

/-- What each class of arrival does (R151 to R169); a block acts before its frame is forwarded (log entry 21). -/
def takeClass (port : Port) (f : Frame) (c : FrameClass) (s : State) : State :=
  match c with
  | .bad check => s.setFlag (checkFlag port check)
  | .frameKind => s.setFlag .frameKind
  | .ignored => s
  | .transit => s.hand .downstream f
  | .upstreamBound => s.hand .upstream f
  | .localSetpoint => takeSetpoint f s
  | .feedback => (applyFeedback (feedbackOf (framePayload f)) s).hand .upstream f
  | .weather => (applyWeather (framePayload f) s).hand .upstream f
  | .event => takeEvent (framePayload f) s
  | .paramRsp => takeResponse (framePayload f) s
  | .paramReq => takeRequest (requestKey (framePayload f)) s
  | .management => takeManagement (framePayload f) s

/-- The end mark of a frame on a port (R150): the port returns to IDLE and the delimited frame is checked and routed.
An end mark in IDLE closes a frame whose begin mark fell before the end of a cold reset: it is discarded. -/
def frameArrives (port : Port) (bytes : Frame) (s : State) : State :=
  match (s.port port).rx with
  | .idle => s
  | .receiving taken =>
    takeClass port (taken ++ bytes) (classify s port (taken ++ bytes))
      (s.setPort port { s.port port with rx := .idle })

/-- The begin mark of a frame (R150); inside a frame there is none, and a bridge in reset takes none in (R190). -/
def frameBegins (port : Port) (s : State) : State :=
  match (s.port port).rx with
  | .idle => if s.inReset then s else s.setPort port { s.port port with rx := .receiving [] }
  | .receiving _ => s

end Sys2Proof.Machine
end

