-- ==== Sys2Proof/Machine/Arrivals.lean ====
section
/-!
DEFINITION. The arrival rows of the table, one meaning each. The row says on which port a frame ends; the port's
checks and the router decide from its bytes what it is, as they do for every frame (chapter 8, log entry 4).
-/
namespace Sys2Proof.Machine

/-- BAD_FRAME (R151): the end mark of the frame on its port. -/
def execBadFrame (port : Port) (bytes : Frame) (s : State) : Out := finish s (frameArrives port bytes s)

/-- UNKNOWN_KIND_FRAME (R153, R154): the end mark of the frame on its port. -/
def execUnknownKindFrame (port : Port) (bytes : Frame) (s : State) : Out := finish s (frameArrives port bytes s)

/-- IGNORED_FRAME (R160, R161): the end mark of the frame on the upstream port. -/
def execIgnoredFrame (bytes : Frame) (s : State) : Out := finish s (frameArrives .upstream bytes s)

/-- TRANSIT_FRAME (R164): the end mark of the frame on the upstream port. -/
def execTransitFrame (bytes : Frame) (s : State) : Out := finish s (frameArrives .upstream bytes s)

/-- UPSTREAM_BOUND_FRAME (R165, R169): the end mark of the frame on the downstream port. -/
def execUpstreamBoundFrame (bytes : Frame) (s : State) : Out := finish s (frameArrives .downstream bytes s)

/-- LOCAL_SETPOINT_ARRIVAL (R162, R168, R170, R172, R175): the end mark of the frame on the upstream port. -/
def execLocalSetpointArrival (bytes : Frame) (s : State) : Out := finish s (frameArrives .upstream bytes s)

/-- FEEDBACK_ARRIVAL (R55 to R59, R64 to R66, R165): the end mark of the frame on the downstream port. -/
def execFeedbackArrival (bytes : Frame) (s : State) : Out := finish s (frameArrives .downstream bytes s)

/-- WEATHER_ARRIVAL (R90 to R92, R94, R165): the end mark of the frame on the downstream port. -/
def execWeatherArrival (bytes : Frame) (s : State) : Out := finish s (frameArrives .downstream bytes s)

/-- EVENT_ARRIVAL (R148, R166, R180): the end mark of the frame on the downstream port. -/
def execEventArrival (bytes : Frame) (s : State) : Out := finish s (frameArrives .downstream bytes s)

/-- PARAM_RSP_ARRIVAL (R136 to R139, R167): the end mark of the frame on the downstream port. -/
def execParamRspArrival (bytes : Frame) (s : State) : Out := finish s (frameArrives .downstream bytes s)

/-- PARAM_REQ_ARRIVAL (R132, R133, R161): the end mark of the frame on the upstream port. -/
def execParamReqArrival (bytes : Frame) (s : State) : Out := finish s (frameArrives .upstream bytes s)

/-- TABLE_WRITE (R113 to R115, R163): the end mark of the frame on the upstream port. -/
def execTableWrite (bytes : Frame) (s : State) : Out := finish s (frameArrives .upstream bytes s)

/-- TABLE_READ (R113, R116): the end mark of the frame on the upstream port. -/
def execTableRead (bytes : Frame) (s : State) : Out := finish s (frameArrives .upstream bytes s)

/-- COPY_ACTIVE (R113, R117): the end mark of the frame on the upstream port. -/
def execCopyActive (bytes : Frame) (s : State) : Out := finish s (frameArrives .upstream bytes s)

/-- DISCARD_PENDING (R113, R118): the end mark of the frame on the upstream port. -/
def execDiscardPending (bytes : Frame) (s : State) : Out := finish s (frameArrives .upstream bytes s)

/-- ACTIVATE (R113, R119): the end mark of the frame on the upstream port. -/
def execActivate (bytes : Frame) (s : State) : Out := finish s (frameArrives .upstream bytes s)

/-- GANG_HOLD (R6, R11): the end mark of the frame on the upstream port. -/
def execGangHold (bytes : Frame) (s : State) : Out := finish s (frameArrives .upstream bytes s)

/-- GANG_RELEASE (R7, R11): the end mark of the frame on the upstream port. -/
def execGangRelease (bytes : Frame) (s : State) : Out := finish s (frameArrives .upstream bytes s)

/-- CLEAR_TRIP (R26, R67, R85): the end mark of the frame on the upstream port. -/
def execClearTrip (bytes : Frame) (s : State) : Out := finish s (frameArrives .upstream bytes s)

/-- CLEAR_FLAGS (R178, R175): the end mark of the frame on the upstream port. -/
def execClearFlags (bytes : Frame) (s : State) : Out := finish s (frameArrives .upstream bytes s)

/-- CLEAR_SATURATION (R149): the end mark of the frame on the upstream port. -/
def execClearSaturation (bytes : Frame) (s : State) : Out := finish s (frameArrives .upstream bytes s)

/-- READ_AXIS (R71): the end mark of the frame on the upstream port. -/
def execReadAxis (bytes : Frame) (s : State) : Out := finish s (frameArrives .upstream bytes s)

/-- READ_GANG (R185): the end mark of the frame on the upstream port. -/
def execReadGang (bytes : Frame) (s : State) : Out := finish s (frameArrives .upstream bytes s)

/-- READ_DEFERRED (R143): the end mark of the frame on the upstream port. -/
def execReadDeferred (bytes : Frame) (s : State) : Out := finish s (frameArrives .upstream bytes s)

/-- RESTART (R186, R187): the end mark of the frame on the upstream port. -/
def execRestart (bytes : Frame) (s : State) : Out := finish s (frameArrives .upstream bytes s)

/-- UNKNOWN_COMMAND (R184): the end mark of the frame on the upstream port. -/
def execUnknownCommand (bytes : Frame) (s : State) : Out := finish s (frameArrives .upstream bytes s)

/-- BEGIN_MARK (R150). -/
def execBeginMark (port : Port) (s : State) : Out := finish s (frameBegins port s)

end Sys2Proof.Machine
end

