-- ==== Sys2Proof/Machine/Time.lean ====
section
/-!
DEFINITION. One millisecond of the internal time base (chapter 0, Time and cycles; section 10.7), taken by the step
when no command waits (log entry 2): timers count down, those that run out put their expiry command into the queue,
and HOLDn is sampled (R190).
-/
namespace Sys2Proof.Machine

/-- Does a timer run out in this millisecond? -/
def runsOut : Option Nat → Bool
  | some n => decide (n ≤ 1)
  | none => false

/-- A timer after this millisecond; one that has run out stands at 0 until its expiry is taken (log entry 3). -/
def countDown : Option Nat → Option Nat
  | some n => some (n - 1)
  | none => none

/-- A command if a condition holds. -/
def dueIf (b : Bool) (c : Instr) : List Instr := if b then [c] else []

/-- Does the press reach a point that acts: 60 ms in DEBOUNCE, the long-press time in ARMED (R98, R100)? -/
def State.pressDue (s : State) : List Instr :=
  match s.press with
  | .debounce => dueIf (decide (60 ≤ s.pressTime + 1)) .debounceExpiry
  | .armed => dueIf (decide (s.longTime ≤ s.pressTime + 1)) .longPress
  | .released => []
  | .long => []

/-- Press time after this millisecond: it runs in DEBOUNCE up to 60 ms, and in ARMED up to the long-press time (R97). -/
def State.pressTimeNext (s : State) : Nat :=
  match s.press with
  | .debounce => if 60 ≤ s.pressTime then s.pressTime else s.pressTime + 1
  | .armed => if s.longTime ≤ s.pressTime then s.pressTime else s.pressTime + 1
  | .released => s.pressTime
  | .long => s.pressTime

/-- The sample of this millisecond finds HOLDn at a level the press state has not seen (R190, log entry 38). -/
def State.sampleDue (s : State) : List Instr :=
  dueIf (s.holdnLow && !s.levelSeen) .pressStart ++ dueIf (!s.holdnLow && s.levelSeen) .pressRelease

/-- Points of a flashing line that fall in this millisecond (R104). The end of the on time is due in the millisecond that
reaches it: where an upset leaves a duty of 0, or lowers the on time below the time already run, it is not reached again
and the line stays lit to the end of the period (log entry 9, DESIGN CHOICE). -/
def State.lineDue (s : State) (i : Nat) (l : LineGen) : List Instr :=
  if l.demand.flashes then
    dueIf (decide (l.time + 1 = (s.lineTiming i l.demand).2) &&
        decide ((s.lineTiming i l.demand).2 < (s.lineTiming i l.demand).1)) (.warnOnTimeEnd i) ++
      dueIf (decide ((s.lineTiming i l.demand).1 ≤ l.time + 1)) (.warnPeriodEnd i)
  else []

/-- Time within the flash period after this millisecond; it stands at the period until the new one begins (R102). -/
def State.lineNext (s : State) (i : Nat) (l : LineGen) : LineGen :=
  if l.demand.flashes then
    { l with time := if (s.lineTiming i l.demand).1 ≤ l.time then l.time else l.time + 1 }
  else l

/-- Prewarn timers that run out in this millisecond (R20). -/
def State.prewarnDue (s : State) : List Instr :=
  s.gangList.flatMap fun e => dueIf (runsOut e.2.prewarnLeft) (.prewarnExpiry e.1)

/-- Expiry commands of this millisecond, in the model's order (log entry 2). -/
def State.dueCommands (s : State) : List Instr :=
  dueIf (runsOut s.watchdogTimer) .watchdogExpiry ++ dueIf (runsOut s.substituteTimer) .substituteTimerExpiry ++
  dueIf (runsOut s.weatherTimer) .weatherTimerExpiry ++ s.prewarnDue ++ s.sampleDue ++ s.pressDue ++
  (s.lines.mapIdx s.lineDue).flatten

/-- One millisecond of a bridge that runs. -/
def passMillisecond (s : State) : State :=
  { s with
    now := s.now + 1
    watchdogTimer := countDown s.watchdogTimer
    substituteTimer := countDown s.substituteTimer
    weatherTimer := countDown s.weatherTimer
    gangs := s.gangs.map fun r => r.map fun r => { r with prewarnLeft := countDown r.prewarnLeft }
    pressTime := s.pressTimeNext
    sampled := false
    lines := s.lines.mapIdx s.lineNext
    pending := s.pending ++ s.dueCommands }

/-- One millisecond passes (log entry 2); in reset the time base stands still (R190). -/
def tick (s : State) : State := if s.inReset then s else passMillisecond s

end Sys2Proof.Machine
end

