-- ==== Sys2Proof/Machine/Dispatch.lean ====
section
/-! DEFINITION. What each command does: one arm per row of the table. -/
namespace Sys2Proof.Machine

def exec (i : Instr) (s : State) : Host.Outcome State Fault Refusal :=
  match i with
  | .coldReset cause release => Sys2Proof.Machine.execColdReset cause release s
  | .badFrame port bytes => Sys2Proof.Machine.execBadFrame port bytes s
  | .unknownKindFrame port bytes => Sys2Proof.Machine.execUnknownKindFrame port bytes s
  | .ignoredFrame bytes => Sys2Proof.Machine.execIgnoredFrame bytes s
  | .transitFrame bytes => Sys2Proof.Machine.execTransitFrame bytes s
  | .upstreamBoundFrame bytes => Sys2Proof.Machine.execUpstreamBoundFrame bytes s
  | .localSetpointArrival bytes => Sys2Proof.Machine.execLocalSetpointArrival bytes s
  | .localSetpointProcessing => Sys2Proof.Machine.execLocalSetpointProcessing s
  | .axisBecomesStale axis => Sys2Proof.Machine.execAxisBecomesStale axis s
  | .deferredTimeout => Sys2Proof.Machine.execDeferredTimeout s
  | .discardExpiry => Sys2Proof.Machine.execDiscardExpiry s
  | .transmitFrame port => Sys2Proof.Machine.execTransmitFrame port s
  | .feedbackArrival bytes => Sys2Proof.Machine.execFeedbackArrival bytes s
  | .weatherArrival bytes => Sys2Proof.Machine.execWeatherArrival bytes s
  | .weatherTimerExpiry => Sys2Proof.Machine.execWeatherTimerExpiry s
  | .eventArrival bytes => Sys2Proof.Machine.execEventArrival bytes s
  | .paramRspArrival bytes => Sys2Proof.Machine.execParamRspArrival bytes s
  | .paramReqArrival bytes => Sys2Proof.Machine.execParamReqArrival bytes s
  | .tableWrite bytes => Sys2Proof.Machine.execTableWrite bytes s
  | .tableRead bytes => Sys2Proof.Machine.execTableRead bytes s
  | .copyActive bytes => Sys2Proof.Machine.execCopyActive bytes s
  | .discardPending bytes => Sys2Proof.Machine.execDiscardPending bytes s
  | .activate bytes => Sys2Proof.Machine.execActivate bytes s
  | .verificationCompletion => Sys2Proof.Machine.execVerificationCompletion s
  | .gangHold bytes => Sys2Proof.Machine.execGangHold bytes s
  | .gangRelease bytes => Sys2Proof.Machine.execGangRelease bytes s
  | .clearTrip bytes => Sys2Proof.Machine.execClearTrip bytes s
  | .clearFlags bytes => Sys2Proof.Machine.execClearFlags bytes s
  | .clearSaturation bytes => Sys2Proof.Machine.execClearSaturation bytes s
  | .readAxis bytes => Sys2Proof.Machine.execReadAxis bytes s
  | .readGang bytes => Sys2Proof.Machine.execReadGang bytes s
  | .readDeferred bytes => Sys2Proof.Machine.execReadDeferred bytes s
  | .restart bytes => Sys2Proof.Machine.execRestart bytes s
  | .unknownCommand bytes => Sys2Proof.Machine.execUnknownCommand bytes s
  | .warmRestart => Sys2Proof.Machine.execWarmRestart s
  | .refreshCompletion => Sys2Proof.Machine.execRefreshCompletion s
  | .bankUpset changes => Sys2Proof.Machine.execBankUpset changes s
  | .watchdogExpiry => Sys2Proof.Machine.execWatchdogExpiry s
  | .substituteTimerExpiry => Sys2Proof.Machine.execSubstituteTimerExpiry s
  | .prewarnExpiry gang => Sys2Proof.Machine.execPrewarnExpiry gang s
  | .pressStart => Sys2Proof.Machine.execPressStart s
  | .debounceExpiry => Sys2Proof.Machine.execDebounceExpiry s
  | .pressRelease => Sys2Proof.Machine.execPressRelease s
  | .longPress => Sys2Proof.Machine.execLongPress s
  | .warnOnTimeEnd line => Sys2Proof.Machine.execWarnOnTimeEnd line s
  | .warnPeriodEnd line => Sys2Proof.Machine.execWarnPeriodEnd line s
  | .beginMark port => Sys2Proof.Machine.execBeginMark port s

end Sys2Proof.Machine
end

