-- ==== Sys2Proof/Safety.lean ====
section
/-!
DEFINITION. The terms the claims are stated in: what an arrival finds, what a management command leaves beside its own
effect, and the invariants of the bridge, each a rule of the spec that speaks of every moment.
-/
namespace Sys2Proof.Machine

/-! ### What an arrival finds -/

/-- The end mark with the last bytes of a frame finds its port RECEIVING, and the delimited frame is f (R150). -/
abbrev Receives (s : State) (p : Port) (bytes f : Frame) : Prop :=
  match (s.port p).rx with
  | .idle => False
  | .receiving taken => f = taken ++ bytes

/-- A frame passes the checks of its port, names one of the nine kinds, and has a segment and, as a MGMT-REQ on the
upstream port, a node (R151, R153). -/
abbrev GoodFrame (s : State) (p : Port) (f : Frame) (k : Kind) : Prop :=
  failedCheck (crcCheckOn s p) f = none ∧ kindOf (frameKind f) = some k ∧ framePayload f ≠ [] ∧
    ¬(p = .upstream ∧ k = .mgmtReq ∧ (framePayload f).length = 1)

/-- A payload does not fit its kind (R154, R189, section 10.2). -/
abbrev Misfit (k : Kind) (payload : List Byte) : Prop :=
  match k with
  | .setpoint =>
    (u8 payload 3).toNat = 0 ∨ 64 < (u8 payload 3).toNat ∨ payload.length ≠ 20 + 3 * (u8 payload 3).toNat
  | .feedback => payload.length ≠ 12
  | .event => payload.length ≠ 4 ∧ payload.length ≠ 8
  | .paramReq => (payload.length ≠ 6 ∧ payload.length ≠ 10) ∨ 1 < (u8 payload 5).toNat
  | .paramRsp => (payload.length ≠ 14 ∧ payload.length ≠ 18) ∨ 1 < (u8 payload 5).toNat
  | .weather => payload.length ≠ 6
  | .mgmtReq => payload.length < 4
  | .mgmtRsp => False
  | .status => False

/-- A MGMT-REQ for the upstream segment and the management node of the active route (R160). -/
abbrev ForManagement (s : State) (k : Kind) (payload : List Byte) : Prop :=
  k = .mgmtReq ∧ u8 payload 0 = s.config.upstreamSegment ∧ u8 payload 1 = s.config.node

/-- The port back in IDLE after an end mark (R150). -/
def State.arrived (s : State) (p : Port) : State := s.setPort p { s.port p with rx := .idle }

/-- A management frame arrives with a command value and arguments (R160, R163, R168, section 10.3). -/
abbrev ManagementArrives (s : State) (bytes f : Frame) (command : Byte) (args : List Byte) : Prop :=
  Receives s .upstream bytes f ∧ classify s .upstream f = .management ∧ u8 (framePayload f) 3 = command ∧
    (framePayload f).drop 4 = args

/-- Watchdog timer after the management kick, where kick-on-management is on and the watchdog runs (R163, R172). -/
def State.kickedTimer (s : State) : Option Nat :=
  if s.bankPresent && s.config.kickOnManagement && s.watchdog == .running then some s.config.watchdogTimeout
  else s.watchdogTimer

/-- What every management arrival does before its command's own effect (R150, R163). -/
def State.managed (s : State) : State := { s.arrived .upstream with watchdogTimer := s.kickedTimer }

/-- The MGMT-RSP to a request f: its segment, sequence and command, a result value and returned data (R183, R188,
section 10.3). -/
def mgmtRsp (f : Frame) (result : Byte) (data : List Byte) : Frame :=
  let body := [0x42#8, byteOf (4 + data.length), u8 (framePayload f) 0, u8 (framePayload f) 2, u8 (framePayload f) 3,
    result] ++ data
  [0x5A#8, 0xA5#8] ++ body ++ bytes16 (linkCrc body)

/-- A command answered: the response is handed to the upstream port over the state its effect leaves. -/
def State.answered (effect : State) (f : Frame) (result : Byte) (data : List Byte) : State :=
  effect.hand .upstream (mgmtRsp f result data)

/-- The oldest waiting frame is processed under the active bank with no swap waiting, and nothing waits for the completion
(R162, R121, R124, R128, R187). -/
abbrev Processes (s : State) (w : WaitingFrame) (rest : List WaitingFrame) : Prop :=
  s.waiting = w :: rest ∧ s.bankPresent = true ∧ s.pendingState ≠ .readyToSwap ∧ s.due = []

/-- The oldest waiting frame makes the swap and is processed under the new bank: a fitting controller frame for the new S,
which was the old S too where a bank was active, or a substitute frame at a swap that keeps S; and nothing waits for the
completion (R124, R125, R168, R187). -/
abbrev ProcessesSwapping (s : State) (w : WaitingFrame) (rest : List WaitingFrame) : Prop :=
  s.waiting = w :: rest ∧ s.pendingState = .readyToSwap ∧ s.due = [] ∧
    ¬Misfit .setpoint (framePayload w.bytes) ∧ u8 (framePayload w.bytes) 0 = s.pendingBank.config.segment ∧
    (s.bankPresent = true → u8 (framePayload w.bytes) 0 = s.config.segment) ∧
    (s.bankPresent = false → w.origin ≠ .substitute)

/-- What the warm restart made on s leaves in t: every block as its rule says, and everything else, the ports, the banks,
the wind, the press, the frames that wait for processing and the last cycle number among it, as it was (R28, R69, R88, R96,
R101, R106, R129, R142, R144, R177, R186; the waiting frames by log entry 18, DEDUCED). -/
abbrev Restarted (s t : State) : Prop :=
  ((∀ fl, t.flag fl = true ↔ fl = .resetOccurred ∨ (fl = .weatherStale ∧ s.weatherStale = true)) ∧
    t.events = [] ∧ t.deferred = [] ∧ t.backoff = 0 ∧ t.reportedNodes = [] ∧ t.due = s.due.filter Due.isRestart) ∧
  (t.pendingState = .editing ∧ t.expectedCrc = none ∧ t.pendingCrc = none ∧
    t.refresh = (if s.bankPresent then some s.active else none)) ∧
  (t.watchdog = (if s.bankPresent && s.config.watchdogEnabled then .running else .stopped) ∧
    t.watchdogTimer =
      (if s.bankPresent && s.config.watchdogEnabled then some s.config.watchdogTimeout else none) ∧
    t.olderArrival = none ∧ t.newerArrival = none ∧ t.substituteTimer = none) ∧
  ((∀ g, g < 8 →
      t.gang g =
        (s.gang g).map fun _ =>
          { GangRec.created with
            holds := { HoldSet.restartAlone with
              operator := s.operatorHold, wind := decide ((s.gangRow g).permission.toNat < s.windClass) } }) ∧
    (∀ i, t.axis i = (s.axis i).map fun _ => AxisRec.cleared) ∧
    (∀ i, t.forward i = (s.forward i).map fun _ => ForwardRec.cleared) ∧
    (∀ g, t.fence g = (s.fence g).map fun _ => FenceResult.cleared)) ∧
  (t.highPtr = .low ∧ t.lowPtr = none ∧ t.openGrant = none ∧
    (∀ i, t.grantRec i = { count := 0, saturated := false }) ∧
    (∀ l ∈ t.lines, l.demand = .off ∧ l.level = false)) ∧
  { t with
    flags := s.flags, events := s.events, deferred := s.deferred, backoff := s.backoff,
    reportedNodes := s.reportedNodes, pendingState := s.pendingState, expectedCrc := s.expectedCrc,
    pendingCrc := s.pendingCrc, refresh := s.refresh, watchdog := s.watchdog, watchdogTimer := s.watchdogTimer,
    olderArrival := s.olderArrival, newerArrival := s.newerArrival, substituteTimer := s.substituteTimer,
    gangs := s.gangs, axes := s.axes, forwards := s.forwards, fences := s.fences, highPtr := s.highPtr,
    lowPtr := s.lowPtr, openGrant := s.openGrant, grantRecs := s.grantRecs, lines := s.lines,
    due := s.due, faultnLow := s.faultnLow } = s

/-- RESTARTs made in turn on s leave t: the first one's effects, and then for each further one its answer, handed over
after the effects of the one before, and its own effects (R186, R187). -/
def RestartedInTurn : State → List Frame → State → Prop
  | s, [], t => Restarted s t
  | s, answer :: more, t => ∃ m, Restarted s m ∧ RestartedInTurn (m.hand .upstream answer) more t

/-- A frame carries a slot for an axis row: the node of one of its slots is the node of that valid row (R32). -/
abbrev CarriesAxis (b : Bank) (payload : List Byte) (i : Nat) : Prop :=
  ∃ k, k < (u8 payload 3).toNat ∧ within 1 126 (u8 payload (20 + 3 * k)).toNat = true ∧
    b.axisOfNode (u8 payload (20 + 3 * k)) = some i

/-- An upstream frame that carries a management command with a value (R160, R163). -/
abbrev CarriesCommand (s : State) (c : Instr) (command : Byte) : Prop :=
  match s.up.rx with
  | .idle => False
  | .receiving taken =>
    match c with
    | .badFrame .upstream bytes | .unknownKindFrame .upstream bytes | .ignoredFrame bytes | .transitFrame bytes
    | .localSetpointArrival bytes | .paramReqArrival bytes | .tableWrite bytes | .tableRead bytes | .copyActive bytes
    | .discardPending bytes | .activate bytes | .gangHold bytes | .gangRelease bytes | .clearTrip bytes
    | .clearFlags bytes | .clearSaturation bytes | .readAxis bytes | .readGang bytes | .readDeferred bytes
    | .restart bytes | .unknownCommand bytes =>
      classify s .upstream (taken ++ bytes) = .management ∧ u8 (framePayload (taken ++ bytes)) 3 = command
    | _ => False

/-! ### Invariants -/

/-- One place for every row of the spec's tables (R52, R1, R72, R102, R144). -/
abbrev State.Shaped (s : State) : Prop :=
  s.axes.length = 64 ∧ s.forwards.length = 64 ∧ s.gangs.length = 8 ∧ s.fences.length = 8 ∧ s.lines.length = 4 ∧
    s.grantRecs.length = 64

/-- No queue holds more than its places (R130, R155, R162, R180). -/
abbrev State.QueuesBounded (s : State) : Prop :=
  s.up.queue.length ≤ 16 ∧ s.down.queue.length ≤ 16 ∧ s.waiting.length ≤ 4 ∧ s.events.length ≤ 32 ∧
    s.deferred.length ≤ 8 ∧ s.backoff ≤ 2

/-- FAULTn is low exactly while an unmasked flag is set (R179). -/
abbrev State.FaultnSound (s : State) : Prop :=
  s.faultnLow = true ↔
    ∃ k, k < 24 ∧ s.flags.getLsbD k = true ∧ ¬(s.bankPresent = true ∧ s.active.config.faultMask.getLsbD k = true)

/-- Classes are 0 to 3; stale weather has class 3 and no timer, fresh weather a running one (R41, R89). -/
abbrev State.WeatherSound (s : State) : Prop :=
  s.windClass ≤ 3 ∧ (∀ cls, s.frameClass = some cls → cls ≤ 3) ∧ (s.weatherStale = true → s.windClass = 3 ∧ s.weatherTimer = none) ∧
    (s.weatherStale = false → ∃ n, s.weatherTimer = some n ∧ n ≤ 3000)

/-- While the operator-hold mark is set every gang carries OPERATOR (R101). -/
abbrev State.OperatorSound (s : State) : Prop :=
  s.operatorHold = true → ∀ o ∈ s.gangs, ∀ r ∈ o, r.holds.operator = true

/-- The watchdog's state, flag and timers agree (R171, R174, R176). -/
abbrev State.WatchdogSound (s : State) : Prop :=
  (s.bankPresent = false → s.watchdog = .stopped) ∧
  (s.watchdog = .running → s.flag .watchdog = false) ∧
  (s.watchdog = .substituting ∨ s.watchdog = .latched → s.flag .watchdog = true) ∧
  (s.watchdogTimer.isSome = true ↔ s.watchdog = .running) ∧
  (s.substituteTimer.isSome = true ↔ s.watchdog = .substituting)

/-- While the WATCHDOG flag is set every gang carries WATCHDOG (R8). -/
abbrev State.WatchdogHolds (s : State) : Prop :=
  s.flag .watchdog = true → ∀ o ∈ s.gangs, ∀ r ∈ o, r.holds.watchdog = true

/-- One gang record: hold causes only at rest or coming to rest, a first trip cause exactly in TRIPPED, the prewarn
timer and PREWARN_DONE only in PREWARN and not together, no RECOVERY in TRIPPED (R3, R6, R13, R20, R26). -/
abbrev GangRec.Sound (r : GangRec) : Prop :=
  (r.holds.isEmpty = false → r.state = .holding ∨ r.state = .held ∨ r.state = .tripped) ∧
  (r.firstTrip.isSome = true ↔ r.state = .tripped) ∧
  (r.prewarnLeft.isSome = true ∨ r.prewarnDone = true → r.state = .prewarn) ∧
  (r.prewarnDone = true → r.prewarnLeft = none) ∧
  (r.recovery.isSome = true → r.state ≠ .tripped)

/-- Every gang record is sound. -/
abbrev State.GangsSound (s : State) : Prop := ∀ o ∈ s.gangs, ∀ r ∈ o, r.Sound

/-- Is an entry ISSUED or READBACK (R130)? -/
def DeferredEntry.busy (e : DeferredEntry) : Bool :=
  match e.status with
  | .issued _ => true
  | .readbackDue => true
  | .readbackSent _ => true
  | .queued => false
  | .complete _ _ _ => false

/-- Counts of an entry in the ranges of R131. -/
abbrev DeferredEntry.InRange (e : DeferredEntry) : Prop :=
  match e.status with
  | .issued n => n ≤ 8
  | .readbackSent n => n ≤ 8
  | .complete _ _ n => 1 ≤ n ∧ n ≤ 1024
  | .queued => True
  | .readbackDue => True

/-- No two entries with equal keys, at most one ISSUED or READBACK, counts in range (R130, R131). -/
abbrev State.DeferredSound (s : State) : Prop :=
  (s.deferred.map fun e => e.key).Nodup ∧ (s.deferred.filter DeferredEntry.busy).length ≤ 1 ∧
    ∀ e ∈ s.deferred, e.InRange

/-- The pending bank state and the CRCs agree, and a refresh runs only with a bank active and nothing waiting (R108,
R123, R127). -/
abbrev State.BanksSound (s : State) : Prop :=
  (s.expectedCrc.isSome = true ↔ s.pendingState = .verifying) ∧
  (s.pendingCrc.isSome = true ↔ s.pendingState = .readyToSwap) ∧
  (s.verifiedCrc.isSome = true ↔ s.bankPresent = true) ∧
  (s.refresh.isSome = true → s.bankPresent = true ∧ s.pendingState = .editing)

/-- While no bank is active there is no record, no deferred entry, nothing to transmit downstream, and every line is
off (R1, R30, R52, R72, R102, R128, R130, R168). -/
abbrev State.Unconfigured (s : State) : Prop :=
  s.bankPresent = false →
    (∀ o ∈ s.axes, o = none) ∧ (∀ o ∈ s.forwards, o = none) ∧ (∀ o ∈ s.gangs, o = none) ∧
    (∀ o ∈ s.fences, o = none) ∧ s.deferred = [] ∧ s.down.queue = [] ∧
    (∀ l ∈ s.lines, l.demand = .off ∧ l.level = false)

/-- One axis record: every figure and count in its range (R53): the raw position a 32-bit field, the common and the start
position within ±2,000,000,000. -/
abbrev AxisRec.InRange (r : AxisRec) : Prop :=
  (-2147483648 ≤ r.rawPosition ∧ r.rawPosition ≤ 2147483647) ∧
    (∀ p ∈ r.start, -2000000000 ≤ p ∧ p ≤ 2000000000) ∧
  -2000000000 ≤ r.position ∧ r.position ≤ 2000000000 ∧ -32767 ≤ r.velocity ∧ r.velocity ≤ 32767 ∧
    -32767 ≤ r.rawVelocity ∧ r.rawVelocity ≤ 32767 ∧ r.freshness ≤ 15 ∧ r.echoCount ≤ 3

/-- Every axis record is in range (R53). -/
abbrev State.AxesInRange (s : State) : Prop := ∀ o ∈ s.axes, ∀ r ∈ o, r.InRange

/-- The arbiter's pointers name rows of the table (R144). -/
abbrev State.PointersSound (s : State) : Prop :=
  (∀ i, s.highPtr = .row i → i < 64) ∧ ∀ i, s.lowPtr = some i → i < 64

/-- Something waits for the completion of a processing, or an earlier wind class is kept for it, only while a local setpoint
frame is in it (R41, R121, R128, R187). -/
abbrev State.DueSound (s : State) : Prop := s.due ≠ [] ∨ s.frameClass ≠ none → s.waiting ≠ []

/-- A bank has one place for every row (R107). -/
abbrev Bank.Shaped (b : Bank) : Prop :=
  b.axes.length = 64 ∧ b.gangs.length = 8 ∧ b.interlocks.length = 16

end Sys2Proof.Machine
end

