-- ==== Sys2Proof/Certificates/Slice0/Obligations.lean ====
section
/-!
DEFINITION. What is claimed of the bridge, for the provers: one proposition per claim, listed in OBLIGATIONS.json.
A frame is said by an equation for the whole next state wherever a command's rules fix it; the shared operations those
equations name (hand, offer, addHold, addTrip, settle, updateFaultn) have claims of their own.
-/

section Statements

open Sys2Proof Sys2Proof.Machine

/-! ### The queue, reset, time -/

/-- The step takes the command at the front of the queue and runs it on the state with the rest (the row's cut). -/
def Obligations.StepRunsFirstQueuedCommand : Prop :=
  ∀ (c : Instr) (rest : List Instr) (s : State), s.pending = c :: rest → step s = exec c { s with pending := rest }

/-- MODEL'S CHOICE (log entries 2, 3 and 38, and, for the press time that stands in RELEASED and LONG, 27): with no
command waiting a step is one millisecond, and in reset nothing. The running timers fall by one, the press time and the
times of flashing lines rise by one up to their next point; timers that run out and points that are reached join the
queue; HOLDn is sampled, a level not seen before joining the queue too; a stopped timer stays stopped, a gang without a
record stays without one, no other command joins the queue, and nothing but time changes. -/
def Obligations.IdleStepIsOneMillisecond : Prop :=
  ∀ s : State, s.pending = [] →
    (s.inReset = true → step s = .next s) ∧
    (s.inReset = false →
      ∃ t, step s = .next t ∧ t.now = s.now + 1 ∧
        (∀ n, s.watchdogTimer = some n → t.watchdogTimer = some (n - 1) ∧ (n ≤ 1 ↔ .watchdogExpiry ∈ t.pending)) ∧
        (∀ n, s.substituteTimer = some n →
          t.substituteTimer = some (n - 1) ∧ (n ≤ 1 ↔ .substituteTimerExpiry ∈ t.pending)) ∧
        (∀ n, s.weatherTimer = some n → t.weatherTimer = some (n - 1) ∧ (n ≤ 1 ↔ .weatherTimerExpiry ∈ t.pending)) ∧
        (∀ g r, g < 8 → s.gang g = some r →
          t.gang g = some { r with prewarnLeft := r.prewarnLeft.map fun n => n - 1 } ∧
          ∀ n, r.prewarnLeft = some n → (n ≤ 1 ↔ .prewarnExpiry g ∈ t.pending)) ∧
        (s.press = .debounce →
          (60 ≤ s.pressTime + 1 ↔ .debounceExpiry ∈ t.pending) ∧
            t.pressTime = if 60 ≤ s.pressTime then s.pressTime else s.pressTime + 1) ∧
        (s.press = .armed →
          (s.longTime ≤ s.pressTime + 1 ↔ .longPress ∈ t.pending) ∧
            t.pressTime = if s.longTime ≤ s.pressTime then s.pressTime else s.pressTime + 1) ∧
        (s.press = .released ∨ s.press = .long → t.pressTime = s.pressTime) ∧
        (t.sampled = false ∧ (.pressStart ∈ t.pending ↔ s.holdnLow = true ∧ s.press = .released) ∧
          (.pressRelease ∈ t.pending ↔ s.holdnLow = false ∧ s.press ≠ .released)) ∧
        (∀ i l, s.lines[i]? = some l →
          (l.demand = .steady ∨ l.demand = .off → t.lines[i]? = some l) ∧
          (l.demand = .fast ∨ l.demand = .own →
            let period := if l.demand = .fast then 250 else (s.config.line i).periodMs
            let on := if l.demand = .fast then 125 else (s.config.line i).periodMs * (s.config.line i).duty.toNat / 8
            t.lines[i]? = some { l with time := if period ≤ l.time then l.time else l.time + 1 } ∧
            (period ≤ l.time + 1 ↔ .warnPeriodEnd i ∈ t.pending) ∧
            (l.time + 1 = on ∧ on < period ↔ .warnOnTimeEnd i ∈ t.pending))) ∧
        ((s.watchdogTimer = none → t.watchdogTimer = none ∧ .watchdogExpiry ∉ t.pending) ∧
          (s.substituteTimer = none → t.substituteTimer = none ∧ .substituteTimerExpiry ∉ t.pending) ∧
          (s.weatherTimer = none → t.weatherTimer = none ∧ .weatherTimerExpiry ∉ t.pending) ∧
          (∀ g, s.gang g = none → t.gang g = none) ∧ t.lines.length = s.lines.length ∧
          (s.press ≠ .debounce → .debounceExpiry ∉ t.pending) ∧ (s.press ≠ .armed → .longPress ∉ t.pending)) ∧
        (∀ c ∈ t.pending,
          c ∈ [Instr.watchdogExpiry, .substituteTimerExpiry, .weatherTimerExpiry, .debounceExpiry, .longPress,
            .pressStart, .pressRelease] ∨
          (∃ g r n, g < 8 ∧ s.gang g = some r ∧ r.prewarnLeft = some n ∧ c = .prewarnExpiry g) ∨
          ∃ i l, s.lines[i]? = some l ∧ (l.demand = .fast ∨ l.demand = .own) ∧
            (c = .warnOnTimeEnd i ∨ c = .warnPeriodEnd i)) ∧
        { t with
          now := s.now, watchdogTimer := s.watchdogTimer, substituteTimer := s.substituteTimer,
          weatherTimer := s.weatherTimer, gangs := s.gangs, pressTime := s.pressTime, sampled := s.sampled,
          lines := s.lines, pending := s.pending } = s)

/-- MODEL'S CHOICE (log entry 36, DEDUCED: no command stops; log entry 31, DESIGN CHOICE: the queue is the sender's):
every command has a next state, and none touches the queue of commands. -/
def Obligations.EveryCommandCompletesAndKeepsTheQueue : Prop :=
  ∀ (c : Instr) (s : State), ∃ t, exec c s = .next t ∧ t.pending = s.pending

/-- A cold reset leaves every block at its cold-reset values, RESET_OCCURRED alone set and FAULTn low; it ends with
HOLDn high or low, or goes on; a RESETn pulse shorter than 10 microseconds leaves everything; and throughout a reset no
command but COLD_RESET acts and no time passes. Both banks then hold the default config row of R109 and no valid row
(R190 with R68, R88, R89, R97, R102, R107, R108, R130, R144, R150, R155, R171, R177, R181). The model's choices in the
state it leaves are log entries 6 (queue kept), 7 (time base), 8 (draw number), 18 (waiting frames emptied), 24 (nothing
on the lines), 29 (flash times 0) and 38 (the level sampled at the end). -/
def Obligations.ColdResetLeavesResetValues : Prop :=
  (∀ (cause : ResetCause) (s : State),
    (cause = .powerOn ∨ (∃ n, cause = .resetnLow n ∧ 10 ≤ n) ∨ s.inReset = true) →
      (∀ low : Bool, exec (.coldReset cause (some low)) s =
        .next { State.reset with
          pending := s.pending, draws := s.draws, press := if low then .debounce else .released,
          holdnLow := low, sampled := low }) ∧
      exec (.coldReset cause none) s =
        .next { State.reset with pending := s.pending, draws := s.draws, inReset := true }) ∧
  (∀ (n : Nat) (release : Option Bool) (s : State), n < 10 → s.inReset = false →
    exec (.coldReset (.resetnLow n) release) s = .next s.updateFaultn) ∧
  (∀ (queue : List Instr) (draws : Nat),
    let s := { State.reset with pending := queue, draws := draws, inReset := true }
    (∀ c : Instr, (∀ cause release, c ≠ .coldReset cause release) → exec c s = .next s) ∧
      (queue = [] → step s = .next s)) ∧
  State.reset.inReset = false ∧
  State.reset.bankPresent = false ∧ State.reset.pendingState = .editing ∧ State.reset.refresh = none ∧
  State.reset.active = State.reset.pendingBank ∧ State.reset.verifiedCrc = none ∧ State.reset.expectedCrc = none ∧
  (∀ i, State.reset.axis i = none ∧ State.reset.forward i = none) ∧
  (∀ g, State.reset.gang g = none ∧ State.reset.fence g = none) ∧
  State.reset.windClass = 3 ∧ State.reset.frameClass = none ∧ State.reset.weatherStale = true ∧ State.reset.weatherTimer = none ∧
  State.reset.press = .released ∧ State.reset.pressTime = 0 ∧ State.reset.longTime = 3000 ∧
  State.reset.operatorHold = false ∧ (∀ l ∈ State.reset.lines, l.demand = .off ∧ l.level = false) ∧
  State.reset.deferred = [] ∧ State.reset.backoff = 0 ∧ State.reset.highPtr = .low ∧ State.reset.lowPtr = none ∧
  State.reset.openGrant = none ∧ (∀ i, State.reset.grantRec i = { count := 0, saturated := false }) ∧
  State.reset.watchdog = .stopped ∧ State.reset.watchdogTimer = none ∧ State.reset.substituteTimer = none ∧
  State.reset.olderArrival = none ∧ State.reset.newerArrival = none ∧ State.reset.lastCycle = 0 ∧
  (State.reset.pendingBank.config =
      { upstreamSegment := 0, segment := 0, subordinate := 0, node := 126, options := 0b000111, timeoutCode := 4,
        staleLimit := 4, weatherNode := 120, t1 := 100, t2 := 150, t3 := 200, hysteresis := 10, longPressCode := 1,
        faultMask := 0, protectedLo := 0x2000, protectedHi := 0x20FF,
        warn0 := { mask := 0, period := 2, duty := 4 }, warn1 := { mask := 0, period := 2, duty := 4 },
        warn2 := { mask := 0, period := 2, duty := 4 }, warn3 := { mask := 0, period := 2, duty := 4 } } ∧
    ∀ table index, table ≠ .config → index < table.rows →
      State.reset.pendingBank.rowImage table index = List.replicate table.rowBytes 0) ∧
  (∀ f, State.reset.flag f = true ↔ f = .resetOccurred) ∧ State.reset.events = [] ∧
  State.reset.faultnLow = true ∧ State.reset.reportedNodes = [] ∧
  State.reset.up.rx = .idle ∧ State.reset.up.queue = [] ∧ State.reset.down.rx = .idle ∧ State.reset.down.queue = []

/-- Every invariant of the model holds after reset. -/
def Obligations.ResetMeetsEveryInvariant : Prop :=
  State.reset.Shaped ∧ State.reset.QueuesBounded ∧ State.reset.FaultnSound ∧ State.reset.WeatherSound ∧
    State.reset.OperatorSound ∧ State.reset.WatchdogSound ∧ State.reset.WatchdogHolds ∧ State.reset.GangsSound ∧
    State.reset.DeferredSound ∧ State.reset.BanksSound ∧ State.reset.Unconfigured ∧ State.reset.AxesInRange ∧
    State.reset.active.Shaped ∧ State.reset.pendingBank.Shaped ∧ State.reset.PointersSound ∧ State.reset.DueSound

/-! ### Ports, routing and the queues between blocks -/

/-- A bad frame is dropped with the flag of its first failed check on its port, and nothing else (R151, R152). A frame
is good exactly when it fails none of the three checks: one whose trailer is wrong is good too while the active row
turns the CRC check of its port off (R152). -/
def Obligations.BadFrameSetsFlagOfFirstFailedCheck : Prop :=
  ∀ (s : State) (p : Port) (f : Frame),
    let syncFails := f.length < 2 ∨ u8 f 1 ≠ ~~~(u8 f 0)
    let lengthFails := f.length < 6 ∨ (u8 f 3).toNat ≠ f.length - 6
    let crcFails :=
      (s.bankPresent = false ∨ s.active.config.options.getLsbD (if p = .upstream then 0 else 1) = true) ∧
        linkCrc ((f.drop 2).take (f.length - 4)) ≠ u16 f (f.length - 2)
    let dropped := fun (up down : Flag) =>
      ∀ bytes, Receives s p bytes f →
        exec (.badFrame p bytes) s = .next ((s.arrived p).setFlag (if p = .upstream then up else down)).updateFaultn
    (failedCheck (crcCheckOn s p) f = none ↔ ¬syncFails ∧ ¬lengthFails ∧ ¬crcFails) ∧
    (s.bankPresent = true → s.active.config.options.getLsbD (if p = .upstream then 0 else 1) = false →
      ¬syncFails → ¬lengthFails → failedCheck (crcCheckOn s p) f = none) ∧
    (syncFails → dropped .linkSyncU .linkSyncD) ∧
    (¬syncFails → lengthFails → dropped .linkLengthU .linkLengthD) ∧
    (¬syncFails → ¬lengthFails → crcFails → dropped .linkCrcU .linkCrcD)

/-- A good frame of unknown kind, without a segment, or as a MGMT-REQ without a node, is dropped with FRAME_KIND; so is
one that a block would take in and that does not fit its kind, a MGMT-REQ for node 126 while no bank is active among them
(R153, R154, R168, R189). -/
def Obligations.UnknownOrMisfittingFrameIsDropped : Prop :=
  ∀ (s : State) (p : Port) (bytes f : Frame), Receives s p bytes f → failedCheck (crcCheckOn s p) f = none →
    ((u8 f 2 ∉ [0x11, 0x21, 0x22, 0x31, 0x32, 0x41, 0x42, 0x43, 0x51] ∨ framePayload f = [] ∨
        (p = .upstream ∧ u8 f 2 = 0x41 ∧ (framePayload f).length = 1)) →
      exec (.unknownKindFrame p bytes) s = .next ((s.arrived p).setFlag .frameKind).updateFaultn) ∧
    (∀ k, GoodFrame s p f k → s.bankPresent = true → Misfit k (framePayload f) →
      (p = .upstream ∧ ForManagement s k (framePayload f) ∨
       p = .upstream ∧ ¬ForManagement s k (framePayload f) ∧ (k = .setpoint ∨ k = .paramReq) ∧
         u8 (framePayload f) 0 = s.config.segment ∨
       p = .downstream ∧ (k = .feedback ∨ k = .weather ∨ k = .event ∨ k = .paramRsp) ∧
         u8 (framePayload f) 0 = s.config.segment) →
      exec (.unknownKindFrame p bytes) s = .next ((s.arrived p).setFlag .frameKind).updateFaultn) ∧
    (p = .upstream → GoodFrame s p f .mgmtReq → s.bankPresent = false → u8 (framePayload f) 1 = 126 →
      (framePayload f).length < 4 →
      exec (.unknownKindFrame p bytes) s = .next ((s.arrived p).setFlag .frameKind).updateFaultn)

/-- Transit frames go to the downstream queue unchanged (R160, R164). On the downstream port, frames of other
segments, STATUS and MGMT-RSP go to the upstream queue unchanged, downward kinds are dropped, and while no bank is
active every frame goes upstream (R165, R169). Upstream frames for other segments, and local ones of kinds the
bridge does not take, are dropped without a flag; while no bank is active so is every frame but a MGMT-REQ for
node 126 and a SETPOINT that makes the swap (R160, R161, R168; a SETPOINT that names the waiting bank's S and does
not fit by log entry 16, DEDUCED). -/
def Obligations.FramesAreForwardedUnchangedOrIgnored : Prop :=
  (∀ (s : State) (bytes f : Frame) (k : Kind),
    (Receives s .upstream bytes f → s.bankPresent = true → GoodFrame s .upstream f k →
      ¬ForManagement s k (framePayload f) →
      s.config.segment.toNat < (u8 (framePayload f) 0).toNat →
      (u8 (framePayload f) 0).toNat ≤ s.config.subordinate.toNat →
      exec (.transitFrame bytes) s = .next ((s.arrived .upstream).hand .downstream f).updateFaultn) ∧
    (Receives s .downstream bytes f → GoodFrame s .downstream f k →
      (s.bankPresent = false ∨ k = .status ∨ k = .mgmtRsp ∨
        (k ∈ [Kind.feedback, .weather, .event, .paramRsp] ∧ u8 (framePayload f) 0 ≠ s.config.segment)) →
      exec (.upstreamBoundFrame bytes) s = .next ((s.arrived .downstream).hand .upstream f).updateFaultn) ∧
    (Receives s .downstream bytes f → GoodFrame s .downstream f k → s.bankPresent = true →
      k ∈ [Kind.setpoint, .paramReq, .mgmtReq] →
      exec (.upstreamBoundFrame bytes) s = .next (s.arrived .downstream).updateFaultn)) ∧
  (∀ (s : State) (bytes f : Frame) (k : Kind), Receives s .upstream bytes f → s.bankPresent = true →
    GoodFrame s .upstream f k → ¬ForManagement s k (framePayload f) →
    ((u8 (framePayload f) 0 = s.config.segment ∧ k ≠ .setpoint ∧ k ≠ .paramReq) ∨
      (u8 (framePayload f) 0).toNat < s.config.segment.toNat ∨
      (u8 (framePayload f) 0 ≠ s.config.segment ∧
        s.config.subordinate.toNat < (u8 (framePayload f) 0).toNat)) →
    exec (.ignoredFrame bytes) s = .next (s.arrived .upstream).updateFaultn) ∧
  (∀ (s : State) (bytes f : Frame) (k : Kind), Receives s .upstream bytes f → s.bankPresent = false →
    GoodFrame s .upstream f k → (k = .mgmtReq → u8 (framePayload f) 1 ≠ 126) →
    (k = .setpoint → ¬(s.pendingState = .readyToSwap ∧ u8 (framePayload f) 0 = s.pendingBank.config.segment ∧
      ¬Misfit .setpoint (framePayload f))) →
    exec (.ignoredFrame bytes) s = .next (s.arrived .upstream).updateFaultn)

/-- A begin mark takes an IDLE port of a bridge that is not in reset into a new frame and has no other effect (R150,
R190; log entry 5, DEDUCED). A transmission takes the frame at the head of the port's queue, whatever is on the line
(log entry 24, DESIGN CHOICE), and with an empty queue there is none (R155). A transmit queue takes a frame at its tail
while it holds fewer than 16, else the frame is lost with a LINK_TX_OVERRUN record; the event queue takes a record at
its tail while it holds fewer than 32, else the record is lost with EVENT_LOST (R155, R156, R180). -/
def Obligations.PortsAndQueuesTakeAndLose : Prop :=
  (∀ (s : State) (p : Port),
    ((s.port p).rx = .idle → s.inReset = false →
      exec (.beginMark p) s = .next (s.setPort p { s.port p with rx := .receiving [] }).updateFaultn) ∧
    ((s.port p).rx ≠ .idle ∨ s.inReset = true → exec (.beginMark p) s = .next s.updateFaultn) ∧
    (∀ f rest, (s.port p).queue = f :: rest →
      exec (.transmitFrame p) s =
        .next (s.setPort p { s.port p with queue := rest, onLine := some f }).updateFaultn) ∧
    ((s.port p).queue = [] → exec (.transmitFrame p) s = .next s.updateFaultn)) ∧
  (∀ (s : State) (f : Frame),
    (s.up.queue.length < 16 →
      s.hand .upstream f = { s with up := { s.up with queue := s.up.queue ++ [f] } }) ∧
    (16 ≤ s.up.queue.length → s.hand .upstream f = s.offer .bridge 0xF009 none (some (0x00#8 ++ u8 f 2 ++ 0#16))) ∧
    (s.down.queue.length < 16 →
      s.hand .downstream f = { s with down := { s.down with queue := s.down.queue ++ [f] } }) ∧
    (16 ≤ s.down.queue.length →
      s.hand .downstream f = s.offer .bridge 0xF009 none (some (0x01#8 ++ u8 f 2 ++ 0#16)))) ∧
  (∀ (s : State) (source : EventSource) (code : Half) (gang : Option Nat) (data : Option Word),
    (s.events.length < 32 →
      s.offer source code gang data =
        { s with
          events := s.events ++
            [{ source := source, code := code, gang := gang, data := data, cycle := s.lastCycle }] }) ∧
    (32 ≤ s.events.length → s.offer source code gang data = { s with flags := s.flags ||| 0x004000#24 }))

/-- No step lets a queue grow beyond its places, nor changes how many rows and records there are places for, nor puts a
pointer of the arbiter beyond the rows; and something waits for the completion of a processing, or a wind class is kept
for it, only while a frame is in it (R41, R107, R121, R128, R130, R144, R155, R162, R180, R187). -/
def Obligations.EveryStepKeepsShapeAndQueueBounds : Prop :=
  (∀ s t : State, s.Shaped → s.active.Shaped → s.pendingBank.Shaped → s.QueuesBounded → step s = .next t →
    t.Shaped ∧ t.active.Shaped ∧ t.pendingBank.Shaped ∧ t.QueuesBounded) ∧
  (∀ s t : State, s.PointersSound → step s = .next t → t.PointersSound) ∧
  (∀ s t : State, s.DueSound → step s = .next t → t.DueSound)

/-! ### Supervisor -/

/-- FAULTn stays low exactly while an unmasked flag is set, with no flag masked while no bank is active (R179). -/
def Obligations.EveryStepKeepsFaultnFollowingFlags : Prop :=
  ∀ s t : State, s.FaultnSound → step s = .next t → t.FaultnSound

/-- A sticky flag stays set until CLEAR FLAGS, a restart or a cold reset clears it (R177); the restart is made with the
RESTART command, at the completion of a processing it waits for, or by WARM_RESTART (R186, R187, log entry 23). -/
def Obligations.StickyFlagsFallOnlyByClearOrRestart : Prop :=
  ∀ (c : Instr) (s t : State) (f : Flag), exec c s = .next t → s.flag f = true → t.flag f = false →
    (∃ cause release, c = .coldReset cause release) ∨ c = .warmRestart ∨ CarriesCommand s c 0x09 ∨
      CarriesCommand s c 0x0E ∨ (c = .localSetpointProcessing ∧ ∃ owed, Due.restart owed ∈ s.due)

/-- A controller setpoint frame is reported to the supervisor, then waits for its processing or is discarded when 4
already wait (R162, R172, R175). At an unconfigured bridge it is reported too (log entry 26, DEDUCED) and, unless it is
discarded, makes the swap at its arrival: from then on the rows, the route and the CRC enables are the new bank's (R168,
R170). That the oldest waiting frame counts among the 4 is log entry 41 (DEDUCED). -/
def Obligations.SetpointArrivalKicksAndWaits : Prop :=
  ∀ (s : State) (bytes f : Frame), Receives s .upstream bytes f → classify s .upstream f = .localSetpoint →
    let w : WaitingFrame := { origin := .controller s.now, bytes := f }
    let reported :=
      { s.arrived .upstream with
        olderArrival := s.newerArrival
        newerArrival := some s.now
        watchdogTimer := if s.watchdog = .running then some s.config.watchdogTimeout else s.watchdogTimer
        watchdog := if s.watchdog = .substituting then .latched else s.watchdog
        substituteTimer := if s.watchdog = .substituting then none else s.substituteTimer }
    (4 ≤ s.waiting.length → exec (.localSetpointArrival bytes) s = .next reported.updateFaultn) ∧
    (s.bankPresent = true → s.waiting.length < 4 →
      exec (.localSetpointArrival bytes) s =
        .next (State.updateFaultn { reported with waiting := s.waiting ++ [w] })) ∧
    (s.bankPresent = false → s.waiting.length < 4 →
      ∃ t, exec (.localSetpointArrival bytes) s = .next t ∧
        t = settle s { swapBanks (.controller s.now) reported with waiting := s.waiting ++ [w] } ∧
        t.bankPresent = true ∧ t.active = s.pendingBank ∧ t.verifiedCrc = s.pendingCrc ∧ t.pendingBank = s.active ∧
        t.pendingState = .editing ∧ t.olderArrival = none ∧ t.newerArrival = some s.now ∧
        t.config.segment = u8 (framePayload f) 0 ∧
        ∀ p, crcCheckOn t p = s.pendingBank.config.options.getLsbD (if p = .upstream then 0 else 1))

/-- Which good frames the blocks take in: with a bank active, fitting SETPOINT and PARAM-REQ frames for S, MGMT-REQ
frames for the management address, and fitting downstream frames of S of the four kinds read; with none, MGMT-REQ frames
for node 126 and fitting SETPOINT frames for the S of a bank that waits for the swap (R125, R160, R161, R165, R168,
R169; log entry 16). The kind byte names the nine kinds of section 10.1 and no other, and the axis row of a node is the
valid row with that node, of which a verified bank has one at most (R153, R55; the lowest of several that an upset has
given one node by log entry 9, DESIGN CHOICE). -/
def Obligations.FrameClassesAreThoseOfTheRoute : Prop :=
  (∀ (s : State) (f : Frame),
    let p := framePayload f
    (s.bankPresent = true →
      (classify s .upstream f = .localSetpoint ↔
        GoodFrame s .upstream f .setpoint ∧ u8 p 0 = s.config.segment ∧ ¬Misfit .setpoint p) ∧
      (classify s .upstream f = .paramReq ↔
        GoodFrame s .upstream f .paramReq ∧ u8 p 0 = s.config.segment ∧ ¬Misfit .paramReq p) ∧
      (classify s .upstream f = .management ↔
        GoodFrame s .upstream f .mgmtReq ∧ ForManagement s .mgmtReq p ∧ ¬Misfit .mgmtReq p) ∧
      (∀ k c, (k, c) ∈ [(Kind.feedback, FrameClass.feedback), (.weather, .weather), (.event, .event),
          (.paramRsp, .paramRsp)] →
        (classify s .downstream f = c ↔
          GoodFrame s .downstream f k ∧ u8 p 0 = s.config.segment ∧ ¬Misfit k p))) ∧
    (s.bankPresent = false →
      (classify s .upstream f = .localSetpoint ↔
        GoodFrame s .upstream f .setpoint ∧ s.pendingState = .readyToSwap ∧
          u8 p 0 = s.pendingBank.config.segment ∧ ¬Misfit .setpoint p) ∧
      (classify s .upstream f = .management ↔
        GoodFrame s .upstream f .mgmtReq ∧ u8 p 1 = 126 ∧ ¬Misfit .mgmtReq p) ∧
      (∀ k, GoodFrame s .downstream f k → classify s .downstream f = .upstreamBound))) ∧
  ((∀ b k, (b, k) ∈ [(0x11#8, Kind.setpoint), (0x21, .feedback), (0x22, .event), (0x31, .paramReq), (0x32, .paramRsp),
        (0x41, .mgmtReq), (0x42, .mgmtRsp), (0x43, .status), (0x51, .weather)] → kindOf b = some k) ∧
    ∀ b, b ∉ [0x11#8, 0x21, 0x22, 0x31, 0x32, 0x41, 0x42, 0x43, 0x51] → kindOf b = none) ∧
  (∀ (b : Bank) (node : Byte),
    let names := fun i => i < 64 ∧ (b.axisRow i).valid = true ∧ (b.axisRow i).node = node
    (∀ i, b.axisOfNode node = some i ↔ names i ∧ ∀ j, j < i → ¬names j) ∧
    (b.axisOfNode node = none ↔ ∀ i, ¬names i))

/-- The expiry of the watchdog timer in RUNNING sets the flag, holds every gang and begins substitute cycles with a
first substitute frame; each expiry of the substitute timer originates another (R173, R174). The frame carries the next
cycle number, no grant, and one slot for each valid axis row in index order, with demand 0, QUICKSTOP clear and the
ENABLE of the row's forwarding record (R50, R174; a free value where an upset has left a row without one, log entry 9).
A timer that has not run out, having been kicked say, does not expire, nor does one in another state (R172, log entry
3). -/
def Obligations.WatchdogExpiryHoldsGangsAndSubstitutes : Prop :=
  ∀ s : State,
    let period := match s.olderArrival, s.newerArrival with
      | some a, some b => min 100 (max 1 (b - a))
      | _, _ => 10
    let slots := (List.range 64).filterMap fun i =>
      if (s.active.axisRow i).valid then
        some ({ node := (s.active.axisRow i).node
                enable := match s.forward i with
                  | some w => w.enable
                  | none => Config.orphanEnable s.draws i
                quickstop := false
                raw := 0 } : Slot)
      else none
    let frames :=
      if slots = [] ∨ 4 ≤ s.waiting.length then s.waiting
      else s.waiting ++
        [{ origin := .substitute,
           bytes := buildFrame .setpoint (setpointPayload s.config.segment (s.lastCycle + 1) slots) }]
    (let p := setpointPayload s.config.segment (s.lastCycle + 1) slots
     u8 p 0 = s.config.segment ∧ u8 p 1 = s.lastCycle + 1 ∧ u8 p 2 = 127 ∧ u8 p 3 = byteOf slots.length ∧
       p.length = 20 + 3 * slots.length ∧
       ∀ k sl, slots[k]? = some sl →
         u8 p (20 + 3 * k) = sl.node ∧ u16 p (21 + 3 * k) = 0 ∧
         (u8 p (4 + k / 4)).getLsbD (2 * (k % 4)) = sl.enable ∧
         (u8 p (4 + k / 4)).getLsbD (2 * (k % 4) + 1) = false) ∧
    (s.watchdog = .running → s.watchdogTimer = some 0 →
      exec .watchdogExpiry s =
        .next (settle s
          { (s.setFlag .watchdog).addHoldAll .watchdog with
            watchdog := .substituting, watchdogTimer := none, substituteTimer := some period, waiting := frames })) ∧
    (s.watchdog ≠ .running ∨ s.watchdogTimer ≠ some 0 → exec .watchdogExpiry s = .next s.updateFaultn) ∧
    (s.watchdog = .substituting → s.substituteTimer = some 0 →
      exec .substituteTimerExpiry s =
        .next (State.updateFaultn { s with substituteTimer := some period, waiting := frames })) ∧
    (s.watchdog ≠ .substituting ∨ s.substituteTimer ≠ some 0 →
      exec .substituteTimerExpiry s = .next s.updateFaultn)

/-- Watchdog state, WATCHDOG flag and the two timers agree after every step, and while the flag is set every gang
carries WATCHDOG (R8, R171). -/
def Obligations.EveryStepKeepsWatchdogSound : Prop :=
  ∀ s t : State, s.Shaped → s.WatchdogSound → s.WatchdogHolds → step s = .next t →
    t.WatchdogSound ∧ t.WatchdogHolds

/-- CLEAR FLAGS clears the flags its mask names, but for WATCHDOG while SUBSTITUTING, STALE while an axis is stale and
WEATHER_STALE while the weather is; clearing WATCHDOG releases the gangs and sets the watchdog going or still, clearing
UNKNOWN_AXIS empties the reported-node set; the answer returns the flags (R178, R175, R33). -/
def Obligations.ClearFlagsClearsWhatMayBeCleared : Prop :=
  ∀ (s : State) (bytes f : Frame) (b0 b1 b2 b3 : Byte),
    ManagementArrives s bytes f 0x09 [b0, b1, b2, b3] →
    ∃ (t cleared : State), exec (.clearFlags bytes) s = .next t ∧
      t = settle s (cleared.answered f 0x00 (bytes32 (cleared.flags.setWidth 32))) ∧
      (∀ fl : Flag, cleared.flag fl =
        (s.flag fl &&
          !((b1 ++ b2 ++ b3).getLsbD fl.bit &&
            !(fl == .watchdog && s.watchdog == .substituting) &&
            !(fl == .stale && s.axes.any fun o => o.any fun r => r.stale) &&
            !(fl == .weatherStale && s.weatherStale)))) ∧
      (let gone := s.flag .watchdog && !cleared.flag .watchdog
       let runs := s.bankPresent && s.config.watchdogEnabled
       cleared =
        { (if gone then (s.managed).removeHoldAll .watchdog else s.managed) with
          flags := cleared.flags
          watchdog := if gone then (if runs then .running else .stopped) else s.watchdog
          watchdogTimer :=
            if gone then (if runs then some s.config.watchdogTimeout else none) else s.kickedTimer
          reportedNodes := if s.flag .unknownAxis && !cleared.flag .unknownAxis then [] else s.reportedNodes })

/-- The payload of a STATUS frame has 12 + 10n + 10m bytes for n gang entries and m drained records, at most 112, and
every field stands at its place: the fixed fields with the pending bank state and the watchdog state in their bits,
the gang entries by rising index, one for each gang that has a record, and the records in their order (section 10.4,
R182). -/
def Obligations.StatusPayloadHasItsLayout : Prop :=
  ∀ (s : State) (cycle : Byte) (drained : List EventRecord), drained.length ≤ 2 →
    let p := statusPayload s cycle drained
    let n := s.gangList.length
    (p.length = 12 + 10 * n + 10 * drained.length ∧ p.length ≤ 112 ∧
      u8 p 0 = s.config.segment ∧ u8 p 1 = cycle ∧ u8 p 3 = byteOf s.windClass ∧
      u32 p 5 = s.flags.setWidth 32 ∧ u8 p 9 = byteOf n ∧ u8 p (10 + 10 * n) = byteOf s.events.length ∧
      u8 p (11 + 10 * n) = byteOf drained.length) ∧
    (s.gangList.map (·.1) = (List.range 8).filter (fun g => (s.gang g).isSome) ∧
      ∀ g r, (g, r) ∈ s.gangList ↔ g < 8 ∧ s.gang g = some r) ∧
    ((u8 p 2).getLsbD 0 = s.bankPresent ∧
      (u8 p 2).extractLsb' 1 2 = (match s.pendingState with
        | .editing => 0#2
        | .verifying => 1#2
        | .readyToSwap => 2#2) ∧
      (u8 p 2).getLsbD 3 = s.refresh.isSome ∧ (u8 p 2).extractLsb' 4 4 = 0#4) ∧
    ((u8 p 4).extractLsb' 0 2 = (match s.watchdog with
        | .stopped => 0#2
        | .running => 1#2
        | .substituting => 2#2
        | .latched => 3#2) ∧
      (u8 p 4).getLsbD 2 = s.operatorHold ∧ (u8 p 4).getLsbD 3 = s.summary ∧ (u8 p 4).extractLsb' 4 4 = 0#4) ∧
    (∀ k g r, s.gangList[k]? = some (g, r) →
      let o := 10 + 10 * k
      u8 p o = byteOf g ∧
      (r.state, u8 p (o + 1)) ∈ [(GangState.idle, 0#8), (.prewarn, 1), (.breakaway, 2), (.cruise, 3), (.approach, 4),
        (.settle, 5), (.holding, 6), (.held, 7), (.tripped, 8)] ∧
      ((u8 p (o + 2)).getLsbD 0 = r.holds.watchdog ∧ (u8 p (o + 2)).getLsbD 1 = r.holds.operator ∧
        (u8 p (o + 2)).getLsbD 2 = r.holds.wind ∧ (u8 p (o + 2)).getLsbD 3 = r.holds.stale ∧
        (u8 p (o + 2)).getLsbD 4 = r.holds.notReady ∧ (u8 p (o + 2)).getLsbD 5 = r.holds.command ∧
        (u8 p (o + 2)).getLsbD 6 = r.holds.interlock ∧ (u8 p (o + 2)).getLsbD 7 = r.holds.restart) ∧
      (r.firstTrip, u8 p (o + 3)) ∈ [(none, 0#8), (some TripCause.skew, 1), (some .echo, 2), (some .driveFault, 3),
        (some .overtravel, 4)] ∧
      u32 p (o + 4) = BitVec.ofNat 32 r.skew ∧ u16 p (o + 8) = BitVec.ofInt 16 r.currentCeiling) ∧
    (∀ k e, drained[k]? = some e →
      let o := 12 + 10 * n + 10 * k
      (e.source = .bridge → u8 p o = 0) ∧ (∀ a, e.source = .node a → u8 p o = a) ∧ u16 p (o + 1) = e.code ∧
      (e.gang = none → u8 p (o + 3) = 0xFF) ∧ (∀ g, e.gang = some g → u8 p (o + 3) = byteOf g) ∧
      u8 p (o + 4) = (if e.data = none then 0 else 1) ∧ u32 p (o + 5) = e.data.getD 0 ∧ u8 p (o + 9) = e.cycle)

/-! ### Gangs -/

/-- A hold cause acts at its event: travel states go to HOLDING, IDLE and PREWARN to HELD with the prewarn timer
stopped, the others record it; a cause already present changes nothing (R5, R6). A trip cause takes a gang into TRIPPED
from any state with its flag and one GANG_TRIPPED record, and is only recorded in TRIPPED (R13). A hold cause removed
leaves the gang's set and nothing else of its record, its state included (R7). Other gangs are left alone; a gang without
a record has nothing to add to or remove from; and what adds or removes a hold cause for every gang does so for each as
for one. That the settle count stays where SETTLE goes to HOLDING is log entry 32 (DEDUCED). -/
def Obligations.HoldAndTripCausesActAtTheirEvent : Prop :=
  (∀ (s : State) (g : Nat) (r : GangRec), s.gang g = some r →
    (∀ c : HoldCause,
      (r.holds.has c = true → s.addHold c g = s) ∧
      (r.holds.has c = false →
        ∃ r', s.addHold c g = { s with gangs := s.gangs.set g (some r') } ∧
          r' = { r with
            holds := r'.holds, state := r'.state, prewarnLeft := r'.prewarnLeft, prewarnDone := r'.prewarnDone } ∧
          (∀ c', r'.holds.has c' = (c' == c || r.holds.has c')) ∧
          (r.state ∈ [GangState.breakaway, .cruise, .approach, .settle] → r'.state = .holding) ∧
          (r.state ∈ [GangState.idle, .prewarn] → r'.state = .held) ∧
          (r.state ∈ [GangState.holding, .held, .tripped] → r'.state = r.state) ∧
          (r.state = .prewarn → r'.prewarnLeft = none ∧ r'.prewarnDone = false) ∧
          (r.state ≠ .prewarn → r'.prewarnLeft = r.prewarnLeft ∧ r'.prewarnDone = r.prewarnDone))) ∧
    (∀ c : HoldCause, ∃ r', s.removeHold c g = { s with gangs := s.gangs.set g (some r') } ∧
      r' = { r with holds := r'.holds } ∧ ∀ c', r'.holds.has c' = (c' != c && r.holds.has c')) ∧
    (∀ c : TripCause,
      (r.state = .tripped →
        s.addTrip c g = State.setFlag { s with gangs := s.gangs.set g (some { r with trips := r.trips.put c }) } c.flag) ∧
      (r.state ≠ .tripped →
        s.addTrip c g =
          ((State.setFlag
            { s with
              gangs := s.gangs.set g (some { r with
                state := .tripped, trips := r.trips.put c, firstTrip := some c, prewarnLeft := none,
                prewarnDone := false, settleCount := 0, recovery := none }) } c.flag).offer
            .bridge 0xF001 (some g) (some (c.value ++ 0#24)))))) ∧
  (∀ (s : State) (c : HoldCause) (g : Nat), s.gang g = none → s.addHold c g = s ∧ s.removeHold c g = s) ∧
  (∀ (s : State) (c : HoldCause),
    s.addHoldAll c = { s with gangs := (s.addHoldAll c).gangs } ∧
    s.removeHoldAll c = { s with gangs := (s.removeHoldAll c).gangs } ∧
    (∀ g, g < 8 → (s.addHoldAll c).gang g = (s.addHold c g).gang g ∧
      (s.removeHoldAll c).gang g = (s.removeHold c g).gang g) ∧
    (∀ g, 8 ≤ g → (s.addHoldAll c).gang g = s.gang g ∧ (s.removeHoldAll c).gang g = s.gang g))

/-- GANG HOLD adds COMMAND and GANG RELEASE removes it, answered DONE in every state of the gang and of the bridge; a
gang without a record is answered BAD_INDEX and nothing changes (R11). -/
def Obligations.GangHoldAndReleaseActOnTheNamedGang : Prop :=
  ∀ (s : State) (bytes f : Frame) (g : Byte),
    (ManagementArrives s bytes f 0x06 [g] →
      exec (.gangHold bytes) s =
        .next (settle s
          (if (s.gang g.toNat).isSome then (s.managed.addHold .command g.toNat).answered f 0x00 []
           else s.managed.answered f 0x03 []))) ∧
    (ManagementArrives s bytes f 0x07 [g] →
      exec (.gangRelease bytes) s =
        .next (settle s
          (if (s.gang g.toNat).isSome then (s.managed.removeHold .command g.toNat).answered f 0x00 []
           else s.managed.answered f 0x03 [])))

/-- CLEAR TRIP: BAD_INDEX without a record; for a gang not TRIPPED the members' echo marks and counts are cleared; for a
TRIPPED one NOT_ALLOWED while a member reports FAULT or lies beyond the envelope by more than K, else HELD with the
skew measured afresh and RECOVERY set when it exceeds K (R26, R67, R85). -/
def Obligations.ClearTripReleasesOrRefuses : Prop :=
  ∀ (s : State) (bytes f : Frame) (g : Byte), ManagementArrives s bytes f 0x08 [g] →
    (s.gang g.toNat = none → exec (.clearTrip bytes) s = .next (settle s (s.managed.answered f 0x03 []))) ∧
    (∀ r, s.gang g.toNat = some r →
      let blocked :=
        (∃ i a, i ∈ s.members g.toNat ∧ s.axis i = some a ∧ a.fault = true) ∨
        (∃ i a, i ∈ s.members g.toNat ∧ s.axis i = some a ∧ a.reported = true ∧ a.stale = false ∧
          (a.position < (s.gangRow g.toNat).low - (s.gangRow g.toNat).skewLimit ∨
           (s.gangRow g.toNat).high + (s.gangRow g.toNat).skewLimit < a.position))
      (r.state = .tripped → blocked →
        exec (.clearTrip bytes) s = .next (settle s (s.managed.answered f 0x05 []))) ∧
      (r.state ≠ .tripped ∨ ¬blocked →
        ∃ effect : State, exec (.clearTrip bytes) s = .next (settle s (effect.answered f 0x00 [])) ∧
          effect = { s.managed with axes := effect.axes, gangs := effect.gangs } ∧
          (∀ i, effect.axis i =
            if i ∈ s.members g.toNat then
              (s.axis i).map fun a => { a with echoCount := 0, echoFault := false }
            else s.axis i) ∧
          (∀ h, h ≠ g.toNat → effect.gang h = s.gang h) ∧
          (r.state ≠ .tripped → effect.gang g.toNat = some r) ∧
          (r.state = .tripped →
            effect.gang g.toNat =
              some { r with
                state := .held, trips := TripSet.empty, firstTrip := none, skew := s.measuredSkew g.toNat,
                recovery :=
                  if s.measuredSkew g.toNat > (s.gangRow g.toNat).skewLimit then some (s.measuredSkew g.toNat)
                  else none })))

/-- Every gang record stays sound: hold causes only in HOLDING, HELD or TRIPPED, a first trip cause exactly in TRIPPED,
the prewarn timer and PREWARN_DONE only in PREWARN, no RECOVERY in TRIPPED (R3, R6, R13, R20, R26). -/
def Obligations.EveryStepKeepsGangRecordsSound : Prop :=
  ∀ s t : State, s.GangsSound → step s = .next t → t.GangsSound

/-- Apart from a trip, a gang leaves HELD only to IDLE, only in the processing of a local setpoint frame that leaves it
no hold cause and whose demands for it are all zero; it leaves TRIPPED only to HELD, by CLEAR TRIP or a warm restart
(R25, R28; when a restart is made by log entry 23, DEDUCED). -/
def Obligations.HeldAndTrippedAreLeftOnlyAsStated : Prop :=
  ∀ (c : Instr) (s t : State) (g : Nat) (r r' : GangRec), exec c s = .next t → s.gang g = some r → t.gang g = some r' →
    (r.state = .held →
      r'.state = .held ∨ r'.state = .tripped ∨
        (r'.state = .idle ∧ c = .localSetpointProcessing ∧ r'.holds.isEmpty = true ∧
          ∃ w rest, s.waiting = w :: rest ∧
            ∀ i ∈ t.members g, t.axisDemand (slotsOf (framePayload w.bytes)) i = 0)) ∧
    (r.state = .tripped →
      r'.state = .tripped ∨
        (r'.state = .held ∧
          (c = .warmRestart ∨ CarriesCommand s c 0x08 ∨ CarriesCommand s c 0x0E ∨
            (c = .localSetpointProcessing ∧ ∃ owed, Due.restart owed ∈ s.due))))

/-- After each local setpoint processing outside the refresh, the swap frame's among them, the skew of a gang record is
the one measured from the records: the largest saturated common position of the fresh members less the smallest, 0 with
fewer than two; and a gang neither TRIPPED nor in RECOVERY has one no greater than its trip limit K (R2, R16, R17). The
skew pass measures it and tests it: with RECOVERY clear a skew above K trips the gang; with RECOVERY set one of K or
less ends RECOVERY, and another trips only above the recovery skew plus a quarter of B (R17, R27). Then a fresh member
beyond the envelope by more than K trips it by OVERTRAVEL (R84), SKEW being the first cause where both are found; a gang
that passes both tests is left as it was, and one already TRIPPED only records the causes. Each gang newly TRIPPED
queues one record, the gangs in rising order (log entry 11, DESIGN CHOICE). -/
def Obligations.ProcessingLeavesSkewWithinTripLimit : Prop :=
  let skewTrips := fun (s : State) (g : Nat) (r : GangRec) =>
    (s.gangRow g).tripLimit.toNat < s.measuredSkew g ∧
      ∀ limit, r.recovery = some limit → r.state ≠ .tripped →
        limit + (s.gangRow g).band.toNat / 4 < s.measuredSkew g
  let travels := fun (s : State) (g : Nat) =>
    ∃ m ∈ s.freshMembers g,
      m.2.position < (s.gangRow g).low - (s.gangRow g).tripLimit.toNat ∨
        (s.gangRow g).high + (s.gangRow g).tripLimit.toNat < m.2.position
  (∀ (s t : State) (w : WaitingFrame) (rest : List WaitingFrame), Processes s w rest ∨ ProcessesSwapping s w rest →
    s.refresh = none → exec .localSetpointProcessing s = .next t →
    ∀ g r, g < 8 → t.gang g = some r →
      r.skew = t.measuredSkew g ∧
      (r.state ≠ .tripped → r.recovery = none → r.skew ≤ (t.gangRow g).tripLimit.toNat)) ∧
  (∀ (s : State) (g : Nat),
    s.measuredSkew g ≤ 4000000000 ∧
    (∀ m ∈ s.freshMembers g, ∀ n ∈ s.freshMembers g,
      saturate m.2.position - saturate n.2.position ≤ s.measuredSkew g) ∧
    ((s.freshMembers g).length < 2 → s.measuredSkew g = 0) ∧
    (s.freshMembers g ≠ [] →
      ∃ m ∈ s.freshMembers g, ∃ n ∈ s.freshMembers g,
        saturate m.2.position - saturate n.2.position = s.measuredSkew g)) ∧
  (∀ (s : State) (g : Nat) (r : GangRec), s.Shaped → g < 8 → s.gang g = some r →
    ∃ r', (skewPass s).gang g = some r' ∧
      (r.state = .tripped → r' = { r with skew := s.measuredSkew g, trips := r'.trips }) ∧
      (r.state ≠ .tripped → ¬skewTrips s g r → ¬travels s g →
        r' = { r with
          skew := s.measuredSkew g
          recovery := if s.measuredSkew g ≤ (s.gangRow g).tripLimit.toNat then none else r.recovery }) ∧
      (r.state ≠ .tripped → skewTrips s g r ∨ travels s g →
        r' = { r with
          skew := s.measuredSkew g, state := .tripped, trips := r'.trips, firstTrip := r'.firstTrip,
          recovery := none, prewarnLeft := none, prewarnDone := false, settleCount := 0 } ∧
        (skewTrips s g r → r'.firstTrip = some .skew) ∧ (¬skewTrips s g r → r'.firstTrip = some .overtravel)) ∧
      (r'.trips.skew = true ↔ r.trips.skew = true ∨ skewTrips s g r) ∧
      (r'.trips.overtravel = true ↔ r.trips.overtravel = true ∨ travels s g) ∧
      r'.trips.echo = r.trips.echo ∧ r'.trips.driveFault = r.trips.driveFault ∧
      (skewTrips s g r → (skewPass s).flag .skewTrip = true) ∧
      (travels s g → (skewPass s).flag .overtravel = true)) ∧
  (∀ s : State, s.Shaped → s.events.length + 8 ≤ 32 →
    (skewPass s).events = s.events ++ (List.range 8).filterMap fun g =>
      match s.gang g, (skewPass s).gang g with
      | some r, some r' =>
        if r.state ≠ .tripped ∧ r'.state = .tripped then
          some { source := .bridge, code := 0xF001, gang := some g,
                 data := some ((if r'.firstTrip = some .skew then 1#8 else 4#8) ++ 0#24), cycle := s.lastCycle }
        else none
      | _, _ => none)

/-- The expiry of a prewarn timer that has run out stops it and sets PREWARN_DONE, and the gang keeps its state (R20);
one that has not, or is stopped, does not expire (log entry 3). A flashing line whose time has reached its on time is
turned off at the end of the on time, and one whose time has reached the period is turned on again with a new period;
before that neither point has an effect (R104, log entry 3). -/
def Obligations.PrewarnAndFlashPointsActAlone : Prop :=
  ∀ s : State,
    (∀ g r, s.gang g = some r →
      exec (.prewarnExpiry g) s =
        .next (State.updateFaultn
          (if r.prewarnLeft = some 0 then
            { s with gangs := s.gangs.set g (some { r with prewarnLeft := none, prewarnDone := true }) }
           else s))) ∧
    (∀ i l, s.lines[i]? = some l →
      let period := if l.demand = .fast then 250 else (s.config.line i).periodMs
      let on := if l.demand = .fast then 125 else (s.config.line i).periodMs * (s.config.line i).duty.toNat / 8
      (l.demand = .fast ∨ l.demand = .own → on < period → on ≤ l.time →
        exec (.warnOnTimeEnd i) s =
          .next (State.updateFaultn { s with lines := s.lines.set i { l with level := false } })) ∧
      (l.demand = .fast ∨ l.demand = .own → period ≤ on ∨ l.time < on →
        exec (.warnOnTimeEnd i) s = .next s.updateFaultn) ∧
      (l.demand = .fast ∨ l.demand = .own → period ≤ l.time →
        exec (.warnPeriodEnd i) s =
          .next (State.updateFaultn { s with lines := s.lines.set i { l with time := 0, level := true } })) ∧
      (l.demand = .fast ∨ l.demand = .own → l.time < period → exec (.warnPeriodEnd i) s = .next s.updateFaultn) ∧
      (l.demand = .steady ∨ l.demand = .off →
        exec (.warnOnTimeEnd i) s = .next s.updateFaultn ∧ exec (.warnPeriodEnd i) s = .next s.updateFaultn))

/-- The passes of a processing outside the refresh are freshness, skew, demand, fence and state, and the ceilings follow
(R15, R41). A member's demand is the sign of its row times the raw demand of the first slot for its node, -32,768 taken
as -32,767, and 0 without a slot (R18, R32; a row whose node an upset has put outside 1 to 126 by log entry 9, DESIGN
CHOICE). The demand pass gives each gang the sign of its summed demands (R18). The state pass takes RESTART off where
every demand is zero (R12) and takes the one step of the gang's state: from IDLE to PREWARN or BREAKAWAY (R19), from
PREWARN when its time has passed (R20), from BREAKAWAY when every fresh member has moved away from its start position
(R21), between CRUISE and APPROACH by the remaining distance (R22), from SETTLE after its frames at rest (R23), from
HOLDING at rest (R24; where an axis starts from rest by log entry 25, DEDUCED), from HELD without a cause (R25); it
writes start positions at entry to BREAKAWAY and nowhere else. -/
def Obligations.StatePassTakesOneStepPerGang : Prop :=
  (∀ (s t : State) (w : WaitingFrame) (rest : List WaitingFrame), Processes s w rest → s.refresh = none →
    exec .localSetpointProcessing s = .next t →
    let p := framePayload w.bytes
    let measured := skewPass (freshnessStep { s with waiting := rest, lastCycle := u8 p 1, draws := s.draws + 1 })
    let passed := statePass (slotsOf p) (fencePass (demandPass (slotsOf p) measured))
    ∀ g, g < 8 →
      t.fence g = passed.fence g ∧
      t.gang g = (passed.gang g).map fun r =>
        { r with currentCeiling := if r.state ∈ [GangState.breakaway, .cruise, .approach] then passed.ceilingOf g r else 0 }) ∧
  (∀ (s : State) (slots : List Slot) (i : Nat),
    let row := s.active.axisRow i
    (∀ (k : Nat) (sl : Slot), 1 ≤ row.node.toNat → row.node.toNat ≤ 126 → slots[k]? = some sl → sl.node = row.node →
      (∀ (j : Nat) (x : Slot), j < k → slots[j]? = some x → x.node ≠ row.node) →
      s.axisDemand slots i = row.sign * (if sl.raw.toInt = -32768 then -32767 else sl.raw.toInt)) ∧
    ((∀ sl ∈ slots, sl.node ≠ row.node) → s.axisDemand slots i = 0) ∧
    (row.node.toNat < 1 ∨ 126 < row.node.toNat → s.axisDemand slots i = 0)) ∧
  (∀ (s : State) (slots : List Slot) (g : Nat) (r : GangRec), s.Shaped → g < 8 → s.gang g = some r →
    (let total := ((s.members g).map (s.axisDemand slots)).sum
     ∃ d, (demandPass slots s).gang g = some { r with direction := d } ∧
       (0 < total → d = 1) ∧ (total < 0 → d = -1) ∧ (total = 0 → d = 0)) ∧
    (let row := s.gangRow g
     let d := r.direction
     let allZero := ∀ i ∈ s.members g, s.axisDemand slots i = 0
     let place : GangState :=
       if s.remaining g ≤ 0 ∨ s.remaining g < row.approachDistance then .approach else .cruise
     let atRest := (∀ i ∈ s.members g, ∀ w, s.forward i = some w → w.fromRest = true ∨ w.velocity = 0) ∧
       ∀ m ∈ s.freshMembers g, (m.2.velocity.natAbs : Int) ≤ row.settleSpeed
     let away := ∀ m ∈ s.freshMembers g, ∀ start, m.2.start = some start →
       row.breakawayDistance ≤ ((m.2.position - start).natAbs : Int)
     ∃ r', (statePass slots s).gang g = some r' ∧
       r' = { r with
         holds := r'.holds, state := r'.state, prewarnLeft := r'.prewarnLeft, prewarnDone := r'.prewarnDone,
         settleCount := r'.settleCount } ∧
       (allZero → ∀ c, r'.holds.has c = (c != .restart && r.holds.has c)) ∧ (¬allZero → r'.holds = r.holds) ∧
       (r.state = .idle →
         (d = 0 → r'.state = .idle) ∧
         (d ≠ 0 → 0 < row.prewarnMs →
           r'.state = .prewarn ∧ r'.prewarnLeft = some row.prewarnMs ∧ r'.prewarnDone = false) ∧
         (d ≠ 0 → row.prewarnMs = 0 → r'.state = .breakaway)) ∧
       (r.state = .prewarn →
         (allZero → r'.state = .idle ∧ r'.prewarnLeft = none ∧ r'.prewarnDone = false) ∧
         (¬allZero → r.prewarnDone = true → d ≠ 0 → r'.state = .breakaway ∧ r'.prewarnDone = false) ∧
         (¬allZero → r.prewarnDone = false ∨ d = 0 → r' = r)) ∧
       (r.state = .breakaway →
         (allZero → r'.state = .settle ∧ r'.settleCount = 0) ∧
         (¬allZero → d ≠ 0 → away → r'.state = place) ∧ (¬allZero → d = 0 ∨ ¬away → r' = r)) ∧
       (r.state = .cruise ∨ r.state = .approach →
         (allZero → r'.state = .settle ∧ r'.settleCount = 0) ∧
         (¬allZero → d ≠ 0 → r'.state = place) ∧ (¬allZero → d = 0 → r' = r)) ∧
       (r.state = .settle →
         (d ≠ 0 → r'.state = place) ∧
         (d = 0 → atRest → r'.settleCount = r.settleCount + 1 ∧
           r'.state = if row.settleCycles.toNat ≤ r.settleCount + 1 then .idle else .settle) ∧
         (d = 0 → ¬atRest → r'.settleCount = 0 ∧ r'.state = .settle)) ∧
       (r.state = .holding → (atRest → r'.state = .held) ∧ (¬atRest → r'.state = .holding)) ∧
       (r.state = .held →
         (allZero → r'.holds.isEmpty = true → r'.state = .idle) ∧
         (¬allZero ∨ r'.holds.isEmpty = false → r'.state = .held)) ∧
       (r.state = .tripped → r'.state = .tripped) ∧
       ∀ i ∈ s.members g, ∀ a, s.axis i = some a →
         (statePass slots s).axis i = some (if r.state ≠ .breakaway ∧ r'.state = .breakaway then
           { a with start := if a.reported then some a.position else none } else a)))

/-! ### The setpoint pipeline -/

/-- The slots of a rewritten frame. The first slot that names the node of a valid row carries the sign times the common
velocity that its forwarding record then holds, ENABLE as it arrived, and QUICKSTOP as it arrived or set where its gang
is TRIPPED; outside the refresh that velocity is the one decided from the passes' outcome, the last velocity and the
demand. A later slot for the node, and a slot for no valid row, carry velocity 0, ENABLE cleared and QUICKSTOP as it
arrived; the latter sets UNKNOWN_AXIS and enters the reported-node set, with one event for each node not yet in it, in
the order of the slots. Control bits beyond the slots, and the records of axes without a slot, stay (R31 to R36, R47,
R49; a node that an upset has put outside 1 to 126 by log entry 9, DESIGN CHOICE; the last velocity of an axis that
starts from rest by log entry 25, DEDUCED). -/
def Obligations.RewrittenSlotsFollowTheirClass : Prop :=
  (∀ (s : State) (w : WaitingFrame) (rest : List WaitingFrame), Processes s w rest → s.down.queue.length ≤ 14 →
    ¬Misfit .setpoint (framePayload w.bytes) →
    ∃ (t : State) (frame : Frame) (request : List Frame), exec .localSetpointProcessing s = .next t ∧
      t.down.queue = s.down.queue ++ frame :: request ∧
      (let p := framePayload w.bytes
       let q := framePayload frame
       let enable := fun (x : List Byte) (k : Nat) => (u8 x (4 + k / 4)).getLsbD (2 * (k % 4))
       let quickstop := fun (x : List Byte) (k : Nat) => (u8 x (4 + k / 4)).getLsbD (2 * (k % 4) + 1)
       (∀ k, k < (u8 p 3).toNat →
         let node := u8 p (20 + 3 * k)
         let row := if 1 ≤ node.toNat ∧ node.toNat ≤ 126 then s.active.axisOfNode node else none
         let first := ∀ j, j < k → u8 p (20 + 3 * j) ≠ node
         (∀ i, row = some i → first →
           enable q k = enable p k ∧
           (quickstop q k = true ↔ quickstop p k = true ∨
             ∃ r, t.gang (s.active.axisRow i).gang.toNat = some r ∧ r.state = .tripped) ∧
           ∀ v, t.forward i = some v →
             u16 q (21 + 3 * k) = BitVec.ofInt 16 ((s.active.axisRow i).sign * v.velocity) ∧
             v.enable = enable p k) ∧
         (row = none ∨ ¬first →
           u16 q (21 + 3 * k) = 0 ∧ enable q k = false ∧ quickstop q k = quickstop p k) ∧
         (row = none → t.flag .unknownAxis = true ∧ node ∈ t.reportedNodes)) ∧
       (∀ k, (u8 p 3).toNat ≤ k → k < 64 → enable q k = enable p k ∧ quickstop q k = quickstop p k) ∧
       (∀ i, ¬CarriesAxis s.active p i → t.forward i = s.forward i))) ∧
  (∀ (s t : State) (w : WaitingFrame) (rest : List WaitingFrame) (k i : Nat), Processes s w rest →
    exec .localSetpointProcessing s = .next t →
    let p := framePayload w.bytes
    k < (u8 p 3).toNat → within 1 126 (u8 p (20 + 3 * k)).toNat = true →
    s.active.axisOfNode (u8 p (20 + 3 * k)) = some i → (∀ j, j < k → u8 p (20 + 3 * j) ≠ u8 p (20 + 3 * k)) →
    let passed := gangPasses (slotsOf p) (freshnessStep
      { s with waiting := rest, lastCycle := u8 p 1, draws := s.draws + 1 })
    ∀ v, s.forward i = some v → ∃ v', t.forward i = some v' ∧ v'.previousRaw = v.recentRaw ∧
      v'.recentRaw = (s.active.axisRow i).sign * v'.velocity ∧ v'.fromRest = false ∧
      (s.refresh.isSome = true → v'.velocity = 0) ∧
      (s.refresh = none → ∀ r, passed.gang (s.active.axisRow i).gang.toNat = some r →
        v'.velocity = passed.decideVelocity (s.active.axisRow i).gang.toNat i r (if v.fromRest then 0 else v.velocity)
          ((s.active.axisRow i).sign * max (-32767) (u16 p (21 + 3 * k)).toInt))) ∧
  (∀ (s : State) (refreshing : Bool) (slots : List Slot), s.events.length + slots.length ≤ 32 →
    let out := (rewriteSlots refreshing [] slots s).1
    let nodes := (slots.map (·.node)).filter fun n => !within 1 126 n.toNat || (s.active.axisOfNode n).isNone
    out.events = s.events ++ (nodes.eraseDups.filter fun n => !s.reportedNodes.contains n).map (fun n =>
      { source := .bridge, code := 0xF003, gang := none, data := some (n ++ 0#24), cycle := s.lastCycle }) ∧
    (∀ n, n ∈ out.reportedNodes ↔ n ∈ s.reportedNodes ∨ n ∈ nodes) ∧
    out.flags = if nodes = [] then s.flags else s.flags ||| Flag.unknownAxis.mask)

/-- After any local setpoint processing, the swap frame's among them, an axis the frame carries has been forwarded a
common velocity within the cruise ceiling of its gang, zero where its gang is IDLE, PREWARN, HELD or TRIPPED and in
every frame of the refresh, and a raw demand of its sign times that velocity (R36, R46, R47, R49). -/
def Obligations.ProcessingForwardsWithinCruiseCeiling : Prop :=
  ∀ (s t : State) (w : WaitingFrame) (rest : List WaitingFrame) (i : Nat) (v : ForwardRec) (r : GangRec),
    Processes s w rest ∨ ProcessesSwapping s w rest → exec .localSetpointProcessing s = .next t →
    CarriesAxis t.active (framePayload w.bytes) i →
    t.forward i = some v → t.gang (t.active.axisRow i).gang.toNat = some r →
      v.recentRaw = (t.active.axisRow i).sign * v.velocity ∧
      (v.velocity.natAbs : Int) ≤ (t.gangRow (t.active.axisRow i).gang.toNat).cruise ∧
      (r.state ∈ [GangState.idle, .prewarn, .held, .tripped] → v.velocity = 0) ∧
      (s.refresh.isSome = true → v.velocity = 0)

/-- The steps of the pipeline. In a travel state a demand against the direction becomes 0 (R39), the governor's G
lowered by the wind percent bounds it (R40, R41), the trim multiplies it by its factor and keeps its sign (R42, R43),
the slew limit holds it within Sg of the last velocity but for the fence exception, and the cruise bound closes (R44,
R46); SETTLE slews to zero (R38), HOLDING ramps by the hold step (R37), and the other states forward zero (R36). Under
one bank the velocity decided differs from the last one by no more than the larger of slew and hold step, unless it is
zero (R45). -/
def Obligations.DecidedVelocityFollowsItsSteps : Prop :=
  ((∀ d v : Int, (d = 0 ∨ d * v < 0 → conform d v = 0) ∧ (d ≠ 0 → 0 ≤ d * v → conform d v = v)) ∧
  (∀ (row : GangRow) (st : GangState) (d r : Int),
    (d = 0 → governor row st d r = if st = .breakaway then max 1 (row.cruise.tdiv 10) else row.cruise) ∧
    (d ≠ 0 → r ≤ 0 → governor row st d r = 0) ∧
    (d ≠ 0 → 0 < r → st = .breakaway → governor row st d r = max 1 (row.cruise.tdiv 10)) ∧
    (d ≠ 0 → 0 < r → st ≠ .breakaway → r < row.approachDistance →
      governor row st d r = max (max 1 (row.cruise.tdiv 10)) ((row.cruise * r).tdiv row.approachDistance)) ∧
    (d ≠ 0 → 0 < r → st ≠ .breakaway → row.approachDistance ≤ r → governor row st d r = row.cruise) ∧
    (1 ≤ row.cruise → 0 ≤ governor row st d r ∧ governor row st d r ≤ row.cruise)) ∧
  (∀ (s : State) (g i : Nat) (r : GangRec) (v : Int),
    (0 ≤ v → 0 ≤ s.trim g i r v ∧ s.trim g i r v ≤ v) ∧ (v ≤ 0 → v ≤ s.trim g i r v ∧ s.trim g i r v ≤ 0) ∧
    (r.direction = 0 → s.trim g i r v = v) ∧ (s.isFresh i = false → s.trim g i r v = v) ∧
    (r.direction ≠ 0 → (s.gangRow g).band ≠ 0 → i ∈ s.members g → ∀ a, s.axis i = some a → s.isFresh i = true →
      ∃ laggard, (∃ m ∈ s.freshMembers g, laggard = r.direction * saturate m.2.position) ∧
        (∀ m ∈ s.freshMembers g, laggard ≤ r.direction * saturate m.2.position) ∧
        s.trim g i r v =
          (v * min 1000 (max (if r.recovery.isSome then 0 else 10 * ((s.gangRow g).floor.toNat : Int))
            (1000 - (1000 * (r.direction * saturate a.position - laggard)).tdiv
              ((s.gangRow g).band.toNat : Int)))).tdiv 1000))) ∧
  (∀ (s : State) (g i : Nat) (r : GangRec) (p v : Int),
    let row := s.gangRow g
    let v' := s.decideVelocity g i r p v
    let bound := fun x : Int => max (-row.cruise) (min row.cruise x)
    let slew := fun x : Int => if x - p > row.slew then p + row.slew else if p - x > row.slew then p - row.slew else x
    (r.state ∈ [GangState.breakaway, .cruise, .approach] →
      let began := s.frameClass.getD s.windClass
      let percent := if began = 0 then row.wind0 else if began = 1 then row.wind1
        else if began = 2 then row.wind2 else row.wind3
      let e := (governor row r.state r.direction (s.remaining g) * (percent.toNat : Int)).tdiv 100
      v' = bound (if s.remaining g ≤ 0 ∧ ((0 < p ∧ r.direction = 1) ∨ (p < 0 ∧ r.direction = -1)) then 0
        else slew (s.trim g i r (max (-e) (min e (conform r.direction v)))))) ∧
    (r.state = .settle → v' = bound (slew 0)) ∧
    (r.state = .holding →
      v' = bound (if p > row.hold then p - row.hold else if p < -row.hold then p + row.hold else 0)) ∧
    (r.state ∈ [GangState.idle, .prewarn, .held, .tripped] → v' = 0) ∧
    (-row.cruise ≤ p → p ≤ row.cruise →
      v' = 0 ∨ (v' - p ≤ max row.slew row.hold ∧ p - v' ≤ max row.slew row.hold)))

/-- Processing takes the oldest waiting frame and completes: its cycle number becomes the last one, the rewritten frame
joins the downstream queue with segment, cycle number, slot count and every slot's node as they arrived and the granted
node or 127 in its grant field, alone or with the bridge's PARAM-REQ after it, a STATUS of the state it leaves joins the
upstream queue with the two oldest event records, or the fewer there are, which leave the event queue in their order,
and banks, weather, press, watchdog and the other waiting frames are as they were; the next frame begins under the wind
class then in force (R31, R41, R146, R147, R157, R162, R182). -/
def Obligations.ProcessingHandsFrameThenStatus : Prop :=
  ∀ (s : State) (w : WaitingFrame) (rest : List WaitingFrame), Processes s w rest →
    s.down.queue.length ≤ 14 → s.up.queue.length ≤ 15 → ¬Misfit .setpoint (framePayload w.bytes) →
    ∃ (t : State) (frame status : Frame) (request : List Frame) (drained : List EventRecord),
      exec .localSetpointProcessing s = .next t ∧ t.waiting = rest ∧ t.lastCycle = u8 (framePayload w.bytes) 1 ∧
      t.frameClass = none ∧
      t.down = { s.down with queue := s.down.queue ++ frame :: request } ∧ request.length ≤ 1 ∧
      t.up = { s.up with queue := s.up.queue ++ [status] } ∧ frameKind status = 0x43 ∧ frameKind frame = 0x11 ∧
      status = buildFrame .status (statusPayload t (u8 (framePayload w.bytes) 1) drained) ∧ drained.length ≤ 2 ∧
      (t.events ≠ [] → drained.length = 2) ∧ s.events <+: drained ++ t.events ∧
      (framePayload frame).length = (framePayload w.bytes).length ∧
      (∀ k, k = 0 ∨ k = 1 ∨ k = 3 → u8 (framePayload frame) k = u8 (framePayload w.bytes) k) ∧
      (∀ k, k < (u8 (framePayload w.bytes) 3).toNat →
        u8 (framePayload frame) (20 + 3 * k) = u8 (framePayload w.bytes) (20 + 3 * k)) ∧
      (t.openGrant = none → u8 (framePayload frame) 2 = 127) ∧
      (∀ o, t.openGrant = some o → u8 (framePayload frame) 2 = o.node ∧ request = []) ∧
      { t with
        waiting := s.waiting, lastCycle := s.lastCycle, down := s.down, up := s.up, draws := s.draws, axes := s.axes,
        forwards := s.forwards, reportedNodes := s.reportedNodes, gangs := s.gangs, fences := s.fences,
        lines := s.lines, deferred := s.deferred, backoff := s.backoff, highPtr := s.highPtr, lowPtr := s.lowPtr,
        openGrant := s.openGrant, grantRecs := s.grantRecs, flags := s.flags, events := s.events,
        frameClass := s.frameClass, faultnLow := s.faultnLow } = s

/-- A frame at which a bank waits makes the swap, a controller frame for S or a substitute one: the banks change places
with the verified CRC of the new one, the pending bank is in EDITING, and the weather is stale with class 3 and its flag
set (R124, R95). The controller frame is then classified again under the new route and processed, forwarded or dropped;
the substitute frame is processed where S stays and discarded where it changes (R125). That the swap of a configured
bridge comes with the frame's processing and not with its arrival is log entry 37 (DEDUCED); that a frame which finds no
bank active at its processing makes a swap too if it is a controller frame, and is discarded if it is a substitute one,
is log entry 17 (DEDUCED); that the cycle number becomes the last one after the swap, and stays where the frame is not
processed, log entry 13 (DEDUCED); and that the swap frame is governed with class 3, no earlier class being kept for it,
log entry 30 (DEDUCED). -/
def Obligations.SwapExchangesBanksAndMakesWeatherStale : Prop :=
  (∀ (s : State) (w : WaitingFrame) (rest : List WaitingFrame),
    s.waiting = w :: rest → s.pendingState = .readyToSwap → s.due = [] →
    (w.origin = .substitute ∧ s.bankPresent = true ∨
      w.origin ≠ .substitute ∧ u8 (framePayload w.bytes) 0 =
        (if s.bankPresent then s.active.config.segment else s.pendingBank.config.segment)) →
    ∃ t, exec .localSetpointProcessing s = .next t ∧ t.waiting = rest ∧
      t.bankPresent = true ∧ t.active = s.pendingBank ∧ t.verifiedCrc = s.pendingCrc ∧ t.pendingBank = s.active ∧
      t.pendingState = .editing ∧ t.expectedCrc = none ∧ t.pendingCrc = none ∧
      t.weatherStale = true ∧ t.windClass = 3 ∧ t.frameClass = none ∧ t.weatherTimer = none ∧ t.flag .weatherStale = true ∧
      t.olderArrival = none ∧ (∀ arrival, w.origin = .controller arrival → t.newerArrival = some arrival) ∧
      (w.origin = .substitute → t.newerArrival = none) ∧
      (∀ i, i < 64 → s.Shaped →
        ((t.axis i).isSome = (t.active.axisRow i).valid ∧ (t.forward i).isSome = (t.active.axisRow i).valid)) ∧
      (∀ g, g < 8 → s.Shaped →
        ((t.gang g).isSome = (t.active.gangRow g).valid ∧ (t.fence g).isSome = (t.active.gangRow g).valid)) ∧
      t.press = s.press ∧ t.pressTime = s.pressTime ∧ t.longTime = s.longTime ∧ t.operatorHold = s.operatorHold) ∧
  (∀ (s : State) (w : WaitingFrame) (rest : List WaitingFrame),
    s.waiting = w :: rest → s.pendingState = .readyToSwap → s.due = [] →
    let swapped := swapBanks w.origin { s with waiting := rest }
    let segment := u8 (framePayload w.bytes) 0
    let new := s.pendingBank.config
    (w.origin ≠ .substitute →
      segment = (if s.bankPresent then s.active.config.segment else s.pendingBank.config.segment) →
      ¬Misfit .setpoint (framePayload w.bytes) →
      (segment = new.segment →
        exec .localSetpointProcessing s = .next (settle s (processLocal w.bytes swapped))) ∧
      (new.segment.toNat < segment.toNat → segment.toNat ≤ new.subordinate.toNat →
        exec .localSetpointProcessing s = .next (settle s (swapped.hand .downstream w.bytes))) ∧
      (segment.toNat < new.segment.toNat ∨ (segment ≠ new.segment ∧ new.subordinate.toNat < segment.toNat) →
        exec .localSetpointProcessing s = .next (settle s swapped))) ∧
    (w.origin = .substitute → s.bankPresent = true →
      (s.active.config.segment = new.segment →
        exec .localSetpointProcessing s = .next (settle s (processLocal w.bytes swapped))) ∧
      (s.active.config.segment ≠ new.segment → exec .localSetpointProcessing s = .next (settle s swapped))) ∧
    (w.origin = .substitute → s.bankPresent = false →
      exec .localSetpointProcessing s = .next (settle s { s with waiting := rest, frameClass := none })))

/-- What the swap does before its frame is processed. A gang valid in both banks keeps its record with STALE, NOT_READY
and WIND determined again, one newly valid is created HELD with RESTART and the causes that stand, one no longer valid
goes with its fence result (R1, R29; a gang with a record counts as valid in the old bank, log entry 9, DESIGN CHOICE).
An axis row valid in both banks with the same node keeps its record, its common figures formed again, and its forwarding
record unchanged, while its last velocity starts at 0 in a gang newly valid; any other valid row starts afresh (R29,
R30, R70; that R29 sets no value of the record by log entry 25, DEDUCED). The swap frame is governed with class 3, an
earlier class kept for it dropped (log entry 30, DEDUCED). The deferred table is emptied where S changes (R142), the
open grant dropped and the counts of altered rows cleared (R144), the watchdog set from the new row (R176), and each
line shows its demand, started afresh where its record or its demand differs (R105; time 0 of a steady line by log entry
29, DESIGN CHOICE). A class other than 3 changes to 3 with one WIND_CLASS record of reason SWAP (R94, R95). -/
def Obligations.SwapBringsRecordsIntoLine : Prop :=
  ∀ (s : State) (o : Origin), s.Shaped →
    let t := swapBanks o s
    let new := s.pendingBank
    let anyStale := fun g => ∃ i ∈ new.members g, ∃ a, t.axis i = some a ∧ a.stale = true
    let allReady := fun g => ∀ i ∈ new.members g, ∃ a, t.axis i = some a ∧ a.ready = true
    (∀ g, g < 8 →
      ((new.gangRow g).valid = false → t.gang g = none ∧ t.fence g = none) ∧
      ((new.gangRow g).valid = true → t.fence g = some ((s.fence g).getD FenceResult.cleared)) ∧
      ((new.gangRow g).valid = true → s.gang g = none →
        ∃ h, t.gang g = some { GangRec.created with holds := h } ∧ h.restart = true ∧
          (h.watchdog = true ↔ s.flag .watchdog = true) ∧ (h.operator = true ↔ s.operatorHold = true) ∧
          (h.wind = true ↔ (new.gangRow g).permission.toNat < 3) ∧ (h.stale = true ↔ anyStale g) ∧
          h.notReady = false ∧ h.command = false ∧ h.interlock = false) ∧
      (∀ r, (new.gangRow g).valid = true → s.gang g = some r →
        ∃ r', t.gang g = some r' ∧
          r' = { r with
            holds := r'.holds, state := r'.state, prewarnLeft := r'.prewarnLeft, prewarnDone := r'.prewarnDone } ∧
          (∀ c, c ∉ [HoldCause.stale, .notReady, .wind] → r'.holds.has c = r.holds.has c) ∧
          (r'.holds.stale = true ↔ anyStale g) ∧ (r'.holds.wind = true ↔ (new.gangRow g).permission.toNat < 3) ∧
          (r'.holds.notReady = true ↔ r.holds.notReady = true ∧ ¬allReady g) ∧
          (let enters := (r.holds.stale = false ∧ r'.holds.stale = true) ∨ (r.holds.wind = false ∧ r'.holds.wind = true)
           (¬enters → r'.state = r.state ∧ r'.prewarnLeft = r.prewarnLeft ∧ r'.prewarnDone = r.prewarnDone) ∧
           (enters →
             (r.state ∈ [GangState.breakaway, .cruise, .approach, .settle] → r'.state = .holding) ∧
             (r.state ∈ [GangState.idle, .prewarn] → r'.state = .held) ∧
             (r.state ∈ [GangState.holding, .held, .tripped] → r'.state = r.state) ∧
             (r.state = .prewarn → r'.prewarnLeft = none ∧ r'.prewarnDone = false))))) ∧
    (∀ i, i < 64 →
      let before := s.active.axisRow i
      let after := new.axisRow i
      let kept := before.valid = true ∧ after.valid = true ∧ before.node = after.node
      let joins := (new.gangRow after.gang.toNat).valid = true ∧ s.gang after.gang.toNat = none
      (after.valid = false → t.axis i = none ∧ t.forward i = none) ∧
      (∀ a, kept → s.axis i = some a →
        t.axis i = some { a with
          position := saturate (after.sign * a.rawPosition + after.offset.toInt)
          velocity := after.sign * a.rawVelocity
          start := if after.sign = before.sign ∧ after.offset = before.offset then a.start else none }) ∧
      (∀ v, kept → s.forward i = some v →
        (joins → t.forward i = some { v with fromRest := true } ∧ t.lastVelocity i = 0) ∧
        (¬joins → t.forward i = some v ∧ t.lastVelocity i = s.lastVelocity i)) ∧
      (after.valid = true → ¬kept → t.axis i = some AxisRec.cleared ∧ t.forward i = some ForwardRec.cleared) ∧
      t.grantRec i = if after.valid = true ∧ after ≠ before then { count := 0, saturated := false } else s.grantRec i) ∧
    (t.openGrant = none ∧ t.highPtr = s.highPtr ∧ t.lowPtr = s.lowPtr) ∧
    (if s.active.config.segment = new.config.segment then t.deferred = s.deferred ∧ t.backoff = s.backoff
      else t.deferred = [] ∧ t.backoff = 0) ∧
    ((s.watchdog = .substituting ∨ s.watchdog = .latched →
        t.watchdog = s.watchdog ∧ t.watchdogTimer = s.watchdogTimer) ∧
      (s.watchdog = .stopped → s.flag .watchdog = true → t.watchdog = .latched ∧ t.watchdogTimer = s.watchdogTimer) ∧
      (s.watchdog = .running ∨ (s.watchdog = .stopped ∧ s.flag .watchdog = false) →
        (new.config.watchdogEnabled = true →
          t.watchdog = .running ∧ t.watchdogTimer = some new.config.watchdogTimeout) ∧
        (new.config.watchdogEnabled = false → t.watchdog = .stopped)) ∧
      (s.watchdog = .running → new.config.watchdogEnabled = false → t.watchdogTimer = none) ∧
      t.substituteTimer = s.substituteTimer) ∧
    (∀ i l, s.lines[i]? = some l →
      let d := t.lineDemand i
      t.lines[i]? = some (if s.active.config.line i = new.config.line i ∧ l.demand = d then l
        else { demand := d, time := 0, level := d != .off })) ∧
    (s.events.length < 32 →
      t.flags = s.flags ||| Flag.weatherStale.mask ∧
      t.events = s.events ++ if s.windClass = 3 then [] else
        [{ source := .bridge, code := 0xF004, gang := none,
           data := some (byteOf s.windClass ++ 3#8 ++ 3#8 ++ 0#8), cycle := s.lastCycle }]) ∧
    t.frameClass = none ∧
    t.up = s.up ∧ t.down = s.down ∧ t.reportedNodes = s.reportedNodes ∧ t.refresh = s.refresh

/-! ### Axes -/

/-- A FEEDBACK of segment S from the node of a record updates that record's figures, marks and status bits as stated and
no other axis; it touches no gang but its own, and goes upstream unchanged. From any other node it is only forwarded
(R54 to R59, R165; the raw velocity of -32,768 by log entry 19). -/
def Obligations.FeedbackUpdatesItsAxisRecordAlone : Prop :=
  ∀ (s : State) (bytes f : Frame), Receives s .downstream bytes f → classify s .downstream f = .feedback →
    let p := framePayload f
    (∀ i a, s.active.axisOfNode (u8 p 1) = some i → s.axis i = some a →
      ∃ t a', exec (.feedbackArrival bytes) s = .next t ∧ t.axis i = some a' ∧
        a'.reported = true ∧ a'.rawPosition = (u32 p 3).toInt ∧
        a'.rawVelocity = (if (u16 p 7).toInt = -32768 then -32767 else (u16 p 7).toInt) ∧
        a'.position =
          min 2000000000 (max (-2000000000)
            ((s.active.axisRow i).sign * (u32 p 3).toInt + (s.active.axisRow i).offset.toInt)) ∧
        a'.velocity = (s.active.axisRow i).sign * a'.rawVelocity ∧ a'.echoedCycle = u8 p 2 ∧
        a'.freshness = 0 ∧ a'.stale = false ∧ a'.start = a.start ∧
        a'.ready = (u8 p 11).getLsbD 0 ∧ a'.fault = (u8 p 11).getLsbD 1 ∧ a'.eventPending = (u8 p 11).getLsbD 2 ∧
        (∀ j, j ≠ i → t.axis j = s.axis j) ∧
        (∀ g, g ≠ (s.active.axisRow i).gang.toNat → t.gang g = s.gang g) ∧
        (s.up.queue.length < 16 → t.up.queue = s.up.queue ++ [f]) ∧
        { t with
          up := s.up, axes := s.axes, gangs := s.gangs, events := s.events, flags := s.flags, lines := s.lines,
          faultnLow := s.faultnLow } = s.arrived .downstream) ∧
    ((s.active.axisOfNode (u8 p 1) = none ∨ ∃ i, s.active.axisOfNode (u8 p 1) = some i ∧ s.axis i = none) →
      exec (.feedbackArrival bytes) s = .next ((s.arrived .downstream).hand .upstream f).updateFaultn)

/-- A report with FAULT set trips the axis's gang in every state, with DRIVE_FAULT as first trip cause where it was not
TRIPPED; a report with READY clear gives a moving gang NOT_READY and another gang nothing (R10), one with READY set
takes NOT_READY off where every other member has READY set too, and any report takes STALE off where no other member is
stale (R14, R56, R57, R58). The echo check is made only with the row's check enabled and the last forwarded ENABLE set;
an echo equal to either raw value clears the count, another raises it up to 3, and reaching 3 marks the axis and trips
its gang (R64 to R66). -/
def Obligations.FeedbackTripsHoldsAndCountsEchoes : Prop :=
  (∀ (s : State) (bytes f : Frame) (i : Nat) (a : AxisRec) (r : GangRec),
    Receives s .downstream bytes f → classify s .downstream f = .feedback →
    s.active.axisOfNode (u8 (framePayload f) 1) = some i → s.axis i = some a →
    s.gang (s.active.axisRow i).gang.toNat = some r → r.Sound →
    ∃ t r', exec (.feedbackArrival bytes) s = .next t ∧ t.gang (s.active.axisRow i).gang.toNat = some r' ∧
      ((u8 (framePayload f) 11).getLsbD 1 = true →
        r'.state = .tripped ∧ r'.trips.driveFault = true ∧ t.flag .driveFault = true ∧
          (r.state ≠ .tripped → r'.firstTrip = some .driveFault)) ∧
      ((u8 (framePayload f) 11).getLsbD 0 = false → r.state.moving = true →
        r'.holds.notReady = true ∧ (r'.state = .holding ∨ r'.state = .held ∨ r'.state = .tripped))) ∧
  (∀ (s : State) (bytes f : Frame) (i : Nat) (a : AxisRec) (r : GangRec),
    Receives s .downstream bytes f → classify s .downstream f = .feedback →
    s.active.axisOfNode (u8 (framePayload f) 1) = some i → s.axis i = some a →
    s.gang (s.active.axisRow i).gang.toNat = some r →
    let others := (s.members (s.active.axisRow i).gang.toNat).filter fun j => j != i
    let otherStale := ∃ j ∈ others, ∃ b, s.axis j = some b ∧ b.stale = true
    let othersReady := ∀ j ∈ others, ∃ b, s.axis j = some b ∧ b.ready = true
    let ready := (u8 (framePayload f) 11).getLsbD 0
    ∃ t r', exec (.feedbackArrival bytes) s = .next t ∧ t.gang (s.active.axisRow i).gang.toNat = some r' ∧
      (¬otherStale → r'.holds.stale = false) ∧ (otherStale → r'.holds.stale = r.holds.stale) ∧
      (ready = true → othersReady → r'.holds.notReady = false) ∧
      (ready = true → ¬othersReady → r'.holds.notReady = r.holds.notReady) ∧
      (ready = false → r.state ∈ [GangState.idle, .held, .tripped] → r'.holds.notReady = r.holds.notReady) ∧
      (ready = false → r.state ∉ [GangState.idle, .held, .tripped] → r'.holds.notReady = true) ∧
      (∀ c, c ∉ [HoldCause.stale, .notReady] → r'.holds.has c = r.holds.has c)) ∧
  (∀ (s : State) (bytes f : Frame) (i : Nat) (a : AxisRec) (w : ForwardRec),
    Receives s .downstream bytes f → classify s .downstream f = .feedback →
    s.active.axisOfNode (u8 (framePayload f) 1) = some i → s.axis i = some a → s.forward i = some w →
    ∃ t a', exec (.feedbackArrival bytes) s = .next t ∧ t.axis i = some a' ∧
      let made := (s.active.axisRow i).flags.getLsbD 3 = true ∧ w.enable = true
      let echo := (u16 (framePayload f) 9).toInt
      let pass := echo = w.recentRaw ∨ echo = w.previousRaw
      (¬made → a'.echoCount = a.echoCount ∧ a'.echoFault = a.echoFault) ∧
      (made → pass → a'.echoCount = 0 ∧ a'.echoFault = a.echoFault) ∧
      (made → ¬pass → a.echoCount < 3 →
        a'.echoCount = a.echoCount + 1 ∧ a'.echoFault = (a.echoFault || a.echoCount == 2)) ∧
      (made → ¬pass → a.echoCount = 3 → a'.echoCount = 3 ∧ a'.echoFault = a.echoFault) ∧
      (made → ¬pass → a.echoCount = 2 →
        ∀ r, s.gang (s.active.axisRow i).gang.toNat = some r →
          ∃ r', t.gang (s.active.axisRow i).gang.toNat = some r' ∧ r'.state = .tripped ∧ r'.trips.echo = true ∧
            t.flag .echo = true))

/-- At each local setpoint processing, in the refresh too, every record's freshness count rises by 1 up to 15, and a
record whose count then exceeds the stale limit is STALE: where its mark was clear the flag is set and its gang carries
STALE. The row AXIS_BECOMES_STALE makes the same finding for one axis standing alone (log entry 22, DESIGN CHOICE):
mark, flag, and STALE on its gang, and any other axis is left as it was (R60). -/
def Obligations.AxisBecomesStaleBeyondItsLimit : Prop :=
  (∀ (s t : State) (w : WaitingFrame) (rest : List WaitingFrame) (i : Nat) (a : AxisRec), Processes s w rest →
    exec .localSetpointProcessing s = .next t → i < 64 → s.axis i = some a →
    ∃ a', t.axis i = some a' ∧
      a'.freshness = (if a.freshness < 15 then a.freshness + 1 else a.freshness) ∧
      (a'.stale = true ↔ a.stale = true ∨ s.config.staleLimit.toNat < a'.freshness) ∧
      a' = { a with freshness := a'.freshness, stale := a'.stale, start := a'.start } ∧
      (a.stale = false → a'.stale = true →
        t.flag .stale = true ∧
        ∀ r, (s.active.axisRow i).valid = true → s.gang (s.active.axisRow i).gang.toNat = some r →
          ∃ r', t.gang (s.active.axisRow i).gang.toNat = some r' ∧ r'.holds.stale = true)) ∧
  (∀ (s : State) (i : Nat) (a : AxisRec), s.axis i = some a → (s.active.axisRow i).valid = true →
    (s.config.staleLimit.toNat < a.freshness → a.stale = false →
      exec (.axisBecomesStale i) s =
        .next (settle s
          ((State.setFlag { s with axes := s.axes.set i (some { a with stale := true }) } .stale).addHold .stale
            (s.active.axisRow i).gang.toNat))) ∧
    (a.freshness ≤ s.config.staleLimit.toNat ∨ a.stale = true →
      exec (.axisBecomesStale i) s = .next s.updateFaultn))

/-- Every figure and count of every axis record stays in its range (R53, R54, R60, R65). -/
def Obligations.EveryStepKeepsAxisRecordsInRange : Prop :=
  ∀ s t : State, s.AxesInRange → step s = .next t → t.AxesInRange

/-! ### Fences and interlocks -/

/-- The blocking rows of a gang are the valid rows naming it as subject whose condition is false: some member of the
condition gang not fresh or outside the region, or that gang TRIPPED (R77, R78). With a fresh member and a direction the
lead is the member furthest along d, the lowest row among equals (R74); the effective fence is the envelope bound, or
the near edge of a blocking row that is not wholly behind the lead and strictly nearer than the bound, the lowest row
among equals, and none of them is nearer (R75, R78, R79); r is d times the fence less the lead. With no fresh member r
is 0, with d = 0 all is absent. -/
def Obligations.FenceResultIsNearestBoundAhead : Prop :=
  ∀ (s : State) (g : Nat) (d : Int), d = 1 ∨ d = -1 →
    let f := s.fenceResult g d
    s.fenceResult g 0 =
      { lead := none, leadPosition := none, fence := none, source := .absent, remaining := none,
        blocking := f.blocking, inside := f.inside } ∧
    (∀ k, k ∈ f.blocking ↔
      k < 16 ∧ (s.active.interlockRow k).valid = true ∧ (s.active.interlockRow k).subject.toNat = g ∧
        ((∃ i ∈ s.members (s.active.interlockRow k).condition.toNat, ∀ a, s.axis i = some a →
            a.reported = false ∨ a.stale = true ∨ a.position < (s.active.interlockRow k).conditionLow.toInt ∨
              (s.active.interlockRow k).conditionHigh.toInt < a.position) ∨
          ∃ r, s.gang (s.active.interlockRow k).condition.toNat = some r ∧ r.state = .tripped)) ∧
    (s.freshMembers g = [] →
      f.lead = none ∧ f.leadPosition = none ∧ f.fence = none ∧ f.source = .absent ∧ f.remaining = some 0) ∧
    (s.freshMembers g ≠ [] →
      ∃ i pos edge, f.lead = some i ∧ f.leadPosition = some pos ∧ f.fence = some edge ∧
        f.remaining = some (d * (edge - pos)) ∧
        (∃ a, (i, a) ∈ s.freshMembers g ∧ a.position = pos) ∧
        (∀ m ∈ s.freshMembers g, d * m.2.position ≤ d * pos ∧ (m.2.position = pos → i ≤ m.1)) ∧
        (let bound := if d = 1 then (s.gangRow g).high else (s.gangRow g).low
         let near := fun k => if d = 1 then (s.active.interlockRow k).protectedLow.toInt
           else (s.active.interlockRow k).protectedHigh.toInt
         let offers := fun k => k ∈ f.blocking ∧
           (if d = 1 then pos ≤ (s.active.interlockRow k).protectedHigh.toInt
            else (s.active.interlockRow k).protectedLow.toInt ≤ pos)
         ((f.source = .envelope ∧ edge = bound) ∨
           ∃ k, f.source = .row k ∧ offers k ∧ edge = near k ∧ d * edge < d * bound ∧
             ∀ j, offers j → near j = edge → k ≤ j) ∧
         d * edge ≤ d * bound ∧ ∀ k, offers k → d * edge ≤ d * near k))

/-- The fence pass stores the fence result of each gang, and leaves it with INTERLOCK exactly while that has inside rows:
blocking rows, whose condition is false, with a fresh member of the gang in their protected region. Entry, and it alone,
queues one INTERLOCK_BLOCKED record with the gang and its lowest inside row (R77, R81, R82); that the records of several
gangs come in rising order is log entry 11 (DESIGN CHOICE). -/
def Obligations.FencePassLeavesInterlockExactlyInsideRows : Prop :=
  (∀ (s : State) (g : Nat) (r : GangRec), s.Shaped → g < 8 → s.gang g = some r →
    let res := s.fenceResult g r.direction
    (fencePass s).fence g = some res ∧
    ∃ r', (fencePass s).gang g = some r' ∧
      (r'.holds.interlock = true ↔ res.inside ≠ []) ∧
      (∀ k, k ∈ res.inside ↔
        k < 16 ∧ (s.active.interlockRow k).valid = true ∧ (s.active.interlockRow k).subject.toNat = g ∧
          s.conditionHolds (s.active.interlockRow k) = false ∧
          ∃ m ∈ s.freshMembers g, (s.active.interlockRow k).protectedLow.toInt ≤ m.2.position ∧
            m.2.position ≤ (s.active.interlockRow k).protectedHigh.toInt) ∧
      (r.holds.interlock = false → res.inside ≠ [] → r' = r.addHold .interlock) ∧
      (r.holds.interlock = true → res.inside ≠ [] → r' = r) ∧
      (res.inside = [] → r' = r.removeHold .interlock)) ∧
  (∀ s : State, s.Shaped → s.events.length + 8 ≤ 32 →
    (fencePass s).events = s.events ++ (List.range 8).filterMap fun g =>
      match s.gang g, ((fencePass s).fence g).bind fun f => f.inside.min? with
      | some r, some k =>
        if r.holds.interlock then none
        else some { source := .bridge, code := 0xF002, gang := some g, data := some (byteOf k ++ 0#24),
                    cycle := s.lastCycle }
      | _, _ => none)

/-! ### Site inputs -/

/-- With T1 < T2 < T3 a weather arrival while fresh gives the rise class R where it lies above the present one, else the
class found by falling while the gust is below threshold less hysteresis, never below R (R91). -/
def Obligations.WindClassRisesAndFallsWithHysteresis : Prop :=
  ∀ (c : ConfigRow) (k : Nat) (gust : Int), c.t1.toNat < c.t2.toNat → c.t2.toNat < c.t3.toNat → k ≤ 3 →
    let rise := riseClass c gust
    let m := gustClass c false k gust
    let threshold := fun j : Nat =>
      if j = 1 then (c.t1.toNat : Int) else if j = 2 then (c.t2.toNat : Int) else (c.t3.toNat : Int)
    rise ≤ 3 ∧ (∀ j, 1 ≤ j → j ≤ 3 → (j ≤ rise ↔ threshold j ≤ gust)) ∧ rise ≤ m ∧
    (k < rise → m = rise) ∧
    (rise ≤ k →
      m ≤ k ∧ (1 ≤ m → threshold m - c.hysteresis.toNat ≤ gust) ∧
        ∀ j, m < j → j ≤ k → gust < threshold j - c.hysteresis.toNat) ∧
    gustClass c true k gust = rise

/-- A WEATHER of segment S from the weather node classifies the gust, clears the stale mark and starts 3,000 ms; a
change of class queues one record and puts WIND on exactly the gangs whose permission it exceeds; from another node it
is only forwarded (R9, R90 to R92, R94, R165). A frame in its processing keeps the wind percent of the class before the
change (R41, R94); that the oldest waiting frame is in it is log entry 41 (DEDUCED), and that the record is offered
before the frame is handed on log entry 21 (DEDUCED). -/
def Obligations.WeatherArrivalClassifiesAndMovesWind : Prop :=
  ∀ (s : State) (bytes f : Frame), Receives s .downstream bytes f → classify s .downstream f = .weather →
    (u8 (framePayload f) 1 ≠ s.config.weatherNode →
      exec (.weatherArrival bytes) s = .next ((s.arrived .downstream).hand .upstream f).updateFaultn) ∧
    (u8 (framePayload f) 1 = s.config.weatherNode →
      let cls := gustClass s.config s.weatherStale s.windClass (min 999 (u16 (framePayload f) 2).toNat)
      let kept := if s.waiting = [] then none else some (s.frameClass.getD s.windClass)
      let read := { s.arrived .downstream with weatherStale := false, weatherTimer := some 3000 }
      (cls = s.windClass → exec (.weatherArrival bytes) s = .next (read.hand .upstream f).updateFaultn) ∧
      (cls ≠ s.windClass →
        ∃ wind : State, exec (.weatherArrival bytes) s = .next (settle s (wind.hand .upstream f)) ∧
          wind =
            { State.offer { read with windClass := cls, frameClass := kept } .bridge 0xF004 none
                (some (byteOf s.windClass ++ byteOf cls ++ 1#8 ++ 0#8)) with gangs := wind.gangs } ∧
          ∀ g, g < 8 →
            wind.gang g =
              (s.gang g).map fun r =>
                if (s.gangRow g).permission.toNat < cls then r.addHold .wind else r.removeHold .wind))

/-- At the expiry of the weather freshness timer the stale mark is set and the timer stops, the class is forced to
3 and WEATHER_STALE is set; at class 3 already that is all, else the change is recorded with reason STALE and WIND
put on the gangs whose permission is below 3 (R93, R94), and a frame in its processing keeps the percent of the
class before (R41; log entry 41, DEDUCED). A timer that an arrival has restarted, or that is stopped, does not
expire (R93, log entry 3). -/
def Obligations.WeatherExpiryForcesClassThree : Prop :=
  ∀ s : State,
    (s.weatherTimer ≠ some 0 → exec .weatherTimerExpiry s = .next s.updateFaultn) ∧
    (s.weatherTimer = some 0 →
      let kept := if s.waiting = [] then none else some (s.frameClass.getD s.windClass)
      let stale := { s with weatherStale := true, weatherTimer := none }
      (s.windClass = 3 → exec .weatherTimerExpiry s = .next (stale.setFlag .weatherStale).updateFaultn) ∧
      (s.windClass ≠ 3 →
        ∃ wind : State, exec .weatherTimerExpiry s = .next (settle s (wind.setFlag .weatherStale)) ∧
          wind =
            { State.offer { stale with windClass := 3, frameClass := kept } .bridge 0xF004 none
                (some (byteOf s.windClass ++ 3#8 ++ 2#8 ++ 0#8)) with gangs := wind.gangs } ∧
          ∀ g, g < 8 →
            wind.gang g =
              (s.gang g).map fun r =>
                if (s.gangRow g).permission.toNat < 3 then r.addHold .wind else r.removeHold .wind))

/-- HOLDn going low in RELEASED begins a press at time 0 with its long-press time fixed from the active row, or 3,000 ms
while no bank is active; at 60 ms it is ARMED; HOLDn going high in DEBOUNCE has no effect, and in ARMED it completes a
SHORT press: the mark and PRESS_SHORT set, and OPERATOR added to every gang that has a record (R98, R99). The long-press
point in ARMED makes it LONG, sets PRESS_LONG and lifts the operator's hold, and the release then does nothing (R100). A
second change of HOLDn within a millisecond only sets the level, for the next sample, and in reset nothing is taken
(R190, log entry 38, DESIGN CHOICE); a point whose time is not reached does nothing (log entry 3); the stopped press
time keeps its value (log entry 27, DESIGN CHOICE). -/
def Obligations.PressesAreClassifiedByTheirLength : Prop :=
  ∀ s : State,
    (∀ low : Bool,
      let change : Instr := if low then .pressStart else .pressRelease
      (s.inReset = true → exec change s = .next s.updateFaultn) ∧
      (s.inReset = false → s.sampled = true ∨ (s.press = .released ↔ low = false) →
        exec change s = .next (State.updateFaultn { s with holdnLow := low }))) ∧
    (s.inReset = false → s.sampled = false →
      (s.press = .released →
        exec .pressStart s =
          .next (State.updateFaultn
            { s with
              holdnLow := true, sampled := true, press := .debounce, pressTime := 0,
              longTime := if s.bankPresent then s.config.longPressTime else 3000 })) ∧
      (s.press = .debounce ∨ s.press = .long →
        exec .pressRelease s =
          .next (State.updateFaultn { s with holdnLow := false, sampled := true, press := .released })) ∧
      (s.press = .armed →
        ∃ held : State, exec .pressRelease s = .next (settle s held) ∧
          held =
            { s with
              holdnLow := false, sampled := true, press := .released, operatorHold := true,
              flags := s.flags ||| 0x200000#24, gangs := held.gangs } ∧
          ∀ g, g < 8 → held.gang g = (s.gang g).map fun r => r.addHold .operator)) ∧
    ((s.press = .debounce → 60 ≤ s.pressTime →
        exec .debounceExpiry s = .next (State.updateFaultn { s with press := .armed })) ∧
      (s.press ≠ .debounce ∨ s.pressTime < 60 → exec .debounceExpiry s = .next s.updateFaultn)) ∧
    ((s.press = .armed → s.longTime ≤ s.pressTime →
        ∃ lifted : State, exec .longPress s = .next (settle s lifted) ∧
          lifted =
            { s with
              press := .long, operatorHold := false, flags := s.flags ||| 0x400000#24, gangs := lifted.gangs } ∧
          ∀ g, g < 8 → lifted.gang g =
            if s.operatorHold then (s.gang g).map fun r => r.removeHold .operator else s.gang g) ∧
      (s.press ≠ .armed ∨ s.pressTime < s.longTime → exec .longPress s = .next s.updateFaultn))

/-- While the weather is stale the class is 3 and the freshness timer stopped, while it is fresh the timer runs; and no
gang is without OPERATOR while the operator-hold mark is set; so it stays at every step (R89, R101). -/
def Obligations.EveryStepKeepsSiteInputsSound : Prop :=
  (∀ s t : State, s.WeatherSound → step s = .next t → t.WeatherSound) ∧
  (∀ s t : State, s.Shaped → s.OperatorSound → step s = .next t → t.OperatorSound)

/-- A line's demand is the first case of the table that its watched gangs meet: STEADY, FAST, OWN or OFF (R103). At each
local setpoint processing outside the refresh it is found from the states the frame leaves, and between frames by every
event that changes the state of a watched gang, and by no other; a line keeps its period where the demand is the same,
and starts afresh, lit unless OFF, where it differs (R103, R104). That a STEADY or OFF line stands at time 0 is log
entry 29 (DESIGN CHOICE). -/
def Obligations.WarningLineFollowsItsGangs : Prop :=
  let inState := fun (u : State) (i : Nat) (p : GangState → Prop) =>
    ∃ g, g < 8 ∧ (u.config.line i).mask.getLsbD g = true ∧ ∃ r, u.gang g = some r ∧ p r.state
  let shows := fun (u : State) (i : Nat) (d : LineDemand) =>
    (inState u i (· = .prewarn) ∧ d = .steady) ∨
    (¬inState u i (· = .prewarn) ∧ inState u i (· = .holding) ∧ d = .fast) ∨
    (¬inState u i (· = .prewarn) ∧ ¬inState u i (· = .holding) ∧
      inState u i (· ∈ [GangState.breakaway, .cruise, .approach, .settle]) ∧ d = .own) ∨
    (¬inState u i (· ∈ [GangState.prewarn, .holding, .breakaway, .cruise, .approach, .settle]) ∧ d = .off)
  let takes := fun (l : LineGen) (found : Option LineGen) (d : LineDemand) =>
    ∃ l', found = some l' ∧ l'.demand = d ∧ (d = l.demand → l' = l) ∧
      (d ≠ l.demand → l'.time = 0 ∧ (l'.level = true ↔ d ≠ .off))
  (∀ (s t : State) (w : WaitingFrame) (rest : List WaitingFrame) (i : Nat) (l : LineGen), Processes s w rest →
    s.refresh = none → exec .localSetpointProcessing s = .next t → s.lines[i]? = some l →
    ∃ d, shows t i d ∧ takes l t.lines[i]? d) ∧
  (∀ (old new : State) (i : Nat) (l : LineGen), new.lines[i]? = some l → new.bankPresent = true →
    let mask := (new.config.line i).mask
    ((∀ g, g < 8 → mask.getLsbD g = true → (old.gang g).map (·.state) = (new.gang g).map (·.state)) →
      (settle old new).lines[i]? = some l) ∧
    ((∃ g, g < 8 ∧ mask.getLsbD g = true ∧ (old.gang g).map (·.state) ≠ (new.gang g).map (·.state)) →
      ∃ d, shows new i d ∧ takes l (settle old new).lines[i]? d))

/-! ### Tables -/

/-- TABLE WRITE in EDITING outside the refresh: a bad selector or index is BAD_INDEX, a wrong length or a field out of
range BAD_FIELD, else DONE and the pending bank takes the written row (R114, R184). The row is replaced whole, all zero
where its valid bit is clear, and no other row; a row written invalid is always taken (R115); the config row and a valid
row are taken exactly with every field in its range, the relations of R109 and R112 met, and no reserved bit (R109 to
R112, R189). The selectors 0 to 3 name the config, axis, gang and interlock tables (section 10.3). -/
def Obligations.TableWriteChecksThenWritesOneRow : Prop :=
  (∀ (s : State) (bytes f : Frame) (selector index : Byte) (row : List Byte),
    ManagementArrives s bytes f 0x01 (selector :: index :: row) → s.pendingState = .editing → s.refresh = none →
    (3 < selector.toNat → exec (.tableWrite bytes) s = .next (s.managed.answered f 0x03 []).updateFaultn) ∧
    (∀ table, tableOf selector = some table →
      (row.length ≠ table.rowBytes →
        exec (.tableWrite bytes) s = .next (s.managed.answered f 0x04 []).updateFaultn) ∧
      (row.length = table.rowBytes → table.rows ≤ index.toNat →
        exec (.tableWrite bytes) s = .next (s.managed.answered f 0x03 []).updateFaultn) ∧
      (row.length = table.rowBytes → index.toNat < table.rows →
        (s.pendingBank.writeRow table index.toNat row = none →
          exec (.tableWrite bytes) s = .next (s.managed.answered f 0x04 []).updateFaultn) ∧
        (∀ b, s.pendingBank.writeRow table index.toNat row = some b →
          exec (.tableWrite bytes) s =
            .next (State.answered { s.managed with pendingBank := b } f 0x00 []).updateFaultn)))) ∧
  (∀ (b b' : Bank) (table : Table) (index : Nat) (row : List Byte), b.Shaped → index < table.rows →
    row.length = table.rowBytes → b.writeRow table index row = some b' →
      b'.Shaped ∧
      b'.rowImage table index =
        (if table = .config ∨ (u8 row 0).getLsbD 0 = true then row else List.replicate table.rowBytes 0) ∧
      ∀ other j, j < other.rows → (other ≠ table ∨ j ≠ index) → b'.rowImage other j = b.rowImage other j) ∧
  (∀ (b : Bank) (table : Table) (index : Nat) (row : List Byte),
    let taken := (b.writeRow table index row).isSome = true
    let byte := fun k => (u8 row k).toNat
    let half := fun k => (u16 row k).toNat
    let position := fun k => -2000000000 ≤ (u32 row k).toInt ∧ (u32 row k).toInt ≤ 2000000000
    (table ≠ .config → (u8 row 0).getLsbD 0 = false → taken) ∧
    (table = .config →
      (taken ↔
        (1 ≤ byte 3 ∧ byte 3 ≤ 126 ∧ byte 4 ≤ 63 ∧ byte 5 ≤ 7 ∧ 1 ≤ byte 6 ∧ byte 6 ≤ 15 ∧ 1 ≤ byte 7 ∧ byte 7 ≤ 126) ∧
        (half 8 < half 10 ∧ half 10 < half 12 ∧ half 12 ≤ 999 ∧ byte 14 ≤ 50 ∧ byte 15 ≤ 3 ∧ byte 16 = 0 ∧
          half 20 ≤ half 22) ∧
        ∀ k, k < 4 → byte (25 + 3 * k) ≤ 3 ∧ 1 ≤ byte (26 + 3 * k) ∧ byte (26 + 3 * k) ≤ 8)) ∧
    (table = .axis → (u8 row 0).getLsbD 0 = true →
      (taken ↔
        byte 0 ≤ 31 ∧ 1 ≤ byte 1 ∧ byte 1 ≤ 126 ∧ byte 2 ≤ 7 ∧ -1000000000 ≤ (u32 row 3).toInt ∧
          (u32 row 3).toInt ≤ 1000000000)) ∧
    (table = .gang → (u8 row 0).getLsbD 0 = true →
      (taken ↔
        (byte 0 = 1 ∧ 1 ≤ half 1 ∧ half 1 ≤ 32767 ∧ 1 ≤ (u32 row 5).toNat ∧ (u32 row 5).toNat ≤ 1000000 ∧
          1 ≤ half 9 ∧ half 9 ≤ 10000 ∧ byte 11 ≤ 100 ∧ 1 ≤ half 12 ∧ half 12 ≤ 50000) ∧
        (1 ≤ half 14 ∧ half 14 ≤ 32767 ∧ 1 ≤ half 16 ∧ half 16 ≤ 32767 ∧ half 18 ≤ 1000 ∧ 1 ≤ byte 20) ∧
        (byte 21 ≤ 100 ∧ byte 22 ≤ 100 ∧ byte 23 ≤ 100 ∧ byte 24 ≤ 100 ∧ byte 25 ≤ 3) ∧
        position 26 ∧ position 30 ∧ byte 34 ≤ 60)) ∧
    (table = .interlock → (u8 row 0).getLsbD 0 = true →
      (taken ↔
        byte 0 = 1 ∧ byte 1 ≤ 7 ∧ byte 10 ≤ 7 ∧ position 2 ∧ position 6 ∧ position 11 ∧ position 15 ∧
          (u32 row 2).toInt ≤ (u32 row 6).toInt ∧ (u32 row 11).toInt ≤ (u32 row 15).toInt))) ∧
  (tableOf 0 = some .config ∧ tableOf 1 = some .axis ∧ tableOf 2 = some .gang ∧ tableOf 3 = some .interlock ∧
    ∀ selector : Byte, 3 < selector.toNat → tableOf selector = none)

/-- The reads change nothing but the answer: TABLE READ returns the row, a reserved bit sent as 0 and an invalid row as
zeros, with the verified CRC or the pending state, READ AXIS the 26 bytes of the axis and forwarding records, READ GANG
the 43 of the gang record and its fence result, READ DEFERRED the 22 of each entry behind the two counts, every field at
its place, an absent one as 0; a bad selector, bank or index is answered BAD_INDEX (R71, R116, R143, R185, R188, section
10.3; absent fields by log entry 20). -/
def Obligations.ReadCommandsOnlyAnswer : Prop :=
  ∀ (s : State) (bytes f : Frame),
    (let sent := fun (b : Bank) (table : Table) (index : Nat) =>
      let row := b.rowImage table index
      if table ≠ .config ∧ (u8 row 0).getLsbD 0 = false then List.replicate table.rowBytes 0#8
      else (List.range table.rowBytes).map fun k =>
        u8 row k &&& (match table, k with
          | .config, 4 => 0x3F
          | .config, 16 => 0
          | .axis, 0 => 0x1F
          | .gang, 0 => 0x01
          | .interlock, 0 => 0x01
          | _, _ => 0xFF)
     ∀ bank selector index table, ManagementArrives s bytes f 0x02 [bank, selector, index] → s.refresh = none →
      tableOf selector = some table →
      (1 < bank.toNat ∨ table.rows ≤ index.toNat →
        exec (.tableRead bytes) s = .next (s.managed.answered f 0x03 []).updateFaultn) ∧
      (bank = 0 → index.toNat < table.rows →
        exec (.tableRead bytes) s =
          .next (if s.bankPresent then
              s.managed.answered f 0x00 (sent s.active table index.toNat ++ bytes16 (s.verifiedCrc.getD 0))
            else s.managed.answered f 0x05 []).updateFaultn) ∧
      (bank = 1 → index.toNat < table.rows →
        exec (.tableRead bytes) s =
          .next (s.managed.answered f 0x00
            (sent s.pendingBank table index.toNat ++
              [match s.pendingState with | .editing => 0#8 | .verifying => 1#8 | .readyToSwap => 2#8])).updateFaultn)) ∧
    (∀ bank selector index, ManagementArrives s bytes f 0x02 [bank, selector, index] → s.refresh = none →
      3 < selector.toNat → exec (.tableRead bytes) s = .next (s.managed.answered f 0x03 []).updateFaultn) ∧
    (∀ i, ManagementArrives s bytes f 0x0B [i] →
      (s.axis i.toNat = none → exec (.readAxis bytes) s = .next (s.managed.answered f 0x03 []).updateFaultn) ∧
      (∀ a w, s.axis i.toNat = some a → s.forward i.toNat = some w →
        ∃ data, exec (.readAxis bytes) s = .next (s.managed.answered f 0x00 data).updateFaultn ∧ data.length = 26 ∧
          (∀ k b, (k, b) ∈ [(0, a.reported), (1, a.ready), (2, a.fault), (3, a.eventPending), (4, a.stale),
            (5, a.echoFault), (6, a.start.isSome), (7, w.enable)] → (u8 data 0).getLsbD k = b) ∧
          u32 data 16 = BitVec.ofInt 32 (a.start.getD 0) ∧
          u32 data 1 = BitVec.ofInt 32 a.rawPosition ∧ u16 data 5 = BitVec.ofInt 16 a.rawVelocity ∧
          u32 data 7 = BitVec.ofInt 32 a.position ∧ u16 data 11 = BitVec.ofInt 16 a.velocity ∧
          u8 data 13 = a.echoedCycle ∧ u8 data 14 = byteOf a.freshness ∧ u8 data 15 = byteOf a.echoCount ∧
          u16 data 20 = BitVec.ofInt 16 w.velocity ∧ u16 data 22 = BitVec.ofInt 16 w.recentRaw ∧
          u16 data 24 = BitVec.ofInt 16 w.previousRaw)) ∧
    (∀ g, ManagementArrives s bytes f 0x0C [g] →
      (s.gang g.toNat = none → exec (.readGang bytes) s = .next (s.managed.answered f 0x03 []).updateFaultn) ∧
      (∀ r, s.gang g.toNat = some r →
        ∃ data, exec (.readGang bytes) s = .next (s.managed.answered f 0x00 data).updateFaultn ∧ data.length = 43 ∧
          ((r.state, u8 data 0) ∈ [(GangState.idle, 0#8), (.prewarn, 1), (.breakaway, 2), (.cruise, 3), (.approach, 4),
              (.settle, 5), (.holding, 6), (.held, 7), (.tripped, 8)] ∧
            (∀ k b, (k, b) ∈ [(0, r.holds.watchdog), (1, r.holds.operator), (2, r.holds.wind), (3, r.holds.stale),
              (4, r.holds.notReady), (5, r.holds.command), (6, r.holds.interlock), (7, r.holds.restart)] →
              (u8 data 1).getLsbD k = b) ∧
            (∀ k b, (k, b) ∈ [(0, r.trips.skew), (1, r.trips.echo), (2, r.trips.driveFault), (3, r.trips.overtravel)] →
              (u8 data 2).getLsbD k = b) ∧ (u8 data 2).extractLsb' 4 4 = 0#4 ∧
            (r.firstTrip, u8 data 3) ∈ [(none, 0#8), (some TripCause.skew, 1), (some .echo, 2), (some .driveFault, 3),
              (some .overtravel, 4)]) ∧
          (u8 data 4 = BitVec.ofInt 8 r.direction ∧ u32 data 5 = BitVec.ofNat 32 r.skew ∧
            u16 data 9 = BitVec.ofInt 16 r.currentCeiling) ∧
          ((∀ k b, (k, b) ∈ [(0, r.recovery.isSome), (1, r.prewarnDone), (2, r.prewarnLeft.isSome)] →
              (u8 data 11).getLsbD k = b) ∧ (u8 data 11).extractLsb' 3 5 = 0#5 ∧
            u32 data 12 = BitVec.ofNat 32 (r.recovery.getD 0) ∧ u16 data 16 = BitVec.ofNat 16 (r.prewarnLeft.getD 0) ∧
            u8 data 18 = byteOf r.settleCount) ∧
          (∀ x, s.fence g.toNat = some x →
            (∀ k b, (k, b) ∈ [(0, x.lead.isSome), (1, x.fence.isSome), (2, x.remaining.isSome)] →
              (u8 data 19).getLsbD k = b) ∧ (u8 data 19).extractLsb' 3 5 = 0#5 ∧
            u8 data 20 = byteOf (x.lead.getD 0) ∧ u32 data 21 = BitVec.ofInt 32 (x.leadPosition.getD 0) ∧
            u32 data 25 = BitVec.ofInt 32 (x.fence.getD 0) ∧
            (x.source = .envelope → u8 data 29 = 0x10) ∧ (∀ k, x.source = .row k → u8 data 29 = byteOf k) ∧
            (x.source = .absent → u8 data 29 = 0xFF) ∧
            u32 data 30 ++ u32 data 34 = BitVec.ofInt 64 (x.remaining.getD 0) ∧
            ∀ k, k < 16 → ((u16 data 38).getLsbD k = true ↔ k ∈ x.blocking) ∧
              ((u16 data 40).getLsbD k = true ↔ k ∈ x.inside)) ∧
          u8 data 42 = byteOf (s.members g.toNat).length)) ∧
    (ManagementArrives s bytes f 0x0D [] →
      ∃ data, exec (.readDeferred bytes) s = .next (s.managed.answered f 0x00 data).updateFaultn ∧
        data.length = 2 + 22 * s.deferred.length ∧ u8 data 0 = byteOf s.deferred.length ∧
        u8 data 1 = byteOf s.backoff ∧
        ∀ k e, s.deferred[k]? = some e →
          let o := 2 + 22 * k
          let presence := u8 data (o + 5)
          let rest := fun (state phase frames : Nat) (result : Option Byte) (reason : Option Half) (read : Option Word)
              (countdown : Nat) =>
            (u8 data (o + 10) = byteOf state ∧ u8 data (o + 11) = byteOf phase ∧ u8 data (o + 12) = byteOf frames ∧
              u8 data (o + 13) = result.getD 0 ∧ u16 data (o + 14) = reason.getD 0 ∧ u32 data (o + 16) = read.getD 0 ∧
              u16 data (o + 20) = BitVec.ofNat 16 countdown) ∧
            presence.getLsbD 1 = read.isSome ∧ presence.getLsbD 2 = reason.isSome ∧
            presence.getLsbD 4 = result.isSome ∧ presence.getLsbD 5 = result.isSome
          (u8 data o = e.key.node ∧ u16 data (o + 1) = e.key.object ∧ u8 data (o + 3) = e.key.subindex ∧
            u8 data (o + 4) = (if e.key.write then 1 else 0) ∧ u32 data (o + 6) = e.key.data.getD 0 ∧
            presence.getLsbD 0 = e.key.data.isSome ∧ presence.extractLsb' 6 2 = 0#2) ∧
          (e.status = .queued → rest 0 0 0 none none none 0 ∧ presence.getLsbD 3 = false) ∧
          (∀ n, e.status = .issued n → rest 1 0 n none none none 0 ∧ presence.getLsbD 3 = true) ∧
          (e.status = .readbackDue → rest 2 1 0 none none none 0 ∧ presence.getLsbD 3 = false) ∧
          (∀ n, e.status = .readbackSent n → rest 2 2 n none none none 0 ∧ presence.getLsbD 3 = true) ∧
          (∀ r read n, e.status = .complete r read n →
            presence.getLsbD 3 = false ∧
            (r = .ok → rest 3 0 0 (some 0x00) none read n) ∧
            (∀ why, r = .driveRefused why → rest 3 0 0 (some 0x02) (some why) read n) ∧
            (r = .moving → rest 3 0 0 (some 0x12) none read n) ∧
            (r = .noAnswer → rest 3 0 0 (some 0x13) none read n) ∧
            (r = .writeMismatch → rest 3 0 0 (some 0x14) none read n)))

/-- COPY ACTIVE copies every row of the active bank into the pending bank and answers DONE; while no bank is active it is
refused with NOT_ALLOWED and the pending bank is left as it was (R117). -/
def Obligations.CopyActiveCopiesEveryRow : Prop :=
  ∀ (s : State) (bytes f : Frame), ManagementArrives s bytes f 0x03 [] → s.pendingState = .editing → s.refresh = none →
    exec (.copyActive bytes) s =
      .next (if s.bankPresent then State.answered { s.managed with pendingBank := s.active } f 0x00 []
        else s.managed.answered f 0x05 []).updateFaultn

/-- DISCARD PENDING returns the pending bank to what cold reset leaves, touches nothing of the active bank, and answers
DONE (R118). -/
def Obligations.DiscardPendingRestoresResetContents : Prop :=
  ∀ (s : State) (bytes f : Frame), ManagementArrives s bytes f 0x04 [] → s.pendingState = .editing → s.refresh = none →
    exec (.discardPending bytes) s =
      .next (State.answered { s.managed with pendingBank := State.reset.pendingBank } f 0x00 []).updateFaultn

/-- ACTIVATE in EDITING stores the expected CRC and starts verification; its completion takes the bank to READY_TO_SWAP,
the CRC kept, exactly when no check fails, else back to EDITING with ACTIVATE_FAIL and one record; outside VERIFYING
there is no completion (R119, R121 to R123, R129). A completion taken while a local setpoint frame is in its processing
is made when that completes, on the states it leaves, and not at all after a RESTART (R121, R129; log entries 23 and
41). The nine checks are made in their order, the first that fails is the one reported, and within it the lowest
offending row or gang, of two rows with one node the higher (R121; of several pairs the one whose higher row is lowest,
log entry 40, DEDUCED). -/
def Obligations.ActivationRunsTheNineChecks : Prop :=
  let completed := fun (x : State) => match verifyFailure x with
    | none => { x with pendingState := .readyToSwap, pendingCrc := x.expectedCrc, expectedCrc := none }
    | some (reason, index) =>
      (State.setFlag { x with pendingState := .editing, expectedCrc := none } .activateFail).offer .bridge
        0xF005 (if reason ∈ [VerifyReason.emptyGang, .skewLimit, .envelope, .movingMembership] then index else none)
        (some (reason.value ++ byteOf (index.getD 0xFF) ++ 0#16))
  ((∀ (s : State) (bytes f : Frame) (hi lo : Byte), ManagementArrives s bytes f 0x05 [hi, lo] →
    s.pendingState = .editing → s.refresh = none →
    exec (.activate bytes) s =
      .next (State.answered { s.managed with pendingState := .verifying, expectedCrc := some (hi ++ lo) } f 0x01
        []).updateFaultn) ∧
  (∀ s : State,
    (s.pendingState ≠ .verifying → exec .verificationCompletion s = .next s.updateFaultn) ∧
    (s.pendingState = .verifying → s.waiting = [] →
      exec .verificationCompletion s = .next (completed s).updateFaultn) ∧
    (s.pendingState = .verifying → s.waiting ≠ [] → (∀ owed, Due.restart owed ∉ s.due) →
      exec .verificationCompletion s = .next (State.updateFaultn { s with due := s.due ++ [.verification] })) ∧
    (∀ owed, s.pendingState = .verifying → s.waiting ≠ [] → Due.restart owed ∈ s.due →
      exec .verificationCompletion s = .next s.updateFaultn) ∧
    takeDue s .verification = (if s.pendingState = .verifying then completed s else s) ∧
    (∀ w rest, s.waiting = w :: rest → s.due = [.verification] →
      let u : State := { processWaiting w { s with waiting := rest } with due := [], frameClass := none }
      u.pendingState = .verifying → exec .localSetpointProcessing s = .next (settle s (completed u))))) ∧
  (∀ s : State,
    let b := s.pendingBank
    let crc := s.expectedCrc = some (linkCrc b.image)
    let route := b.config.segment.toNat ≤ b.config.subordinate.toNat
    let checks : List (VerifyReason × Nat × (Nat → Prop)) :=
      [(.duplicateNode, 64, fun j => (b.axisRow j).valid = true ∧
          ∃ i, i < j ∧ (b.axisRow i).valid = true ∧ (b.axisRow i).node = (b.axisRow j).node),
       (.noGang, 64, fun i => (b.axisRow i).valid = true ∧ (b.gangRow (b.axisRow i).gang.toNat).valid = false),
       (.emptyGang, 8, fun g => (b.gangRow g).valid = true ∧
          ∀ i, i < 64 → (b.axisRow i).valid = true → (b.axisRow i).gang.toNat ≠ g),
       (.skewLimit, 8, fun g => (b.gangRow g).valid = true ∧
          (b.gangRow g).tripLimit.toNat < (b.gangRow g).band.toNat),
       (.envelope, 8, fun g => (b.gangRow g).valid = true ∧ (b.gangRow g).high ≤ (b.gangRow g).low),
       (.interlockGang, 16, fun k => (b.interlockRow k).valid = true ∧
          ((b.gangRow (b.interlockRow k).subject.toNat).valid = false ∨
           (b.gangRow (b.interlockRow k).condition.toNat).valid = false ∨
           (b.interlockRow k).subject = (b.interlockRow k).condition)),
       (.movingMembership, 8, fun g => ∃ r, s.gang g = some r ∧
          r.state ∈ [GangState.prewarn, .breakaway, .cruise, .approach, .settle, .holding] ∧
          ((b.gangRow g).valid = false ∨ b.memberSet g ≠ s.active.memberSet g))]
    let met := fun (check : VerifyReason × Nat × (Nat → Prop)) => ∀ k, k < check.2.1 → ¬check.2.2 k
    (verifyFailure s = none ↔ crc ∧ route ∧ ∀ check ∈ checks, met check) ∧
    (¬crc → verifyFailure s = some (.crcMismatch, none)) ∧
    (crc → ¬route → verifyFailure s = some (.route, none)) ∧
    (∀ (n k : Nat) (check : VerifyReason × Nat × (Nat → Prop)), crc → route → checks[n]? = some check →
      (∀ m earlier, m < n → checks[m]? = some earlier → met earlier) →
      k < check.2.1 → check.2.2 k → (∀ j, j < k → ¬check.2.2 j) → verifyFailure s = some (check.1, some k))) ∧
  (∀ (b : Bank) (g : Nat), b.memberSet g = (List.range 64).filterMap fun i =>
    if (b.axisRow i).valid = true ∧ (b.axisRow i).gang.toNat = g then some (i, (b.axisRow i).node) else none)

/-- An upset alters bytes of the image of the active bank and nothing the blocks keep beside it; a refresh in flight
reads some of them altered (R126). The refresh completes to IDLE where the CRC of what it read is the verified one, else
the active bank is lost with every record and TABLE_CRC set, the arbiter and the weather at their reset values, the
pending bank kept (R128, R96, R102, R142, R144, R155, R176). A completion taken while a local setpoint frame is in its
processing acts when that completes, and not at all after a RESTART (R127, R128; log entries 23 and 41). The model's
choices in it: which bytes a refresh in flight reads altered (log entry 10, DESIGN CHOICE), the draw number (8, DESIGN
CHOICE), that an upset has no effect while no bank is active (34) and that the frames that wait for processing are kept
at a mismatch (18, DEDUCED). -/
def Obligations.RefreshFindsAlteredBank : Prop :=
  let lost := fun (s t : State) =>
    (t.refresh = none ∧ t.bankPresent = false ∧ t.active = State.reset.active ∧ t.verifiedCrc = none ∧
      t.flags = s.flags ||| 0x040000#24) ∧
    ((∀ i, t.axis i = none ∧ t.forward i = none) ∧ (∀ g, t.gang g = none ∧ t.fence g = none) ∧
      t.deferred = [] ∧ t.backoff = 0 ∧ t.down.queue = []) ∧
    (t.watchdog = .stopped ∧ t.watchdogTimer = none ∧ t.substituteTimer = none ∧ t.olderArrival = none ∧
      t.newerArrival = none) ∧
    (t.windClass = 3 ∧ t.frameClass = none ∧ t.weatherStale = true ∧ t.weatherTimer = none ∧
      ∀ l ∈ t.lines, l.demand = .off ∧ l.level = false) ∧
    (t.openGrant = none ∧ t.highPtr = .low ∧ t.lowPtr = none ∧
      ∀ i, t.grantRec i = { count := 0, saturated := false }) ∧
    (t.pendingBank = s.pendingBank ∧ t.pendingState = s.pendingState ∧ t.up = s.up ∧ t.events = s.events ∧
      t.waiting = s.waiting ∧ t.lastCycle = s.lastCycle ∧ t.reportedNodes = s.reportedNodes ∧
      t.press = s.press ∧ t.operatorHold = s.operatorHold)
  ∀ s : State,
    (∀ changes, s.bankPresent = true →
      ∃ r, exec (.bankUpset changes) s =
          .next (State.updateFaultn
            { s with active := s.active.upset changes, refresh := r, draws := s.draws + 1 }) ∧
        (s.refresh = none → r = none) ∧
        ∀ read, s.refresh = some read → ∃ seen, seen.Sublist changes ∧ r = some (read.upset seen)) ∧
    (∀ changes, s.bankPresent = false → exec (.bankUpset changes) s = .next s.updateFaultn) ∧
    (s.refresh = none → exec .refreshCompletion s = .next s.updateFaultn) ∧
    (∀ read, s.refresh = some read → s.waiting = [] → s.verifiedCrc = some (linkCrc read.image) →
      exec .refreshCompletion s = .next (State.updateFaultn { s with refresh := none })) ∧
    (∀ read, s.refresh = some read → s.waiting = [] → s.verifiedCrc ≠ some (linkCrc read.image) →
      ∃ t, exec .refreshCompletion s = .next t ∧ lost s t) ∧
    (∀ read, s.refresh = some read → s.waiting ≠ [] → (∀ owed, Due.restart owed ∉ s.due) →
      exec .refreshCompletion s = .next (State.updateFaultn { s with due := s.due ++ [.refresh read] })) ∧
    (∀ owed, s.waiting ≠ [] → Due.restart owed ∈ s.due → exec .refreshCompletion s = .next s.updateFaultn) ∧
    (∀ read, s.refresh.isSome = true →
      (s.verifiedCrc = some (linkCrc read.image) → takeDue s (.refresh read) = { s with refresh := none }) ∧
      (s.verifiedCrc ≠ some (linkCrc read.image) → lost s (takeDue s (.refresh read)))) ∧
    (∀ read w rest, s.waiting = w :: rest → s.due = [.refresh read] →
      exec .localSetpointProcessing s =
        .next
          (settle s (takeDue { processWaiting w { s with waiting := rest } with due := [], frameClass := none }
            (.refresh read))))

/-- The layouts lose nothing: the bank read from the image of a bank is that bank, the image has 1,068 bytes, and the
image of the bank read from 1,068 bytes is those bytes, so an altered byte of the image is an altered byte of the bank
(R120, R126, section 10.5). -/
def Obligations.BankImageRoundTrips : Prop :=
  (∀ b : Bank, b.Shaped → b.image.length = 1068 ∧ Bank.ofImage b.image = b) ∧
  (∀ img : List Byte, img.length = 1068 → (Bank.ofImage img).image = img)

/-- Bank states and CRCs agree, a refresh runs only with a bank active and the pending bank in EDITING, and while no bank
is active no record, entry or downstream frame is kept and every line is off, at every step (R1, R30, R52, R72, R102,
R108, R127, R128, R130, R168). -/
def Obligations.EveryStepKeepsBankStatesSound : Prop :=
  ∀ s t : State, s.Shaped → s.BanksSound → s.Unconfigured → step s = .next t → t.BanksSound ∧ t.Unconfigured

/-! ### Deferred requests and the acyclic window -/

/-- A controller PARAM-REQ is answered at its arrival by the first case that applies: node out of range, protected write
to a moving gang, a repeat, a full table, else latched at the tail (R132, R133). The key is read from the fields of the
PARAM-REQ, and the fields of the PARAM-RSP stand at their places (R130, R188, section 10.2). -/
def Obligations.ParamRequestTakesFirstCase : Prop :=
  ∀ (s : State) (bytes f : Frame), Receives s .upstream bytes f → classify s .upstream f = .paramReq →
    let p := framePayload f
    let k := requestKey p
    let moving := ∃ i r, s.active.axisOfNode k.node = some i ∧ s.gang (s.active.axisRow i).gang.toNat = some r ∧
      r.state.moving = true
    let shut := k.write = true ∧ s.config.protectedLo.toNat ≤ k.object.toNat ∧
      k.object.toNat ≤ s.config.protectedHi.toNat ∧ moving
    let inRange := 1 ≤ k.node.toNat ∧ k.node.toNat ≤ 126
    let answers := fun (table : List DeferredEntry) (code : Byte) (reason : Half) (data : Option Word) =>
      exec (.paramReqArrival bytes) s =
        .next (State.hand { s.arrived .upstream with deferred := table } .upstream
          (buildFrame .paramRsp (answerPayload s.config.segment k code reason data))).updateFaultn
    (¬inRange → answers s.deferred 0x13 0 none) ∧
    (inRange → shut → answers s.deferred 0x12 0 none) ∧
    (inRange → ¬shut → ∀ e, s.deferred.find? (fun e => e.key == k) = some e →
      (∀ r data n, e.status = .complete r data n →
        answers (s.deferred.filter fun e => e.key != k) r.answer.value r.reason data) ∧
      ((∀ r data n, e.status ≠ .complete r data n) → answers s.deferred 0x10 0 none)) ∧
    (inRange → ¬shut → (∀ e ∈ s.deferred, e.key ≠ k) →
      (8 ≤ s.deferred.length → answers s.deferred 0x11 0 none) ∧
      (s.deferred.length < 8 → answers (s.deferred ++ [{ key := k, status := .queued }]) 0x10 0 none)) ∧
    (k.node = u8 p 1 ∧ k.object = u16 p 2 ∧ k.subindex = u8 p 4 ∧ (k.write = true ↔ u8 p 5 = 1) ∧
      (p.length = 6 → k.data = none) ∧ (p.length = 10 → k.data = some (u32 p 6))) ∧
    (∀ (code : Byte) (reason : Half) (data : Option Word),
      let q := answerPayload s.config.segment k code reason data
      q.length = (if data = none then 14 else 18) ∧ u8 q 0 = s.config.segment ∧ u8 q 1 = k.node ∧ u16 q 2 = k.object ∧
        u8 q 4 = k.subindex ∧ u8 q 5 = (if k.write then 1 else 0) ∧ u8 q 6 = code ∧ u16 q 7 = reason ∧
        u8 q 9 = (if k.data = none then 0 else 1) ∧ u32 q 10 = k.data.getD 0 ∧ (∀ d, data = some d → u32 q 14 = d) ∧
        buildFrame .paramRsp q =
          [0x5A#8, 0xA5#8, 0x32#8, byteOf q.length] ++ q ++ bytes16 (linkCrc ([0x32#8, byteOf q.length] ++ q)))

/-- A drive's answer that matches the request in flight acts by its result: OK completes a read, a write without
read-back, or a verifying read, and starts the read-back of a write that has it; DRIVE_BUSY requeues with backoff 2; any
other is a refusal. One that matches nothing is dropped with a LATE_RESPONSE record (R136 to R139, R167). Its key is read
from its fields, with write data where key-flags bit 0 is set (R189, section 10.2). That a refused
verifying read keeps no read data is log entry 39 (DESIGN CHOICE). -/
def Obligations.ParamResponseSettlesRequestInFlight : Prop :=
  ∀ (s : State) (bytes f : Frame), Receives s .downstream bytes f → classify s .downstream f = .paramRsp →
    let p := framePayload f
    let k := responseKey p
    let data := if p.length = 18 then some (u32 p 14) else none
    let leaves := fun (table : List DeferredEntry) (backoff : Nat) =>
      exec (.paramRspArrival bytes) s =
        .next (State.updateFaultn { s.arrived .downstream with deferred := table, backoff := backoff })
    let puts := fun (e : DeferredEntry) (status : DeferredStatus) =>
      s.deferred.map fun x => if x.key = e.key then { e with status := status } else x
    let period := if s.config.options.getLsbD 5 then 64 else 1024
    let readBack := match s.active.axisOfNode k.node with
      | some i => (s.active.axisRow i).readBack
      | none => s.config.readBackOthers
    (k.node = u8 p 1 ∧ k.object = u16 p 2 ∧ k.subindex = u8 p 4 ∧ (k.write = true ↔ u8 p 5 = 1) ∧
      k.data = (if (u8 p 9).getLsbD 0 then some (u32 p 10) else none)) ∧
    ((∀ e ∈ s.deferred, e.inFlightKey ≠ some k) →
      exec (.paramRspArrival bytes) s =
        .next ((s.arrived .downstream).offer .bridge 0xF006 none
          (some (k.node ++ k.subindex ++ k.object))).updateFaultn) ∧
    (∀ e, s.deferred.find? (fun e => e.inFlightKey == some k) = some e →
      (∀ n, e.status = .issued n → u8 p 6 = 0x00 →
        (e.key.write = false → leaves (puts e (.complete .ok data period)) s.backoff) ∧
        (e.key.write = true → readBack = true → leaves (puts e .readbackDue) s.backoff) ∧
        (e.key.write = true → readBack = false → leaves (puts e (.complete .ok none period)) s.backoff)) ∧
      (∀ n, e.status = .readbackSent n → u8 p 6 = 0x00 →
        leaves (puts e (.complete (if data = e.key.data then .ok else .writeMismatch) data period)) s.backoff) ∧
      (∀ n, e.status = .issued n → u8 p 6 = 0x01 →
        leaves ((s.deferred.filter fun x => x.key != e.key) ++ [{ e with status := .queued }]) 2) ∧
      (∀ n, e.status = .readbackSent n → u8 p 6 = 0x01 → leaves (puts e .readbackDue) 2) ∧
      (u8 p 6 = 0x02 → leaves (puts e (.complete (.driveRefused (u16 p 7)) none period)) s.backoff) ∧
      (2 < (u8 p 6).toNat → leaves (puts e (.complete (.driveRefused 0) none period)) s.backoff))

/-- At a local setpoint processing the deferred request unit makes its step before the arbiter: the backoff falls
(R139), the request in flight ages by one frame and at 8 completes with NO_ANSWER (R140), a QUEUED protected write to a
drive whose gang moves completes with MOVING (R134), every countdown falls, one just started too, and an entry at 0 is
freed with DEFERRED_DISCARD and one record, the rest keeping their order (R141). The rows DEFERRED_TIMEOUT and
DISCARD_EXPIRY do their part of this step standing alone (log entry 22, DESIGN CHOICE), and that the records of several
discards come in the order of the table is log entry 11 (DESIGN CHOICE). -/
def Obligations.TimeoutsAndDiscardsActOnTheirEntries : Prop :=
  let record := fun (s : State) (e : DeferredEntry) =>
    ({ source := .bridge, code := 0xF007, gang := none,
       data := some (e.key.node ++ e.key.subindex ++ e.key.object), cycle := s.lastCycle } : EventRecord)
  let spent := fun (e : DeferredEntry) => match e.status with
    | .complete _ _ n => n == 0
    | _ => false
  (∀ (s t : State) (w : WaitingFrame) (rest : List WaitingFrame), Processes s w rest →
    exec .localSetpointProcessing s = .next t →
    t.backoff = s.backoff - 1 ∧
    ∃ x : State, x.deferred = s.deferred ∧ x.backoff = s.backoff ∧ x.active = s.active ∧
      (∀ g, x.gang g = t.gang g) ∧ t.deferred = (arbitrate (deferredStep x)).1.deferred) ∧
  (∀ (s : State) (k : ParamKey), s.protectedMoving k = true ↔
    k.write = true ∧ s.config.protectedLo.toNat ≤ k.object.toNat ∧ k.object.toNat ≤ s.config.protectedHi.toNat ∧
      ∃ i r, s.active.axisOfNode k.node = some i ∧ s.gang (s.active.axisRow i).gang.toNat = some r ∧
        r.state.moving = true) ∧
  (∀ s : State, s.events.length + s.deferred.length ≤ 32 →
    let period := if s.config.options.getLsbD 5 then 64 else 1024
    let after := s.deferred.map fun e =>
      { e with status := match e.status with
          | .queued => if s.protectedMoving e.key then .complete .moving none (period - 1) else .queued
          | .issued n => if 8 ≤ n + 1 then .complete .noAnswer none (period - 1) else .issued (n + 1)
          | .readbackDue => .readbackDue
          | .readbackSent n => if 8 ≤ n + 1 then .complete .noAnswer none (period - 1) else .readbackSent (n + 1)
          | .complete r d n => .complete r d (n - 1) }
    deferredStep s =
      { s with
        backoff := s.backoff - 1
        deferred := after.filter fun e => !spent e
        flags := if after.any spent then s.flags ||| 0x010000#24 else s.flags
        events := s.events ++ (after.filter spent).map (record s) }) ∧
  (∀ s : State,
    exec .deferredTimeout s =
      .next (State.updateFaultn
        { s with
          deferred := s.deferred.map fun e =>
            match e.status with
            | .issued n | .readbackSent n =>
              if 8 ≤ n then { e with status := .complete .noAnswer none (if s.config.options.getLsbD 5 then 64 else 1024) }
              else e
            | _ => e }) ∧
    (s.deferred.filter spent = [] → exec .discardExpiry s = .next s.updateFaultn) ∧
    (s.deferred.filter spent ≠ [] → s.events.length + (s.deferred.filter spent).length ≤ 32 →
      exec .discardExpiry s =
        .next (State.updateFaultn
          { s with
            deferred := s.deferred.filter fun e => !spent e
            flags := s.flags ||| 0x010000#24
            events := s.events ++ (s.deferred.filter spent).map (record s) })))

/-- No two entries have equal keys, at most one is ISSUED or READBACK, and their counts stay in range, at every step
(R130, R131). -/
def Obligations.EveryStepKeepsDeferredTableSound : Prop :=
  ∀ s t : State, s.DeferredSound → step s = .next t → t.DeferredSound

/-- The acyclic window goes to one party at most. An axis is a candidate with a valid row, EVENT_PENDING set, STALE and
saturation clear; the bridge with no backoff, nothing in flight and an entry to send (R135, R145). With a candidate the
HIGH rotation stops at the first one after its pointer, which becomes the pointer: an axis is granted and opens a grant;
at LOW the LOW rotation stops at the first LOW-tier candidate after its own pointer; the bridge has the window with 127
in the grant field, and sends the due read-back, else the OLDEST queued entry, which becomes SENT or ISSUED. With none,
nothing is granted and the pointers stay (R135, R146, R147). A local setpoint processing makes this choice after its
deferred step, with the open grant closed before, and its frame and the PARAM-REQ behind it carry what is chosen (R145,
R148). The fields of the PARAM-REQ stand at their places (R188, section 10.2). -/
def Obligations.WindowGoesToOneCandidateAtMost : Prop :=
  (∀ (s : State) (w : WaitingFrame) (rest : List WaitingFrame), Processes s w rest →
    s.down.queue.length ≤ 14 → ¬Misfit .setpoint (framePayload w.bytes) →
    ∃ (t x : State) (frame : Frame), exec .localSetpointProcessing s = .next t ∧
      (x.active = s.active ∧ x.deferred = s.deferred ∧ x.backoff = s.backoff ∧ x.highPtr = s.highPtr ∧
        x.lowPtr = s.lowPtr ∧ x.openGrant = s.openGrant ∧ x.grantRecs = s.grantRecs ∧ x.axes = t.axes ∧
        x.gangs = t.gangs) ∧
      let out := arbitrate (deferredStep x)
      (t.highPtr = out.1.highPtr ∧ t.lowPtr = out.1.lowPtr ∧ t.openGrant = out.1.openGrant ∧
        t.grantRecs = out.1.grantRecs ∧ t.deferred = out.1.deferred) ∧
      t.down.queue = s.down.queue ++ frame :: out.2.2.toList ∧ u8 (framePayload frame) 2 = out.2.1) ∧
  (∀ s : State, arbitrate s = arbitrate (closeGrant s) ∧ (closeGrant s).openGrant = none) ∧
  (∀ (segment : Byte) (k : ParamKey),
    let q := requestPayload segment k
    q.length = (if k.data = none then 6 else 10) ∧ u8 q 0 = segment ∧ u8 q 1 = k.node ∧ u16 q 2 = k.object ∧
      u8 q 4 = k.subindex ∧ u8 q 5 = (if k.write then 1 else 0) ∧ (∀ d, k.data = some d → u32 q 6 = d) ∧
      buildFrame .paramReq q =
        [0x5A#8, 0xA5#8, 0x31#8, byteOf q.length] ++ q ++ bytes16 (linkCrc ([0x31#8, byteOf q.length] ++ q))) ∧
  ∀ s : State, s.PointersSound → s.openGrant = none →
    let out := arbitrate s
    let axis := fun i => i < 64 ∧ (s.active.axisRow i).valid = true ∧ (s.grantRec i).saturated = false ∧
      ∃ a, s.axis i = some a ∧ a.eventPending = true ∧ a.stale = false
    let bridge := s.backoff = 0 ∧ (∀ e ∈ s.deferred, e.inFlight = false) ∧
      ∃ e ∈ s.deferred, e.status = .readbackDue ∨ e.status = .queued
    let low := fun i => axis i ∧ (s.active.axisRow i).flags.getLsbD 2 = true
    let high := fun x : HighPointer => match x with
      | .bridge => bridge
      | .row i => axis i ∧ (s.active.axisRow i).flags.getLsbD 2 = false
      | .low => ∃ i, low i
    let place := fun x : HighPointer => match x with
      | .bridge => 0
      | .row i => i + 1
      | .low => 65
    let turn := fun x => (place x + 65 - place s.highPtr) % 66
    let lowTurn := fun i => match s.lowPtr with
      | none => i
      | some m => (i + 63 - m) % 64
    let opens := fun i => out.1 = { s with
        highPtr := out.1.highPtr, lowPtr := out.1.lowPtr,
        openGrant := some { row := i, node := (s.active.axisRow i).node, seen := false } } ∧
      out.2.1 = (s.active.axisRow i).node ∧ out.2.2 = none
    ((∀ x, ¬high x) → out = (s, 127, none)) ∧
    ((∃ x, high x) → high out.1.highPtr ∧ (∀ x, high x → turn out.1.highPtr ≤ turn x) ∧
      (∀ i, out.1.highPtr = .row i → opens i ∧ out.1.lowPtr = s.lowPtr) ∧
      (out.1.highPtr = .low → ∃ i, low i ∧ (∀ j, low j → lowTurn i ≤ lowTurn j) ∧ opens i ∧ out.1.lowPtr = some i) ∧
      (out.1.highPtr = .bridge →
        ∃ e, (s.deferred.find? (fun x => x.status = .readbackDue) = some e ∨
            (∀ x ∈ s.deferred, x.status ≠ .readbackDue) ∧ s.deferred.find? (fun x => x.status = .queued) = some e) ∧
          out.1 = { s with
            highPtr := .bridge
            deferred := s.deferred.map fun x => if x.key = e.key then
              { e with status := if e.status = .readbackDue then .readbackSent 0 else .issued 0 } else x } ∧
          out.2.1 = 127 ∧
          out.2.2 = some (buildFrame .paramReq (requestPayload s.config.segment
            (if e.status = .readbackDue then { e.key with write := false, data := none } else e.key)))))

/-- An EVENT of segment S joins the event queue with its sender, code, gang and data, and marks the open grant of its
sender as seen where no local setpoint frame has arrived since (log entry 14, DEDUCED); nothing is forwarded. At each
local setpoint processing the open grant closes with the count of its axis back at 0 where no event was seen, one higher
where one was, and saturated at 6 with EVENT_SATURATED and one record. CLEAR SATURATION clears count and mark of an axis
row that has a record, the flag kept, at once, or, where a local setpoint frame has been taken first, at the completion
of its processing, so that the axis is first a candidate at the next frame (the time in which a frame is in its
processing by log entry 41, DEDUCED); any other index is BAD_INDEX (R148, R149, R166, R180). That the record of an EVENT
names its node as it stands, outside 1 to 126 too, is log entry 35 (DEDUCED). -/
def Obligations.EventsOfGrantsCountToSaturation : Prop :=
  (∀ (s : State) (bytes f : Frame), Receives s .downstream bytes f → classify s .downstream f = .event →
    let p := framePayload f
    ∃ offered : State,
      offered = (s.arrived .downstream).offer (.node (u8 p 1)) (u16 p 2)
        ((s.active.axisOfNode (u8 p 1)).map fun i => (s.active.axisRow i).gang.toNat)
        (if p.length = 8 then some (u32 p 4) else none) ∧
      exec (.eventArrival bytes) s =
        .next (State.updateFaultn
          { offered with
            openGrant := s.openGrant.map fun o =>
              { o with seen := o.seen || (o.node == u8 p 1 && s.waiting.isEmpty) } })) ∧
  (∀ (s : State) (o : OpenGrant), s.openGrant = some o →
    let closes := fun (r : GrantRec) => { s with openGrant := none, grantRecs := s.grantRecs.set o.row r }
    (o.seen = false → closeGrant s = closes { s.grantRec o.row with count := 0 }) ∧
    (o.seen = true → (s.grantRec o.row).count < 5 →
      closeGrant s = closes { s.grantRec o.row with count := (s.grantRec o.row).count + 1 }) ∧
    (o.seen = true → 5 ≤ (s.grantRec o.row).count →
      closeGrant s =
        (State.setFlag (closes { count := 6, saturated := true }) .eventSaturated).offer .bridge 0xF008 none
          (some (o.node ++ 0#24)))) ∧
  (∀ s : State, arbitrate s = arbitrate (closeGrant s)) ∧
  (∀ (s t : State) (w : WaitingFrame) (rest : List WaitingFrame), Processes s w rest →
    exec .localSetpointProcessing s = .next t →
    t.grantRecs = (closeGrant s).grantRecs ∧
    ∀ o, s.openGrant = some o → o.seen = true → 5 ≤ (s.grantRec o.row).count → t.flag .eventSaturated = true) ∧
  (∀ (s : State) (bytes f : Frame) (i : Byte), ManagementArrives s bytes f 0x0A [i] →
    let answers := fun (t : State) (result : Byte) =>
      exec (.clearSaturation bytes) s = .next (t.answered f result []).updateFaultn
    (s.axis i.toNat = none → answers s.managed 0x03) ∧
    (s.axis i.toNat ≠ none →
      (s.waiting = [] →
        answers { s.managed with grantRecs := s.grantRecs.set i.toNat { count := 0, saturated := false } } 0x00) ∧
      (s.waiting ≠ [] → (∀ owed, Due.restart owed ∉ s.due) →
        answers { s.managed with due := s.due ++ [.saturation i.toNat] } 0x00) ∧
      (∀ owed, s.waiting ≠ [] → Due.restart owed ∈ s.due → answers s.managed 0x00))) ∧
  (∀ (s : State) (row : Nat),
    takeDue s (.saturation row) =
      { s with grantRecs := s.grantRecs.set row { count := 0, saturated := false } }) ∧
  (∀ (s : State) (w : WaitingFrame) (rest : List WaitingFrame) (row : Nat), s.waiting = w :: rest →
    s.due = [.saturation row] →
    exec .localSetpointProcessing s =
      .next (settle s (takeDue { processWaiting w { s with waiting := rest } with due := [], frameClass := none }
        (.saturation row))))

/-! ### Restart and unknown commands -/

/-- RESTART is answered DONE, and then the warm restart is made, at once where no local setpoint frame is in its
processing, else at the completion of that processing, its frames handed over. A further RESTART taken during that
processing is answered after the effects of the one before, and then has its own; what waits for the completion acts in
the order taken, the table store's own completions among it (R121, R128). WARM_RESTART makes a restart too, but not in
reset. It sets every block as its rule says and keeps ports, banks, wind, press and last cycle number (R28, R69, R88,
R96, R101, R106, R129, R142, R144, R177, R186, R187). When a restart waits, and that a further answer waits with it, is
log entry 23 (DEDUCED), as is that WARM_RESTART acts at once; and that the frames waiting for processing are kept is log
entry 18 (DEDUCED). -/
def Obligations.RestartIsAnsweredThenMade : Prop :=
  ∀ s : State,
    (∀ bytes f, ManagementArrives s bytes f 0x0E [] →
      (s.waiting = [] →
        ∃ t, exec (.restart bytes) s = .next t ∧ Restarted (s.managed.answered f 0x00 []) t) ∧
      (s.waiting ≠ [] → (∀ owed, Due.restart owed ∉ s.due) →
        exec (.restart bytes) s =
          .next (State.updateFaultn { s.managed.answered f 0x00 [] with due := s.due ++ [.restart none] })) ∧
      (∀ owed, s.waiting ≠ [] → Due.restart owed ∈ s.due →
        exec (.restart bytes) s =
          .next (State.updateFaultn { s.managed with due := s.due ++ [.restart (some (mgmtRsp f 0x00 []))] }))) ∧
    (∀ w rest, s.waiting = w :: rest →
      let done := processWaiting w { s with waiting := rest }
      (s.due = [] → exec .localSetpointProcessing s = .next (settle s { done with frameClass := none })) ∧
      exec .localSetpointProcessing s = .next (settle s (s.due.foldl takeDue { done with due := [], frameClass := none })) ∧
      (∀ answers : List Frame, s.due = .restart none :: answers.map (fun answer => .restart (some answer)) →
        ∃ t, exec .localSetpointProcessing s = .next t ∧
          RestartedInTurn { done with due := [], frameClass := none } answers t)) ∧
    (Restarted s (takeDue s (.restart none)) ∧
      ∀ answer, Restarted (s.hand .upstream answer) (takeDue s (.restart (some answer)))) ∧
    (s.inReset = true → exec .warmRestart s = .next s.updateFaultn) ∧
    (s.inReset = false → ∃ t, exec .warmRestart s = .next t ∧ Restarted s t)

/-- A command value that names none of the fourteen is answered UNKNOWN_COMMAND, a known one with arguments of another
length than its layout's BAD_FIELD, a TABLE WRITE of another row length among them, in every state of the tables; during
the refresh every table command, and in VERIFYING or READY_TO_SWAP every one but TABLE READ, is answered BUSY. The
unknown and the busy set INVALID_MGMT; nothing else happens (R113, R184; argument lengths first, log entry 15). -/
def Obligations.CommandsTurnedAwayOnlyAnswer : Prop :=
  (∀ (s : State) (bytes f : Frame) (command : Byte) (args : List Byte) (c : Instr),
    ManagementArrives s bytes f command args →
    (c, command) ∈ [(Instr.tableWrite bytes, 0x01#8), (.tableRead bytes, 0x02#8), (.copyActive bytes, 0x03#8),
      (.discardPending bytes, 0x04#8), (.activate bytes, 0x05#8)] →
    (∀ known, commandOf command = some known → argumentsFit known args = true) →
    (s.refresh.isSome = true ∨ (s.pendingState ≠ .editing ∧ command ≠ 0x02)) →
    exec c s = .next ((s.managed.setFlag .invalidMgmt).answered f 0x02 []).updateFaultn) ∧
  (∀ (s : State) (bytes f : Frame) (command : Byte) (args : List Byte), ManagementArrives s bytes f command args →
    ((command.toNat = 0 ∨ 14 < command.toNat) →
      exec (.unknownCommand bytes) s =
        .next ((s.managed.setFlag .invalidMgmt).answered f 0x06 []).updateFaultn) ∧
    (∀ (c : Instr) (length : Nat),
      (c, command.toNat, length) ∈
        [(Instr.tableRead bytes, 2, 3), (.copyActive bytes, 3, 0), (.discardPending bytes, 4, 0),
         (.activate bytes, 5, 2), (.gangHold bytes, 6, 1), (.gangRelease bytes, 7, 1), (.clearTrip bytes, 8, 1),
         (.clearFlags bytes, 9, 4), (.clearSaturation bytes, 10, 1), (.readAxis bytes, 11, 1),
         (.readGang bytes, 12, 1), (.readDeferred bytes, 13, 0), (.restart bytes, 14, 0)] →
      args.length ≠ length → exec c s = .next (s.managed.answered f 0x04 []).updateFaultn) ∧
    (command = 0x01 → args.length < 2 →
      exec (.tableWrite bytes) s = .next (s.managed.answered f 0x04 []).updateFaultn) ∧
    (∀ table, command = 0x01 → tableOf (u8 args 0) = some table → args.length ≠ 2 + table.rowBytes →
      exec (.tableWrite bytes) s = .next (s.managed.answered f 0x04 []).updateFaultn))

end Statements
end

