-- ==== Sys2Proof/Laws/State.lean ====
section
/-!
SUPPORT. What each named update leaves: one lemma for each field it does not touch, and the field it sets. No proof need
unfold a record update.
-/
namespace Sys2Proof.Machine

variable (s : State)

/-! ### setFlag -/
@[simp] theorem State.setFlag_pending (f : Flag) : (s.setFlag f).pending = s.pending := rfl
@[simp] theorem State.setFlag_now (f : Flag) : (s.setFlag f).now = s.now := rfl
@[simp] theorem State.setFlag_draws (f : Flag) : (s.setFlag f).draws = s.draws := rfl
@[simp] theorem State.setFlag_up (f : Flag) : (s.setFlag f).up = s.up := rfl
@[simp] theorem State.setFlag_down (f : Flag) : (s.setFlag f).down = s.down := rfl
@[simp] theorem State.setFlag_waiting (f : Flag) : (s.setFlag f).waiting = s.waiting := rfl
@[simp] theorem State.setFlag_bankPresent (f : Flag) : (s.setFlag f).bankPresent = s.bankPresent := rfl
@[simp] theorem State.setFlag_active (f : Flag) : (s.setFlag f).active = s.active := rfl
@[simp] theorem State.setFlag_verifiedCrc (f : Flag) : (s.setFlag f).verifiedCrc = s.verifiedCrc := rfl
@[simp] theorem State.setFlag_pendingBank (f : Flag) : (s.setFlag f).pendingBank = s.pendingBank := rfl
@[simp] theorem State.setFlag_pendingState (f : Flag) : (s.setFlag f).pendingState = s.pendingState := rfl
@[simp] theorem State.setFlag_expectedCrc (f : Flag) : (s.setFlag f).expectedCrc = s.expectedCrc := rfl
@[simp] theorem State.setFlag_pendingCrc (f : Flag) : (s.setFlag f).pendingCrc = s.pendingCrc := rfl
@[simp] theorem State.setFlag_refresh (f : Flag) : (s.setFlag f).refresh = s.refresh := rfl
@[simp] theorem State.setFlag_axes (f : Flag) : (s.setFlag f).axes = s.axes := rfl
@[simp] theorem State.setFlag_forwards (f : Flag) : (s.setFlag f).forwards = s.forwards := rfl
@[simp] theorem State.setFlag_reportedNodes (f : Flag) : (s.setFlag f).reportedNodes = s.reportedNodes := rfl
@[simp] theorem State.setFlag_gangs (f : Flag) : (s.setFlag f).gangs = s.gangs := rfl
@[simp] theorem State.setFlag_fences (f : Flag) : (s.setFlag f).fences = s.fences := rfl
@[simp] theorem State.setFlag_windClass (f : Flag) : (s.setFlag f).windClass = s.windClass := rfl
@[simp] theorem State.setFlag_weatherStale (f : Flag) : (s.setFlag f).weatherStale = s.weatherStale := rfl
@[simp] theorem State.setFlag_weatherTimer (f : Flag) : (s.setFlag f).weatherTimer = s.weatherTimer := rfl
@[simp] theorem State.setFlag_press (f : Flag) : (s.setFlag f).press = s.press := rfl
@[simp] theorem State.setFlag_pressTime (f : Flag) : (s.setFlag f).pressTime = s.pressTime := rfl
@[simp] theorem State.setFlag_longTime (f : Flag) : (s.setFlag f).longTime = s.longTime := rfl
@[simp] theorem State.setFlag_operatorHold (f : Flag) : (s.setFlag f).operatorHold = s.operatorHold := rfl
@[simp] theorem State.setFlag_lines (f : Flag) : (s.setFlag f).lines = s.lines := rfl
@[simp] theorem State.setFlag_deferred (f : Flag) : (s.setFlag f).deferred = s.deferred := rfl
@[simp] theorem State.setFlag_backoff (f : Flag) : (s.setFlag f).backoff = s.backoff := rfl
@[simp] theorem State.setFlag_highPtr (f : Flag) : (s.setFlag f).highPtr = s.highPtr := rfl
@[simp] theorem State.setFlag_lowPtr (f : Flag) : (s.setFlag f).lowPtr = s.lowPtr := rfl
@[simp] theorem State.setFlag_openGrant (f : Flag) : (s.setFlag f).openGrant = s.openGrant := rfl
@[simp] theorem State.setFlag_grantRecs (f : Flag) : (s.setFlag f).grantRecs = s.grantRecs := rfl
@[simp] theorem State.setFlag_watchdog (f : Flag) : (s.setFlag f).watchdog = s.watchdog := rfl
@[simp] theorem State.setFlag_watchdogTimer (f : Flag) : (s.setFlag f).watchdogTimer = s.watchdogTimer := rfl
@[simp] theorem State.setFlag_olderArrival (f : Flag) : (s.setFlag f).olderArrival = s.olderArrival := rfl
@[simp] theorem State.setFlag_newerArrival (f : Flag) : (s.setFlag f).newerArrival = s.newerArrival := rfl
@[simp] theorem State.setFlag_substituteTimer (f : Flag) : (s.setFlag f).substituteTimer = s.substituteTimer := rfl
@[simp] theorem State.setFlag_lastCycle (f : Flag) : (s.setFlag f).lastCycle = s.lastCycle := rfl
@[simp] theorem State.setFlag_flags (f : Flag) : (s.setFlag f).flags = s.flags ||| f.mask := rfl
@[simp] theorem State.setFlag_events (f : Flag) : (s.setFlag f).events = s.events := rfl
@[simp] theorem State.setFlag_due (f : Flag) : (s.setFlag f).due = s.due := rfl
@[simp] theorem State.setFlag_frameClass (f : Flag) : (s.setFlag f).frameClass = s.frameClass := rfl
@[simp] theorem State.setFlag_inReset (f : Flag) : (s.setFlag f).inReset = s.inReset := rfl
@[simp] theorem State.setFlag_holdnLow (f : Flag) : (s.setFlag f).holdnLow = s.holdnLow := rfl
@[simp] theorem State.setFlag_sampled (f : Flag) : (s.setFlag f).sampled = s.sampled := rfl
@[simp] theorem State.setFlag_faultnLow (f : Flag) : (s.setFlag f).faultnLow = s.faultnLow := rfl

/-! ### updateFaultn -/
@[simp] theorem State.updateFaultn_pending : (s.updateFaultn).pending = s.pending := rfl
@[simp] theorem State.updateFaultn_now : (s.updateFaultn).now = s.now := rfl
@[simp] theorem State.updateFaultn_draws : (s.updateFaultn).draws = s.draws := rfl
@[simp] theorem State.updateFaultn_up : (s.updateFaultn).up = s.up := rfl
@[simp] theorem State.updateFaultn_down : (s.updateFaultn).down = s.down := rfl
@[simp] theorem State.updateFaultn_waiting : (s.updateFaultn).waiting = s.waiting := rfl
@[simp] theorem State.updateFaultn_bankPresent : (s.updateFaultn).bankPresent = s.bankPresent := rfl
@[simp] theorem State.updateFaultn_active : (s.updateFaultn).active = s.active := rfl
@[simp] theorem State.updateFaultn_verifiedCrc : (s.updateFaultn).verifiedCrc = s.verifiedCrc := rfl
@[simp] theorem State.updateFaultn_pendingBank : (s.updateFaultn).pendingBank = s.pendingBank := rfl
@[simp] theorem State.updateFaultn_pendingState : (s.updateFaultn).pendingState = s.pendingState := rfl
@[simp] theorem State.updateFaultn_expectedCrc : (s.updateFaultn).expectedCrc = s.expectedCrc := rfl
@[simp] theorem State.updateFaultn_pendingCrc : (s.updateFaultn).pendingCrc = s.pendingCrc := rfl
@[simp] theorem State.updateFaultn_refresh : (s.updateFaultn).refresh = s.refresh := rfl
@[simp] theorem State.updateFaultn_axes : (s.updateFaultn).axes = s.axes := rfl
@[simp] theorem State.updateFaultn_forwards : (s.updateFaultn).forwards = s.forwards := rfl
@[simp] theorem State.updateFaultn_reportedNodes : (s.updateFaultn).reportedNodes = s.reportedNodes := rfl
@[simp] theorem State.updateFaultn_gangs : (s.updateFaultn).gangs = s.gangs := rfl
@[simp] theorem State.updateFaultn_fences : (s.updateFaultn).fences = s.fences := rfl
@[simp] theorem State.updateFaultn_windClass : (s.updateFaultn).windClass = s.windClass := rfl
@[simp] theorem State.updateFaultn_weatherStale : (s.updateFaultn).weatherStale = s.weatherStale := rfl
@[simp] theorem State.updateFaultn_weatherTimer : (s.updateFaultn).weatherTimer = s.weatherTimer := rfl
@[simp] theorem State.updateFaultn_press : (s.updateFaultn).press = s.press := rfl
@[simp] theorem State.updateFaultn_pressTime : (s.updateFaultn).pressTime = s.pressTime := rfl
@[simp] theorem State.updateFaultn_longTime : (s.updateFaultn).longTime = s.longTime := rfl
@[simp] theorem State.updateFaultn_operatorHold : (s.updateFaultn).operatorHold = s.operatorHold := rfl
@[simp] theorem State.updateFaultn_lines : (s.updateFaultn).lines = s.lines := rfl
@[simp] theorem State.updateFaultn_deferred : (s.updateFaultn).deferred = s.deferred := rfl
@[simp] theorem State.updateFaultn_backoff : (s.updateFaultn).backoff = s.backoff := rfl
@[simp] theorem State.updateFaultn_highPtr : (s.updateFaultn).highPtr = s.highPtr := rfl
@[simp] theorem State.updateFaultn_lowPtr : (s.updateFaultn).lowPtr = s.lowPtr := rfl
@[simp] theorem State.updateFaultn_openGrant : (s.updateFaultn).openGrant = s.openGrant := rfl
@[simp] theorem State.updateFaultn_grantRecs : (s.updateFaultn).grantRecs = s.grantRecs := rfl
@[simp] theorem State.updateFaultn_watchdog : (s.updateFaultn).watchdog = s.watchdog := rfl
@[simp] theorem State.updateFaultn_watchdogTimer : (s.updateFaultn).watchdogTimer = s.watchdogTimer := rfl
@[simp] theorem State.updateFaultn_olderArrival : (s.updateFaultn).olderArrival = s.olderArrival := rfl
@[simp] theorem State.updateFaultn_newerArrival : (s.updateFaultn).newerArrival = s.newerArrival := rfl
@[simp] theorem State.updateFaultn_substituteTimer : (s.updateFaultn).substituteTimer = s.substituteTimer := rfl
@[simp] theorem State.updateFaultn_lastCycle : (s.updateFaultn).lastCycle = s.lastCycle := rfl
@[simp] theorem State.updateFaultn_flags : (s.updateFaultn).flags = s.flags := rfl
@[simp] theorem State.updateFaultn_events : (s.updateFaultn).events = s.events := rfl
@[simp] theorem State.updateFaultn_due : (s.updateFaultn).due = s.due := rfl
@[simp] theorem State.updateFaultn_frameClass : (s.updateFaultn).frameClass = s.frameClass := rfl
@[simp] theorem State.updateFaultn_inReset : (s.updateFaultn).inReset = s.inReset := rfl
@[simp] theorem State.updateFaultn_holdnLow : (s.updateFaultn).holdnLow = s.holdnLow := rfl
@[simp] theorem State.updateFaultn_sampled : (s.updateFaultn).sampled = s.sampled := rfl
@[simp] theorem State.updateFaultn_faultnLow : (s.updateFaultn).faultnLow = s.summary := rfl

/-! ### setPort -/
@[simp] theorem State.setPort_pending (p : Port) (v : PortState) : (s.setPort p v).pending = s.pending := by cases p <;> rfl
@[simp] theorem State.setPort_now (p : Port) (v : PortState) : (s.setPort p v).now = s.now := by cases p <;> rfl
@[simp] theorem State.setPort_draws (p : Port) (v : PortState) : (s.setPort p v).draws = s.draws := by cases p <;> rfl
@[simp] theorem State.setPort_waiting (p : Port) (v : PortState) : (s.setPort p v).waiting = s.waiting := by cases p <;> rfl
@[simp] theorem State.setPort_bankPresent (p : Port) (v : PortState) : (s.setPort p v).bankPresent = s.bankPresent := by cases p <;> rfl
@[simp] theorem State.setPort_active (p : Port) (v : PortState) : (s.setPort p v).active = s.active := by cases p <;> rfl
@[simp] theorem State.setPort_verifiedCrc (p : Port) (v : PortState) : (s.setPort p v).verifiedCrc = s.verifiedCrc := by cases p <;> rfl
@[simp] theorem State.setPort_pendingBank (p : Port) (v : PortState) : (s.setPort p v).pendingBank = s.pendingBank := by cases p <;> rfl
@[simp] theorem State.setPort_pendingState (p : Port) (v : PortState) : (s.setPort p v).pendingState = s.pendingState := by cases p <;> rfl
@[simp] theorem State.setPort_expectedCrc (p : Port) (v : PortState) : (s.setPort p v).expectedCrc = s.expectedCrc := by cases p <;> rfl
@[simp] theorem State.setPort_pendingCrc (p : Port) (v : PortState) : (s.setPort p v).pendingCrc = s.pendingCrc := by cases p <;> rfl
@[simp] theorem State.setPort_refresh (p : Port) (v : PortState) : (s.setPort p v).refresh = s.refresh := by cases p <;> rfl
@[simp] theorem State.setPort_axes (p : Port) (v : PortState) : (s.setPort p v).axes = s.axes := by cases p <;> rfl
@[simp] theorem State.setPort_forwards (p : Port) (v : PortState) : (s.setPort p v).forwards = s.forwards := by cases p <;> rfl
@[simp] theorem State.setPort_reportedNodes (p : Port) (v : PortState) : (s.setPort p v).reportedNodes = s.reportedNodes := by cases p <;> rfl
@[simp] theorem State.setPort_gangs (p : Port) (v : PortState) : (s.setPort p v).gangs = s.gangs := by cases p <;> rfl
@[simp] theorem State.setPort_fences (p : Port) (v : PortState) : (s.setPort p v).fences = s.fences := by cases p <;> rfl
@[simp] theorem State.setPort_windClass (p : Port) (v : PortState) : (s.setPort p v).windClass = s.windClass := by cases p <;> rfl
@[simp] theorem State.setPort_weatherStale (p : Port) (v : PortState) : (s.setPort p v).weatherStale = s.weatherStale := by cases p <;> rfl
@[simp] theorem State.setPort_weatherTimer (p : Port) (v : PortState) : (s.setPort p v).weatherTimer = s.weatherTimer := by cases p <;> rfl
@[simp] theorem State.setPort_press (p : Port) (v : PortState) : (s.setPort p v).press = s.press := by cases p <;> rfl
@[simp] theorem State.setPort_pressTime (p : Port) (v : PortState) : (s.setPort p v).pressTime = s.pressTime := by cases p <;> rfl
@[simp] theorem State.setPort_longTime (p : Port) (v : PortState) : (s.setPort p v).longTime = s.longTime := by cases p <;> rfl
@[simp] theorem State.setPort_operatorHold (p : Port) (v : PortState) : (s.setPort p v).operatorHold = s.operatorHold := by cases p <;> rfl
@[simp] theorem State.setPort_lines (p : Port) (v : PortState) : (s.setPort p v).lines = s.lines := by cases p <;> rfl
@[simp] theorem State.setPort_deferred (p : Port) (v : PortState) : (s.setPort p v).deferred = s.deferred := by cases p <;> rfl
@[simp] theorem State.setPort_backoff (p : Port) (v : PortState) : (s.setPort p v).backoff = s.backoff := by cases p <;> rfl
@[simp] theorem State.setPort_highPtr (p : Port) (v : PortState) : (s.setPort p v).highPtr = s.highPtr := by cases p <;> rfl
@[simp] theorem State.setPort_lowPtr (p : Port) (v : PortState) : (s.setPort p v).lowPtr = s.lowPtr := by cases p <;> rfl
@[simp] theorem State.setPort_openGrant (p : Port) (v : PortState) : (s.setPort p v).openGrant = s.openGrant := by cases p <;> rfl
@[simp] theorem State.setPort_grantRecs (p : Port) (v : PortState) : (s.setPort p v).grantRecs = s.grantRecs := by cases p <;> rfl
@[simp] theorem State.setPort_watchdog (p : Port) (v : PortState) : (s.setPort p v).watchdog = s.watchdog := by cases p <;> rfl
@[simp] theorem State.setPort_watchdogTimer (p : Port) (v : PortState) : (s.setPort p v).watchdogTimer = s.watchdogTimer := by cases p <;> rfl
@[simp] theorem State.setPort_olderArrival (p : Port) (v : PortState) : (s.setPort p v).olderArrival = s.olderArrival := by cases p <;> rfl
@[simp] theorem State.setPort_newerArrival (p : Port) (v : PortState) : (s.setPort p v).newerArrival = s.newerArrival := by cases p <;> rfl
@[simp] theorem State.setPort_substituteTimer (p : Port) (v : PortState) : (s.setPort p v).substituteTimer = s.substituteTimer := by cases p <;> rfl
@[simp] theorem State.setPort_lastCycle (p : Port) (v : PortState) : (s.setPort p v).lastCycle = s.lastCycle := by cases p <;> rfl
@[simp] theorem State.setPort_flags (p : Port) (v : PortState) : (s.setPort p v).flags = s.flags := by cases p <;> rfl
@[simp] theorem State.setPort_events (p : Port) (v : PortState) : (s.setPort p v).events = s.events := by cases p <;> rfl
@[simp] theorem State.setPort_due (p : Port) (v : PortState) : (s.setPort p v).due = s.due := by cases p <;> rfl
@[simp] theorem State.setPort_frameClass (p : Port) (v : PortState) : (s.setPort p v).frameClass = s.frameClass := by cases p <;> rfl
@[simp] theorem State.setPort_inReset (p : Port) (v : PortState) : (s.setPort p v).inReset = s.inReset := by cases p <;> rfl
@[simp] theorem State.setPort_holdnLow (p : Port) (v : PortState) : (s.setPort p v).holdnLow = s.holdnLow := by cases p <;> rfl
@[simp] theorem State.setPort_sampled (p : Port) (v : PortState) : (s.setPort p v).sampled = s.sampled := by cases p <;> rfl
@[simp] theorem State.setPort_faultnLow (p : Port) (v : PortState) : (s.setPort p v).faultnLow = s.faultnLow := by cases p <;> rfl
@[simp] theorem State.setPort_port_same (p : Port) (v : PortState) : (s.setPort p v).port p = v := by cases p <;> rfl
@[simp] theorem State.setPort_upstream (v : PortState) : s.setPort .upstream v = { s with up := v } := rfl
@[simp] theorem State.setPort_downstream (v : PortState) : s.setPort .downstream v = { s with down := v } := rfl
@[simp] theorem State.port_upstream : s.port .upstream = s.up := rfl
@[simp] theorem State.port_downstream : s.port .downstream = s.down := rfl

/-- States with the same fields are equal. -/
theorem State.ext_fields {s t : State}
    (h0 : s.pending = t.pending) (h1 : s.now = t.now) (h2 : s.draws = t.draws)
    (h3 : s.up = t.up) (h4 : s.down = t.down) (h5 : s.waiting = t.waiting)
    (h6 : s.bankPresent = t.bankPresent) (h7 : s.active = t.active) (h8 : s.verifiedCrc = t.verifiedCrc)
    (h9 : s.pendingBank = t.pendingBank) (h10 : s.pendingState = t.pendingState) (h11 : s.expectedCrc = t.expectedCrc)
    (h12 : s.pendingCrc = t.pendingCrc) (h13 : s.refresh = t.refresh) (h14 : s.axes = t.axes)
    (h15 : s.forwards = t.forwards) (h16 : s.reportedNodes = t.reportedNodes) (h17 : s.gangs = t.gangs)
    (h18 : s.fences = t.fences) (h19 : s.windClass = t.windClass) (h20 : s.weatherStale = t.weatherStale)
    (h21 : s.weatherTimer = t.weatherTimer) (h22 : s.press = t.press) (h23 : s.pressTime = t.pressTime)
    (h24 : s.longTime = t.longTime) (h25 : s.operatorHold = t.operatorHold) (h26 : s.lines = t.lines)
    (h27 : s.deferred = t.deferred) (h28 : s.backoff = t.backoff) (h29 : s.highPtr = t.highPtr)
    (h30 : s.lowPtr = t.lowPtr) (h31 : s.openGrant = t.openGrant) (h32 : s.grantRecs = t.grantRecs)
    (h33 : s.watchdog = t.watchdog) (h34 : s.watchdogTimer = t.watchdogTimer) (h35 : s.olderArrival = t.olderArrival)
    (h36 : s.newerArrival = t.newerArrival) (h37 : s.substituteTimer = t.substituteTimer) (h38 : s.lastCycle = t.lastCycle)
    (h39 : s.flags = t.flags) (h40 : s.events = t.events) (h41 : s.due = t.due)
    (h42 : s.inReset = t.inReset) (h43 : s.holdnLow = t.holdnLow) (h44 : s.sampled = t.sampled)
    (h45 : s.faultnLow = t.faultnLow) (h46 : s.frameClass = t.frameClass) :
    s = t := by
  cases s; cases t
  cases h0; cases h1; cases h2; cases h3; cases h4; cases h5; cases h6; cases h7; cases h8; cases h9; cases h10; cases h11; cases h12; cases h13; cases h14; cases h15; cases h16; cases h17; cases h18; cases h19; cases h20; cases h21; cases h22; cases h23; cases h24; cases h25; cases h26; cases h27; cases h28; cases h29; cases h30; cases h31; cases h32; cases h33; cases h34; cases h35; cases h36; cases h37; cases h38; cases h39; cases h40; cases h41; cases h42; cases h43; cases h44; cases h45; cases h46
  rfl

end Sys2Proof.Machine
end

