-- ==== Sys2Proof/Laws/Frames.lean ====
section
/-!
SUPPORT. The frames of the shared operations. Each `_frame` lemma says once which fields an operation can change; the
lemmas after it give the fields it cannot.
-/
namespace Sys2Proof.Machine

variable (s : State)

/-- Updating an axis record touches the axis records alone. -/
theorem State.modifyAxis_frame (i : Nat) (f : AxisRec → AxisRec) :
    s.modifyAxis i f = { s with
    axes := (s.modifyAxis i f).axes } := by unfold State.modifyAxis; split <;> rfl

@[simp] theorem State.modifyAxis_pending (i : Nat) (f : AxisRec → AxisRec) : (s.modifyAxis i f).pending = s.pending :=
  (congrArg State.pending (s.modifyAxis_frame i f) :)
@[simp] theorem State.modifyAxis_now (i : Nat) (f : AxisRec → AxisRec) : (s.modifyAxis i f).now = s.now :=
  (congrArg State.now (s.modifyAxis_frame i f) :)
@[simp] theorem State.modifyAxis_draws (i : Nat) (f : AxisRec → AxisRec) : (s.modifyAxis i f).draws = s.draws :=
  (congrArg State.draws (s.modifyAxis_frame i f) :)
@[simp] theorem State.modifyAxis_up (i : Nat) (f : AxisRec → AxisRec) : (s.modifyAxis i f).up = s.up :=
  (congrArg State.up (s.modifyAxis_frame i f) :)
@[simp] theorem State.modifyAxis_down (i : Nat) (f : AxisRec → AxisRec) : (s.modifyAxis i f).down = s.down :=
  (congrArg State.down (s.modifyAxis_frame i f) :)
@[simp] theorem State.modifyAxis_waiting (i : Nat) (f : AxisRec → AxisRec) : (s.modifyAxis i f).waiting = s.waiting :=
  (congrArg State.waiting (s.modifyAxis_frame i f) :)
@[simp] theorem State.modifyAxis_bankPresent (i : Nat) (f : AxisRec → AxisRec) : (s.modifyAxis i f).bankPresent = s.bankPresent :=
  (congrArg State.bankPresent (s.modifyAxis_frame i f) :)
@[simp] theorem State.modifyAxis_active (i : Nat) (f : AxisRec → AxisRec) : (s.modifyAxis i f).active = s.active :=
  (congrArg State.active (s.modifyAxis_frame i f) :)
@[simp] theorem State.modifyAxis_verifiedCrc (i : Nat) (f : AxisRec → AxisRec) : (s.modifyAxis i f).verifiedCrc = s.verifiedCrc :=
  (congrArg State.verifiedCrc (s.modifyAxis_frame i f) :)
@[simp] theorem State.modifyAxis_pendingBank (i : Nat) (f : AxisRec → AxisRec) : (s.modifyAxis i f).pendingBank = s.pendingBank :=
  (congrArg State.pendingBank (s.modifyAxis_frame i f) :)
@[simp] theorem State.modifyAxis_pendingState (i : Nat) (f : AxisRec → AxisRec) : (s.modifyAxis i f).pendingState = s.pendingState :=
  (congrArg State.pendingState (s.modifyAxis_frame i f) :)
@[simp] theorem State.modifyAxis_expectedCrc (i : Nat) (f : AxisRec → AxisRec) : (s.modifyAxis i f).expectedCrc = s.expectedCrc :=
  (congrArg State.expectedCrc (s.modifyAxis_frame i f) :)
@[simp] theorem State.modifyAxis_pendingCrc (i : Nat) (f : AxisRec → AxisRec) : (s.modifyAxis i f).pendingCrc = s.pendingCrc :=
  (congrArg State.pendingCrc (s.modifyAxis_frame i f) :)
@[simp] theorem State.modifyAxis_refresh (i : Nat) (f : AxisRec → AxisRec) : (s.modifyAxis i f).refresh = s.refresh :=
  (congrArg State.refresh (s.modifyAxis_frame i f) :)
@[simp] theorem State.modifyAxis_forwards (i : Nat) (f : AxisRec → AxisRec) : (s.modifyAxis i f).forwards = s.forwards :=
  (congrArg State.forwards (s.modifyAxis_frame i f) :)
@[simp] theorem State.modifyAxis_reportedNodes (i : Nat) (f : AxisRec → AxisRec) : (s.modifyAxis i f).reportedNodes = s.reportedNodes :=
  (congrArg State.reportedNodes (s.modifyAxis_frame i f) :)
@[simp] theorem State.modifyAxis_gangs (i : Nat) (f : AxisRec → AxisRec) : (s.modifyAxis i f).gangs = s.gangs :=
  (congrArg State.gangs (s.modifyAxis_frame i f) :)
@[simp] theorem State.modifyAxis_fences (i : Nat) (f : AxisRec → AxisRec) : (s.modifyAxis i f).fences = s.fences :=
  (congrArg State.fences (s.modifyAxis_frame i f) :)
@[simp] theorem State.modifyAxis_windClass (i : Nat) (f : AxisRec → AxisRec) : (s.modifyAxis i f).windClass = s.windClass :=
  (congrArg State.windClass (s.modifyAxis_frame i f) :)
@[simp] theorem State.modifyAxis_weatherStale (i : Nat) (f : AxisRec → AxisRec) : (s.modifyAxis i f).weatherStale = s.weatherStale :=
  (congrArg State.weatherStale (s.modifyAxis_frame i f) :)
@[simp] theorem State.modifyAxis_weatherTimer (i : Nat) (f : AxisRec → AxisRec) : (s.modifyAxis i f).weatherTimer = s.weatherTimer :=
  (congrArg State.weatherTimer (s.modifyAxis_frame i f) :)
@[simp] theorem State.modifyAxis_press (i : Nat) (f : AxisRec → AxisRec) : (s.modifyAxis i f).press = s.press :=
  (congrArg State.press (s.modifyAxis_frame i f) :)
@[simp] theorem State.modifyAxis_pressTime (i : Nat) (f : AxisRec → AxisRec) : (s.modifyAxis i f).pressTime = s.pressTime :=
  (congrArg State.pressTime (s.modifyAxis_frame i f) :)
@[simp] theorem State.modifyAxis_longTime (i : Nat) (f : AxisRec → AxisRec) : (s.modifyAxis i f).longTime = s.longTime :=
  (congrArg State.longTime (s.modifyAxis_frame i f) :)
@[simp] theorem State.modifyAxis_operatorHold (i : Nat) (f : AxisRec → AxisRec) : (s.modifyAxis i f).operatorHold = s.operatorHold :=
  (congrArg State.operatorHold (s.modifyAxis_frame i f) :)
@[simp] theorem State.modifyAxis_lines (i : Nat) (f : AxisRec → AxisRec) : (s.modifyAxis i f).lines = s.lines :=
  (congrArg State.lines (s.modifyAxis_frame i f) :)
@[simp] theorem State.modifyAxis_deferred (i : Nat) (f : AxisRec → AxisRec) : (s.modifyAxis i f).deferred = s.deferred :=
  (congrArg State.deferred (s.modifyAxis_frame i f) :)
@[simp] theorem State.modifyAxis_backoff (i : Nat) (f : AxisRec → AxisRec) : (s.modifyAxis i f).backoff = s.backoff :=
  (congrArg State.backoff (s.modifyAxis_frame i f) :)
@[simp] theorem State.modifyAxis_highPtr (i : Nat) (f : AxisRec → AxisRec) : (s.modifyAxis i f).highPtr = s.highPtr :=
  (congrArg State.highPtr (s.modifyAxis_frame i f) :)
@[simp] theorem State.modifyAxis_lowPtr (i : Nat) (f : AxisRec → AxisRec) : (s.modifyAxis i f).lowPtr = s.lowPtr :=
  (congrArg State.lowPtr (s.modifyAxis_frame i f) :)
@[simp] theorem State.modifyAxis_openGrant (i : Nat) (f : AxisRec → AxisRec) : (s.modifyAxis i f).openGrant = s.openGrant :=
  (congrArg State.openGrant (s.modifyAxis_frame i f) :)
@[simp] theorem State.modifyAxis_grantRecs (i : Nat) (f : AxisRec → AxisRec) : (s.modifyAxis i f).grantRecs = s.grantRecs :=
  (congrArg State.grantRecs (s.modifyAxis_frame i f) :)
@[simp] theorem State.modifyAxis_watchdog (i : Nat) (f : AxisRec → AxisRec) : (s.modifyAxis i f).watchdog = s.watchdog :=
  (congrArg State.watchdog (s.modifyAxis_frame i f) :)
@[simp] theorem State.modifyAxis_watchdogTimer (i : Nat) (f : AxisRec → AxisRec) : (s.modifyAxis i f).watchdogTimer = s.watchdogTimer :=
  (congrArg State.watchdogTimer (s.modifyAxis_frame i f) :)
@[simp] theorem State.modifyAxis_olderArrival (i : Nat) (f : AxisRec → AxisRec) : (s.modifyAxis i f).olderArrival = s.olderArrival :=
  (congrArg State.olderArrival (s.modifyAxis_frame i f) :)
@[simp] theorem State.modifyAxis_newerArrival (i : Nat) (f : AxisRec → AxisRec) : (s.modifyAxis i f).newerArrival = s.newerArrival :=
  (congrArg State.newerArrival (s.modifyAxis_frame i f) :)
@[simp] theorem State.modifyAxis_substituteTimer (i : Nat) (f : AxisRec → AxisRec) : (s.modifyAxis i f).substituteTimer = s.substituteTimer :=
  (congrArg State.substituteTimer (s.modifyAxis_frame i f) :)
@[simp] theorem State.modifyAxis_lastCycle (i : Nat) (f : AxisRec → AxisRec) : (s.modifyAxis i f).lastCycle = s.lastCycle :=
  (congrArg State.lastCycle (s.modifyAxis_frame i f) :)
@[simp] theorem State.modifyAxis_flags (i : Nat) (f : AxisRec → AxisRec) : (s.modifyAxis i f).flags = s.flags :=
  (congrArg State.flags (s.modifyAxis_frame i f) :)
@[simp] theorem State.modifyAxis_events (i : Nat) (f : AxisRec → AxisRec) : (s.modifyAxis i f).events = s.events :=
  (congrArg State.events (s.modifyAxis_frame i f) :)
@[simp] theorem State.modifyAxis_due (i : Nat) (f : AxisRec → AxisRec) : (s.modifyAxis i f).due = s.due :=
  (congrArg State.due (s.modifyAxis_frame i f) :)
@[simp] theorem State.modifyAxis_frameClass (i : Nat) (f : AxisRec → AxisRec) : (s.modifyAxis i f).frameClass = s.frameClass :=
  (congrArg State.frameClass (s.modifyAxis_frame i f) :)
@[simp] theorem State.modifyAxis_inReset (i : Nat) (f : AxisRec → AxisRec) : (s.modifyAxis i f).inReset = s.inReset :=
  (congrArg State.inReset (s.modifyAxis_frame i f) :)
@[simp] theorem State.modifyAxis_holdnLow (i : Nat) (f : AxisRec → AxisRec) : (s.modifyAxis i f).holdnLow = s.holdnLow :=
  (congrArg State.holdnLow (s.modifyAxis_frame i f) :)
@[simp] theorem State.modifyAxis_sampled (i : Nat) (f : AxisRec → AxisRec) : (s.modifyAxis i f).sampled = s.sampled :=
  (congrArg State.sampled (s.modifyAxis_frame i f) :)
@[simp] theorem State.modifyAxis_faultnLow (i : Nat) (f : AxisRec → AxisRec) : (s.modifyAxis i f).faultnLow = s.faultnLow :=
  (congrArg State.faultnLow (s.modifyAxis_frame i f) :)

/-- Updating a forwarding record touches the forwarding records alone. -/
theorem State.modifyForward_frame (i : Nat) (f : ForwardRec → ForwardRec) :
    s.modifyForward i f = { s with
    forwards := (s.modifyForward i f).forwards } := by unfold State.modifyForward; split <;> rfl

@[simp] theorem State.modifyForward_pending (i : Nat) (f : ForwardRec → ForwardRec) : (s.modifyForward i f).pending = s.pending :=
  (congrArg State.pending (s.modifyForward_frame i f) :)
@[simp] theorem State.modifyForward_now (i : Nat) (f : ForwardRec → ForwardRec) : (s.modifyForward i f).now = s.now :=
  (congrArg State.now (s.modifyForward_frame i f) :)
@[simp] theorem State.modifyForward_draws (i : Nat) (f : ForwardRec → ForwardRec) : (s.modifyForward i f).draws = s.draws :=
  (congrArg State.draws (s.modifyForward_frame i f) :)
@[simp] theorem State.modifyForward_up (i : Nat) (f : ForwardRec → ForwardRec) : (s.modifyForward i f).up = s.up :=
  (congrArg State.up (s.modifyForward_frame i f) :)
@[simp] theorem State.modifyForward_down (i : Nat) (f : ForwardRec → ForwardRec) : (s.modifyForward i f).down = s.down :=
  (congrArg State.down (s.modifyForward_frame i f) :)
@[simp] theorem State.modifyForward_waiting (i : Nat) (f : ForwardRec → ForwardRec) : (s.modifyForward i f).waiting = s.waiting :=
  (congrArg State.waiting (s.modifyForward_frame i f) :)
@[simp] theorem State.modifyForward_bankPresent (i : Nat) (f : ForwardRec → ForwardRec) : (s.modifyForward i f).bankPresent = s.bankPresent :=
  (congrArg State.bankPresent (s.modifyForward_frame i f) :)
@[simp] theorem State.modifyForward_active (i : Nat) (f : ForwardRec → ForwardRec) : (s.modifyForward i f).active = s.active :=
  (congrArg State.active (s.modifyForward_frame i f) :)
@[simp] theorem State.modifyForward_verifiedCrc (i : Nat) (f : ForwardRec → ForwardRec) : (s.modifyForward i f).verifiedCrc = s.verifiedCrc :=
  (congrArg State.verifiedCrc (s.modifyForward_frame i f) :)
@[simp] theorem State.modifyForward_pendingBank (i : Nat) (f : ForwardRec → ForwardRec) : (s.modifyForward i f).pendingBank = s.pendingBank :=
  (congrArg State.pendingBank (s.modifyForward_frame i f) :)
@[simp] theorem State.modifyForward_pendingState (i : Nat) (f : ForwardRec → ForwardRec) : (s.modifyForward i f).pendingState = s.pendingState :=
  (congrArg State.pendingState (s.modifyForward_frame i f) :)
@[simp] theorem State.modifyForward_expectedCrc (i : Nat) (f : ForwardRec → ForwardRec) : (s.modifyForward i f).expectedCrc = s.expectedCrc :=
  (congrArg State.expectedCrc (s.modifyForward_frame i f) :)
@[simp] theorem State.modifyForward_pendingCrc (i : Nat) (f : ForwardRec → ForwardRec) : (s.modifyForward i f).pendingCrc = s.pendingCrc :=
  (congrArg State.pendingCrc (s.modifyForward_frame i f) :)
@[simp] theorem State.modifyForward_refresh (i : Nat) (f : ForwardRec → ForwardRec) : (s.modifyForward i f).refresh = s.refresh :=
  (congrArg State.refresh (s.modifyForward_frame i f) :)
@[simp] theorem State.modifyForward_axes (i : Nat) (f : ForwardRec → ForwardRec) : (s.modifyForward i f).axes = s.axes :=
  (congrArg State.axes (s.modifyForward_frame i f) :)
@[simp] theorem State.modifyForward_reportedNodes (i : Nat) (f : ForwardRec → ForwardRec) : (s.modifyForward i f).reportedNodes = s.reportedNodes :=
  (congrArg State.reportedNodes (s.modifyForward_frame i f) :)
@[simp] theorem State.modifyForward_gangs (i : Nat) (f : ForwardRec → ForwardRec) : (s.modifyForward i f).gangs = s.gangs :=
  (congrArg State.gangs (s.modifyForward_frame i f) :)
@[simp] theorem State.modifyForward_fences (i : Nat) (f : ForwardRec → ForwardRec) : (s.modifyForward i f).fences = s.fences :=
  (congrArg State.fences (s.modifyForward_frame i f) :)
@[simp] theorem State.modifyForward_windClass (i : Nat) (f : ForwardRec → ForwardRec) : (s.modifyForward i f).windClass = s.windClass :=
  (congrArg State.windClass (s.modifyForward_frame i f) :)
@[simp] theorem State.modifyForward_weatherStale (i : Nat) (f : ForwardRec → ForwardRec) : (s.modifyForward i f).weatherStale = s.weatherStale :=
  (congrArg State.weatherStale (s.modifyForward_frame i f) :)
@[simp] theorem State.modifyForward_weatherTimer (i : Nat) (f : ForwardRec → ForwardRec) : (s.modifyForward i f).weatherTimer = s.weatherTimer :=
  (congrArg State.weatherTimer (s.modifyForward_frame i f) :)
@[simp] theorem State.modifyForward_press (i : Nat) (f : ForwardRec → ForwardRec) : (s.modifyForward i f).press = s.press :=
  (congrArg State.press (s.modifyForward_frame i f) :)
@[simp] theorem State.modifyForward_pressTime (i : Nat) (f : ForwardRec → ForwardRec) : (s.modifyForward i f).pressTime = s.pressTime :=
  (congrArg State.pressTime (s.modifyForward_frame i f) :)
@[simp] theorem State.modifyForward_longTime (i : Nat) (f : ForwardRec → ForwardRec) : (s.modifyForward i f).longTime = s.longTime :=
  (congrArg State.longTime (s.modifyForward_frame i f) :)
@[simp] theorem State.modifyForward_operatorHold (i : Nat) (f : ForwardRec → ForwardRec) : (s.modifyForward i f).operatorHold = s.operatorHold :=
  (congrArg State.operatorHold (s.modifyForward_frame i f) :)
@[simp] theorem State.modifyForward_lines (i : Nat) (f : ForwardRec → ForwardRec) : (s.modifyForward i f).lines = s.lines :=
  (congrArg State.lines (s.modifyForward_frame i f) :)
@[simp] theorem State.modifyForward_deferred (i : Nat) (f : ForwardRec → ForwardRec) : (s.modifyForward i f).deferred = s.deferred :=
  (congrArg State.deferred (s.modifyForward_frame i f) :)
@[simp] theorem State.modifyForward_backoff (i : Nat) (f : ForwardRec → ForwardRec) : (s.modifyForward i f).backoff = s.backoff :=
  (congrArg State.backoff (s.modifyForward_frame i f) :)
@[simp] theorem State.modifyForward_highPtr (i : Nat) (f : ForwardRec → ForwardRec) : (s.modifyForward i f).highPtr = s.highPtr :=
  (congrArg State.highPtr (s.modifyForward_frame i f) :)
@[simp] theorem State.modifyForward_lowPtr (i : Nat) (f : ForwardRec → ForwardRec) : (s.modifyForward i f).lowPtr = s.lowPtr :=
  (congrArg State.lowPtr (s.modifyForward_frame i f) :)
@[simp] theorem State.modifyForward_openGrant (i : Nat) (f : ForwardRec → ForwardRec) : (s.modifyForward i f).openGrant = s.openGrant :=
  (congrArg State.openGrant (s.modifyForward_frame i f) :)
@[simp] theorem State.modifyForward_grantRecs (i : Nat) (f : ForwardRec → ForwardRec) : (s.modifyForward i f).grantRecs = s.grantRecs :=
  (congrArg State.grantRecs (s.modifyForward_frame i f) :)
@[simp] theorem State.modifyForward_watchdog (i : Nat) (f : ForwardRec → ForwardRec) : (s.modifyForward i f).watchdog = s.watchdog :=
  (congrArg State.watchdog (s.modifyForward_frame i f) :)
@[simp] theorem State.modifyForward_watchdogTimer (i : Nat) (f : ForwardRec → ForwardRec) : (s.modifyForward i f).watchdogTimer = s.watchdogTimer :=
  (congrArg State.watchdogTimer (s.modifyForward_frame i f) :)
@[simp] theorem State.modifyForward_olderArrival (i : Nat) (f : ForwardRec → ForwardRec) : (s.modifyForward i f).olderArrival = s.olderArrival :=
  (congrArg State.olderArrival (s.modifyForward_frame i f) :)
@[simp] theorem State.modifyForward_newerArrival (i : Nat) (f : ForwardRec → ForwardRec) : (s.modifyForward i f).newerArrival = s.newerArrival :=
  (congrArg State.newerArrival (s.modifyForward_frame i f) :)
@[simp] theorem State.modifyForward_substituteTimer (i : Nat) (f : ForwardRec → ForwardRec) : (s.modifyForward i f).substituteTimer = s.substituteTimer :=
  (congrArg State.substituteTimer (s.modifyForward_frame i f) :)
@[simp] theorem State.modifyForward_lastCycle (i : Nat) (f : ForwardRec → ForwardRec) : (s.modifyForward i f).lastCycle = s.lastCycle :=
  (congrArg State.lastCycle (s.modifyForward_frame i f) :)
@[simp] theorem State.modifyForward_flags (i : Nat) (f : ForwardRec → ForwardRec) : (s.modifyForward i f).flags = s.flags :=
  (congrArg State.flags (s.modifyForward_frame i f) :)
@[simp] theorem State.modifyForward_events (i : Nat) (f : ForwardRec → ForwardRec) : (s.modifyForward i f).events = s.events :=
  (congrArg State.events (s.modifyForward_frame i f) :)
@[simp] theorem State.modifyForward_due (i : Nat) (f : ForwardRec → ForwardRec) : (s.modifyForward i f).due = s.due :=
  (congrArg State.due (s.modifyForward_frame i f) :)
@[simp] theorem State.modifyForward_frameClass (i : Nat) (f : ForwardRec → ForwardRec) : (s.modifyForward i f).frameClass = s.frameClass :=
  (congrArg State.frameClass (s.modifyForward_frame i f) :)
@[simp] theorem State.modifyForward_inReset (i : Nat) (f : ForwardRec → ForwardRec) : (s.modifyForward i f).inReset = s.inReset :=
  (congrArg State.inReset (s.modifyForward_frame i f) :)
@[simp] theorem State.modifyForward_holdnLow (i : Nat) (f : ForwardRec → ForwardRec) : (s.modifyForward i f).holdnLow = s.holdnLow :=
  (congrArg State.holdnLow (s.modifyForward_frame i f) :)
@[simp] theorem State.modifyForward_sampled (i : Nat) (f : ForwardRec → ForwardRec) : (s.modifyForward i f).sampled = s.sampled :=
  (congrArg State.sampled (s.modifyForward_frame i f) :)
@[simp] theorem State.modifyForward_faultnLow (i : Nat) (f : ForwardRec → ForwardRec) : (s.modifyForward i f).faultnLow = s.faultnLow :=
  (congrArg State.faultnLow (s.modifyForward_frame i f) :)

/-- Updating a gang record touches the gang records alone. -/
theorem State.modifyGang_frame (g : Nat) (f : GangRec → GangRec) :
    s.modifyGang g f = { s with
    gangs := (s.modifyGang g f).gangs } := by unfold State.modifyGang; split <;> rfl

@[simp] theorem State.modifyGang_pending (g : Nat) (f : GangRec → GangRec) : (s.modifyGang g f).pending = s.pending :=
  (congrArg State.pending (s.modifyGang_frame g f) :)
@[simp] theorem State.modifyGang_now (g : Nat) (f : GangRec → GangRec) : (s.modifyGang g f).now = s.now :=
  (congrArg State.now (s.modifyGang_frame g f) :)
@[simp] theorem State.modifyGang_draws (g : Nat) (f : GangRec → GangRec) : (s.modifyGang g f).draws = s.draws :=
  (congrArg State.draws (s.modifyGang_frame g f) :)
@[simp] theorem State.modifyGang_up (g : Nat) (f : GangRec → GangRec) : (s.modifyGang g f).up = s.up :=
  (congrArg State.up (s.modifyGang_frame g f) :)
@[simp] theorem State.modifyGang_down (g : Nat) (f : GangRec → GangRec) : (s.modifyGang g f).down = s.down :=
  (congrArg State.down (s.modifyGang_frame g f) :)
@[simp] theorem State.modifyGang_waiting (g : Nat) (f : GangRec → GangRec) : (s.modifyGang g f).waiting = s.waiting :=
  (congrArg State.waiting (s.modifyGang_frame g f) :)
@[simp] theorem State.modifyGang_bankPresent (g : Nat) (f : GangRec → GangRec) : (s.modifyGang g f).bankPresent = s.bankPresent :=
  (congrArg State.bankPresent (s.modifyGang_frame g f) :)
@[simp] theorem State.modifyGang_active (g : Nat) (f : GangRec → GangRec) : (s.modifyGang g f).active = s.active :=
  (congrArg State.active (s.modifyGang_frame g f) :)
@[simp] theorem State.modifyGang_verifiedCrc (g : Nat) (f : GangRec → GangRec) : (s.modifyGang g f).verifiedCrc = s.verifiedCrc :=
  (congrArg State.verifiedCrc (s.modifyGang_frame g f) :)
@[simp] theorem State.modifyGang_pendingBank (g : Nat) (f : GangRec → GangRec) : (s.modifyGang g f).pendingBank = s.pendingBank :=
  (congrArg State.pendingBank (s.modifyGang_frame g f) :)
@[simp] theorem State.modifyGang_pendingState (g : Nat) (f : GangRec → GangRec) : (s.modifyGang g f).pendingState = s.pendingState :=
  (congrArg State.pendingState (s.modifyGang_frame g f) :)
@[simp] theorem State.modifyGang_expectedCrc (g : Nat) (f : GangRec → GangRec) : (s.modifyGang g f).expectedCrc = s.expectedCrc :=
  (congrArg State.expectedCrc (s.modifyGang_frame g f) :)
@[simp] theorem State.modifyGang_pendingCrc (g : Nat) (f : GangRec → GangRec) : (s.modifyGang g f).pendingCrc = s.pendingCrc :=
  (congrArg State.pendingCrc (s.modifyGang_frame g f) :)
@[simp] theorem State.modifyGang_refresh (g : Nat) (f : GangRec → GangRec) : (s.modifyGang g f).refresh = s.refresh :=
  (congrArg State.refresh (s.modifyGang_frame g f) :)
@[simp] theorem State.modifyGang_axes (g : Nat) (f : GangRec → GangRec) : (s.modifyGang g f).axes = s.axes :=
  (congrArg State.axes (s.modifyGang_frame g f) :)
@[simp] theorem State.modifyGang_forwards (g : Nat) (f : GangRec → GangRec) : (s.modifyGang g f).forwards = s.forwards :=
  (congrArg State.forwards (s.modifyGang_frame g f) :)
@[simp] theorem State.modifyGang_reportedNodes (g : Nat) (f : GangRec → GangRec) : (s.modifyGang g f).reportedNodes = s.reportedNodes :=
  (congrArg State.reportedNodes (s.modifyGang_frame g f) :)
@[simp] theorem State.modifyGang_fences (g : Nat) (f : GangRec → GangRec) : (s.modifyGang g f).fences = s.fences :=
  (congrArg State.fences (s.modifyGang_frame g f) :)
@[simp] theorem State.modifyGang_windClass (g : Nat) (f : GangRec → GangRec) : (s.modifyGang g f).windClass = s.windClass :=
  (congrArg State.windClass (s.modifyGang_frame g f) :)
@[simp] theorem State.modifyGang_weatherStale (g : Nat) (f : GangRec → GangRec) : (s.modifyGang g f).weatherStale = s.weatherStale :=
  (congrArg State.weatherStale (s.modifyGang_frame g f) :)
@[simp] theorem State.modifyGang_weatherTimer (g : Nat) (f : GangRec → GangRec) : (s.modifyGang g f).weatherTimer = s.weatherTimer :=
  (congrArg State.weatherTimer (s.modifyGang_frame g f) :)
@[simp] theorem State.modifyGang_press (g : Nat) (f : GangRec → GangRec) : (s.modifyGang g f).press = s.press :=
  (congrArg State.press (s.modifyGang_frame g f) :)
@[simp] theorem State.modifyGang_pressTime (g : Nat) (f : GangRec → GangRec) : (s.modifyGang g f).pressTime = s.pressTime :=
  (congrArg State.pressTime (s.modifyGang_frame g f) :)
@[simp] theorem State.modifyGang_longTime (g : Nat) (f : GangRec → GangRec) : (s.modifyGang g f).longTime = s.longTime :=
  (congrArg State.longTime (s.modifyGang_frame g f) :)
@[simp] theorem State.modifyGang_operatorHold (g : Nat) (f : GangRec → GangRec) : (s.modifyGang g f).operatorHold = s.operatorHold :=
  (congrArg State.operatorHold (s.modifyGang_frame g f) :)
@[simp] theorem State.modifyGang_lines (g : Nat) (f : GangRec → GangRec) : (s.modifyGang g f).lines = s.lines :=
  (congrArg State.lines (s.modifyGang_frame g f) :)
@[simp] theorem State.modifyGang_deferred (g : Nat) (f : GangRec → GangRec) : (s.modifyGang g f).deferred = s.deferred :=
  (congrArg State.deferred (s.modifyGang_frame g f) :)
@[simp] theorem State.modifyGang_backoff (g : Nat) (f : GangRec → GangRec) : (s.modifyGang g f).backoff = s.backoff :=
  (congrArg State.backoff (s.modifyGang_frame g f) :)
@[simp] theorem State.modifyGang_highPtr (g : Nat) (f : GangRec → GangRec) : (s.modifyGang g f).highPtr = s.highPtr :=
  (congrArg State.highPtr (s.modifyGang_frame g f) :)
@[simp] theorem State.modifyGang_lowPtr (g : Nat) (f : GangRec → GangRec) : (s.modifyGang g f).lowPtr = s.lowPtr :=
  (congrArg State.lowPtr (s.modifyGang_frame g f) :)
@[simp] theorem State.modifyGang_openGrant (g : Nat) (f : GangRec → GangRec) : (s.modifyGang g f).openGrant = s.openGrant :=
  (congrArg State.openGrant (s.modifyGang_frame g f) :)
@[simp] theorem State.modifyGang_grantRecs (g : Nat) (f : GangRec → GangRec) : (s.modifyGang g f).grantRecs = s.grantRecs :=
  (congrArg State.grantRecs (s.modifyGang_frame g f) :)
@[simp] theorem State.modifyGang_watchdog (g : Nat) (f : GangRec → GangRec) : (s.modifyGang g f).watchdog = s.watchdog :=
  (congrArg State.watchdog (s.modifyGang_frame g f) :)
@[simp] theorem State.modifyGang_watchdogTimer (g : Nat) (f : GangRec → GangRec) : (s.modifyGang g f).watchdogTimer = s.watchdogTimer :=
  (congrArg State.watchdogTimer (s.modifyGang_frame g f) :)
@[simp] theorem State.modifyGang_olderArrival (g : Nat) (f : GangRec → GangRec) : (s.modifyGang g f).olderArrival = s.olderArrival :=
  (congrArg State.olderArrival (s.modifyGang_frame g f) :)
@[simp] theorem State.modifyGang_newerArrival (g : Nat) (f : GangRec → GangRec) : (s.modifyGang g f).newerArrival = s.newerArrival :=
  (congrArg State.newerArrival (s.modifyGang_frame g f) :)
@[simp] theorem State.modifyGang_substituteTimer (g : Nat) (f : GangRec → GangRec) : (s.modifyGang g f).substituteTimer = s.substituteTimer :=
  (congrArg State.substituteTimer (s.modifyGang_frame g f) :)
@[simp] theorem State.modifyGang_lastCycle (g : Nat) (f : GangRec → GangRec) : (s.modifyGang g f).lastCycle = s.lastCycle :=
  (congrArg State.lastCycle (s.modifyGang_frame g f) :)
@[simp] theorem State.modifyGang_flags (g : Nat) (f : GangRec → GangRec) : (s.modifyGang g f).flags = s.flags :=
  (congrArg State.flags (s.modifyGang_frame g f) :)
@[simp] theorem State.modifyGang_events (g : Nat) (f : GangRec → GangRec) : (s.modifyGang g f).events = s.events :=
  (congrArg State.events (s.modifyGang_frame g f) :)
@[simp] theorem State.modifyGang_due (g : Nat) (f : GangRec → GangRec) : (s.modifyGang g f).due = s.due :=
  (congrArg State.due (s.modifyGang_frame g f) :)
@[simp] theorem State.modifyGang_frameClass (g : Nat) (f : GangRec → GangRec) : (s.modifyGang g f).frameClass = s.frameClass :=
  (congrArg State.frameClass (s.modifyGang_frame g f) :)
@[simp] theorem State.modifyGang_inReset (g : Nat) (f : GangRec → GangRec) : (s.modifyGang g f).inReset = s.inReset :=
  (congrArg State.inReset (s.modifyGang_frame g f) :)
@[simp] theorem State.modifyGang_holdnLow (g : Nat) (f : GangRec → GangRec) : (s.modifyGang g f).holdnLow = s.holdnLow :=
  (congrArg State.holdnLow (s.modifyGang_frame g f) :)
@[simp] theorem State.modifyGang_sampled (g : Nat) (f : GangRec → GangRec) : (s.modifyGang g f).sampled = s.sampled :=
  (congrArg State.sampled (s.modifyGang_frame g f) :)
@[simp] theorem State.modifyGang_faultnLow (g : Nat) (f : GangRec → GangRec) : (s.modifyGang g f).faultnLow = s.faultnLow :=
  (congrArg State.faultnLow (s.modifyGang_frame g f) :)

/-- Offering a record touches the event queue and, with the queue full, the flags (R180). -/
theorem State.offer_frame (src : EventSource) (code : Half) (g : Option Nat) (data : Option Word) :
    s.offer src code g data = { s with
    events := (s.offer src code g data).events, flags := (s.offer src code g data).flags } := by unfold State.offer; split <;> rfl

@[simp] theorem State.offer_pending (src : EventSource) (code : Half) (g : Option Nat) (data : Option Word) : (s.offer src code g data).pending = s.pending :=
  (congrArg State.pending (s.offer_frame src code g data) :)
@[simp] theorem State.offer_now (src : EventSource) (code : Half) (g : Option Nat) (data : Option Word) : (s.offer src code g data).now = s.now :=
  (congrArg State.now (s.offer_frame src code g data) :)
@[simp] theorem State.offer_draws (src : EventSource) (code : Half) (g : Option Nat) (data : Option Word) : (s.offer src code g data).draws = s.draws :=
  (congrArg State.draws (s.offer_frame src code g data) :)
@[simp] theorem State.offer_up (src : EventSource) (code : Half) (g : Option Nat) (data : Option Word) : (s.offer src code g data).up = s.up :=
  (congrArg State.up (s.offer_frame src code g data) :)
@[simp] theorem State.offer_down (src : EventSource) (code : Half) (g : Option Nat) (data : Option Word) : (s.offer src code g data).down = s.down :=
  (congrArg State.down (s.offer_frame src code g data) :)
@[simp] theorem State.offer_waiting (src : EventSource) (code : Half) (g : Option Nat) (data : Option Word) : (s.offer src code g data).waiting = s.waiting :=
  (congrArg State.waiting (s.offer_frame src code g data) :)
@[simp] theorem State.offer_bankPresent (src : EventSource) (code : Half) (g : Option Nat) (data : Option Word) : (s.offer src code g data).bankPresent = s.bankPresent :=
  (congrArg State.bankPresent (s.offer_frame src code g data) :)
@[simp] theorem State.offer_active (src : EventSource) (code : Half) (g : Option Nat) (data : Option Word) : (s.offer src code g data).active = s.active :=
  (congrArg State.active (s.offer_frame src code g data) :)
@[simp] theorem State.offer_verifiedCrc (src : EventSource) (code : Half) (g : Option Nat) (data : Option Word) : (s.offer src code g data).verifiedCrc = s.verifiedCrc :=
  (congrArg State.verifiedCrc (s.offer_frame src code g data) :)
@[simp] theorem State.offer_pendingBank (src : EventSource) (code : Half) (g : Option Nat) (data : Option Word) : (s.offer src code g data).pendingBank = s.pendingBank :=
  (congrArg State.pendingBank (s.offer_frame src code g data) :)
@[simp] theorem State.offer_pendingState (src : EventSource) (code : Half) (g : Option Nat) (data : Option Word) : (s.offer src code g data).pendingState = s.pendingState :=
  (congrArg State.pendingState (s.offer_frame src code g data) :)
@[simp] theorem State.offer_expectedCrc (src : EventSource) (code : Half) (g : Option Nat) (data : Option Word) : (s.offer src code g data).expectedCrc = s.expectedCrc :=
  (congrArg State.expectedCrc (s.offer_frame src code g data) :)
@[simp] theorem State.offer_pendingCrc (src : EventSource) (code : Half) (g : Option Nat) (data : Option Word) : (s.offer src code g data).pendingCrc = s.pendingCrc :=
  (congrArg State.pendingCrc (s.offer_frame src code g data) :)
@[simp] theorem State.offer_refresh (src : EventSource) (code : Half) (g : Option Nat) (data : Option Word) : (s.offer src code g data).refresh = s.refresh :=
  (congrArg State.refresh (s.offer_frame src code g data) :)
@[simp] theorem State.offer_axes (src : EventSource) (code : Half) (g : Option Nat) (data : Option Word) : (s.offer src code g data).axes = s.axes :=
  (congrArg State.axes (s.offer_frame src code g data) :)
@[simp] theorem State.offer_forwards (src : EventSource) (code : Half) (g : Option Nat) (data : Option Word) : (s.offer src code g data).forwards = s.forwards :=
  (congrArg State.forwards (s.offer_frame src code g data) :)
@[simp] theorem State.offer_reportedNodes (src : EventSource) (code : Half) (g : Option Nat) (data : Option Word) : (s.offer src code g data).reportedNodes = s.reportedNodes :=
  (congrArg State.reportedNodes (s.offer_frame src code g data) :)
@[simp] theorem State.offer_gangs (src : EventSource) (code : Half) (g : Option Nat) (data : Option Word) : (s.offer src code g data).gangs = s.gangs :=
  (congrArg State.gangs (s.offer_frame src code g data) :)
@[simp] theorem State.offer_fences (src : EventSource) (code : Half) (g : Option Nat) (data : Option Word) : (s.offer src code g data).fences = s.fences :=
  (congrArg State.fences (s.offer_frame src code g data) :)
@[simp] theorem State.offer_windClass (src : EventSource) (code : Half) (g : Option Nat) (data : Option Word) : (s.offer src code g data).windClass = s.windClass :=
  (congrArg State.windClass (s.offer_frame src code g data) :)
@[simp] theorem State.offer_weatherStale (src : EventSource) (code : Half) (g : Option Nat) (data : Option Word) : (s.offer src code g data).weatherStale = s.weatherStale :=
  (congrArg State.weatherStale (s.offer_frame src code g data) :)
@[simp] theorem State.offer_weatherTimer (src : EventSource) (code : Half) (g : Option Nat) (data : Option Word) : (s.offer src code g data).weatherTimer = s.weatherTimer :=
  (congrArg State.weatherTimer (s.offer_frame src code g data) :)
@[simp] theorem State.offer_press (src : EventSource) (code : Half) (g : Option Nat) (data : Option Word) : (s.offer src code g data).press = s.press :=
  (congrArg State.press (s.offer_frame src code g data) :)
@[simp] theorem State.offer_pressTime (src : EventSource) (code : Half) (g : Option Nat) (data : Option Word) : (s.offer src code g data).pressTime = s.pressTime :=
  (congrArg State.pressTime (s.offer_frame src code g data) :)
@[simp] theorem State.offer_longTime (src : EventSource) (code : Half) (g : Option Nat) (data : Option Word) : (s.offer src code g data).longTime = s.longTime :=
  (congrArg State.longTime (s.offer_frame src code g data) :)
@[simp] theorem State.offer_operatorHold (src : EventSource) (code : Half) (g : Option Nat) (data : Option Word) : (s.offer src code g data).operatorHold = s.operatorHold :=
  (congrArg State.operatorHold (s.offer_frame src code g data) :)
@[simp] theorem State.offer_lines (src : EventSource) (code : Half) (g : Option Nat) (data : Option Word) : (s.offer src code g data).lines = s.lines :=
  (congrArg State.lines (s.offer_frame src code g data) :)
@[simp] theorem State.offer_deferred (src : EventSource) (code : Half) (g : Option Nat) (data : Option Word) : (s.offer src code g data).deferred = s.deferred :=
  (congrArg State.deferred (s.offer_frame src code g data) :)
@[simp] theorem State.offer_backoff (src : EventSource) (code : Half) (g : Option Nat) (data : Option Word) : (s.offer src code g data).backoff = s.backoff :=
  (congrArg State.backoff (s.offer_frame src code g data) :)
@[simp] theorem State.offer_highPtr (src : EventSource) (code : Half) (g : Option Nat) (data : Option Word) : (s.offer src code g data).highPtr = s.highPtr :=
  (congrArg State.highPtr (s.offer_frame src code g data) :)
@[simp] theorem State.offer_lowPtr (src : EventSource) (code : Half) (g : Option Nat) (data : Option Word) : (s.offer src code g data).lowPtr = s.lowPtr :=
  (congrArg State.lowPtr (s.offer_frame src code g data) :)
@[simp] theorem State.offer_openGrant (src : EventSource) (code : Half) (g : Option Nat) (data : Option Word) : (s.offer src code g data).openGrant = s.openGrant :=
  (congrArg State.openGrant (s.offer_frame src code g data) :)
@[simp] theorem State.offer_grantRecs (src : EventSource) (code : Half) (g : Option Nat) (data : Option Word) : (s.offer src code g data).grantRecs = s.grantRecs :=
  (congrArg State.grantRecs (s.offer_frame src code g data) :)
@[simp] theorem State.offer_watchdog (src : EventSource) (code : Half) (g : Option Nat) (data : Option Word) : (s.offer src code g data).watchdog = s.watchdog :=
  (congrArg State.watchdog (s.offer_frame src code g data) :)
@[simp] theorem State.offer_watchdogTimer (src : EventSource) (code : Half) (g : Option Nat) (data : Option Word) : (s.offer src code g data).watchdogTimer = s.watchdogTimer :=
  (congrArg State.watchdogTimer (s.offer_frame src code g data) :)
@[simp] theorem State.offer_olderArrival (src : EventSource) (code : Half) (g : Option Nat) (data : Option Word) : (s.offer src code g data).olderArrival = s.olderArrival :=
  (congrArg State.olderArrival (s.offer_frame src code g data) :)
@[simp] theorem State.offer_newerArrival (src : EventSource) (code : Half) (g : Option Nat) (data : Option Word) : (s.offer src code g data).newerArrival = s.newerArrival :=
  (congrArg State.newerArrival (s.offer_frame src code g data) :)
@[simp] theorem State.offer_substituteTimer (src : EventSource) (code : Half) (g : Option Nat) (data : Option Word) : (s.offer src code g data).substituteTimer = s.substituteTimer :=
  (congrArg State.substituteTimer (s.offer_frame src code g data) :)
@[simp] theorem State.offer_lastCycle (src : EventSource) (code : Half) (g : Option Nat) (data : Option Word) : (s.offer src code g data).lastCycle = s.lastCycle :=
  (congrArg State.lastCycle (s.offer_frame src code g data) :)
@[simp] theorem State.offer_due (src : EventSource) (code : Half) (g : Option Nat) (data : Option Word) : (s.offer src code g data).due = s.due :=
  (congrArg State.due (s.offer_frame src code g data) :)
@[simp] theorem State.offer_frameClass (src : EventSource) (code : Half) (g : Option Nat) (data : Option Word) : (s.offer src code g data).frameClass = s.frameClass :=
  (congrArg State.frameClass (s.offer_frame src code g data) :)
@[simp] theorem State.offer_inReset (src : EventSource) (code : Half) (g : Option Nat) (data : Option Word) : (s.offer src code g data).inReset = s.inReset :=
  (congrArg State.inReset (s.offer_frame src code g data) :)
@[simp] theorem State.offer_holdnLow (src : EventSource) (code : Half) (g : Option Nat) (data : Option Word) : (s.offer src code g data).holdnLow = s.holdnLow :=
  (congrArg State.holdnLow (s.offer_frame src code g data) :)
@[simp] theorem State.offer_sampled (src : EventSource) (code : Half) (g : Option Nat) (data : Option Word) : (s.offer src code g data).sampled = s.sampled :=
  (congrArg State.sampled (s.offer_frame src code g data) :)
@[simp] theorem State.offer_faultnLow (src : EventSource) (code : Half) (g : Option Nat) (data : Option Word) : (s.offer src code g data).faultnLow = s.faultnLow :=
  (congrArg State.faultnLow (s.offer_frame src code g data) :)

/-- Offering one of the bridge's own records touches the event queue and the flags (R180). -/
theorem State.offerOwn_frame (e : BridgeEvent) (g : Option Nat) (data : Word) :
    s.offerOwn e g data = { s with
    events := (s.offerOwn e g data).events, flags := (s.offerOwn e g data).flags } := s.offer_frame _ _ _ _

@[simp] theorem State.offerOwn_pending (e : BridgeEvent) (g : Option Nat) (data : Word) : (s.offerOwn e g data).pending = s.pending :=
  (congrArg State.pending (s.offerOwn_frame e g data) :)
@[simp] theorem State.offerOwn_now (e : BridgeEvent) (g : Option Nat) (data : Word) : (s.offerOwn e g data).now = s.now :=
  (congrArg State.now (s.offerOwn_frame e g data) :)
@[simp] theorem State.offerOwn_draws (e : BridgeEvent) (g : Option Nat) (data : Word) : (s.offerOwn e g data).draws = s.draws :=
  (congrArg State.draws (s.offerOwn_frame e g data) :)
@[simp] theorem State.offerOwn_up (e : BridgeEvent) (g : Option Nat) (data : Word) : (s.offerOwn e g data).up = s.up :=
  (congrArg State.up (s.offerOwn_frame e g data) :)
@[simp] theorem State.offerOwn_down (e : BridgeEvent) (g : Option Nat) (data : Word) : (s.offerOwn e g data).down = s.down :=
  (congrArg State.down (s.offerOwn_frame e g data) :)
@[simp] theorem State.offerOwn_waiting (e : BridgeEvent) (g : Option Nat) (data : Word) : (s.offerOwn e g data).waiting = s.waiting :=
  (congrArg State.waiting (s.offerOwn_frame e g data) :)
@[simp] theorem State.offerOwn_bankPresent (e : BridgeEvent) (g : Option Nat) (data : Word) : (s.offerOwn e g data).bankPresent = s.bankPresent :=
  (congrArg State.bankPresent (s.offerOwn_frame e g data) :)
@[simp] theorem State.offerOwn_active (e : BridgeEvent) (g : Option Nat) (data : Word) : (s.offerOwn e g data).active = s.active :=
  (congrArg State.active (s.offerOwn_frame e g data) :)
@[simp] theorem State.offerOwn_verifiedCrc (e : BridgeEvent) (g : Option Nat) (data : Word) : (s.offerOwn e g data).verifiedCrc = s.verifiedCrc :=
  (congrArg State.verifiedCrc (s.offerOwn_frame e g data) :)
@[simp] theorem State.offerOwn_pendingBank (e : BridgeEvent) (g : Option Nat) (data : Word) : (s.offerOwn e g data).pendingBank = s.pendingBank :=
  (congrArg State.pendingBank (s.offerOwn_frame e g data) :)
@[simp] theorem State.offerOwn_pendingState (e : BridgeEvent) (g : Option Nat) (data : Word) : (s.offerOwn e g data).pendingState = s.pendingState :=
  (congrArg State.pendingState (s.offerOwn_frame e g data) :)
@[simp] theorem State.offerOwn_expectedCrc (e : BridgeEvent) (g : Option Nat) (data : Word) : (s.offerOwn e g data).expectedCrc = s.expectedCrc :=
  (congrArg State.expectedCrc (s.offerOwn_frame e g data) :)
@[simp] theorem State.offerOwn_pendingCrc (e : BridgeEvent) (g : Option Nat) (data : Word) : (s.offerOwn e g data).pendingCrc = s.pendingCrc :=
  (congrArg State.pendingCrc (s.offerOwn_frame e g data) :)
@[simp] theorem State.offerOwn_refresh (e : BridgeEvent) (g : Option Nat) (data : Word) : (s.offerOwn e g data).refresh = s.refresh :=
  (congrArg State.refresh (s.offerOwn_frame e g data) :)
@[simp] theorem State.offerOwn_axes (e : BridgeEvent) (g : Option Nat) (data : Word) : (s.offerOwn e g data).axes = s.axes :=
  (congrArg State.axes (s.offerOwn_frame e g data) :)
@[simp] theorem State.offerOwn_forwards (e : BridgeEvent) (g : Option Nat) (data : Word) : (s.offerOwn e g data).forwards = s.forwards :=
  (congrArg State.forwards (s.offerOwn_frame e g data) :)
@[simp] theorem State.offerOwn_reportedNodes (e : BridgeEvent) (g : Option Nat) (data : Word) : (s.offerOwn e g data).reportedNodes = s.reportedNodes :=
  (congrArg State.reportedNodes (s.offerOwn_frame e g data) :)
@[simp] theorem State.offerOwn_gangs (e : BridgeEvent) (g : Option Nat) (data : Word) : (s.offerOwn e g data).gangs = s.gangs :=
  (congrArg State.gangs (s.offerOwn_frame e g data) :)
@[simp] theorem State.offerOwn_fences (e : BridgeEvent) (g : Option Nat) (data : Word) : (s.offerOwn e g data).fences = s.fences :=
  (congrArg State.fences (s.offerOwn_frame e g data) :)
@[simp] theorem State.offerOwn_windClass (e : BridgeEvent) (g : Option Nat) (data : Word) : (s.offerOwn e g data).windClass = s.windClass :=
  (congrArg State.windClass (s.offerOwn_frame e g data) :)
@[simp] theorem State.offerOwn_weatherStale (e : BridgeEvent) (g : Option Nat) (data : Word) : (s.offerOwn e g data).weatherStale = s.weatherStale :=
  (congrArg State.weatherStale (s.offerOwn_frame e g data) :)
@[simp] theorem State.offerOwn_weatherTimer (e : BridgeEvent) (g : Option Nat) (data : Word) : (s.offerOwn e g data).weatherTimer = s.weatherTimer :=
  (congrArg State.weatherTimer (s.offerOwn_frame e g data) :)
@[simp] theorem State.offerOwn_press (e : BridgeEvent) (g : Option Nat) (data : Word) : (s.offerOwn e g data).press = s.press :=
  (congrArg State.press (s.offerOwn_frame e g data) :)
@[simp] theorem State.offerOwn_pressTime (e : BridgeEvent) (g : Option Nat) (data : Word) : (s.offerOwn e g data).pressTime = s.pressTime :=
  (congrArg State.pressTime (s.offerOwn_frame e g data) :)
@[simp] theorem State.offerOwn_longTime (e : BridgeEvent) (g : Option Nat) (data : Word) : (s.offerOwn e g data).longTime = s.longTime :=
  (congrArg State.longTime (s.offerOwn_frame e g data) :)
@[simp] theorem State.offerOwn_operatorHold (e : BridgeEvent) (g : Option Nat) (data : Word) : (s.offerOwn e g data).operatorHold = s.operatorHold :=
  (congrArg State.operatorHold (s.offerOwn_frame e g data) :)
@[simp] theorem State.offerOwn_lines (e : BridgeEvent) (g : Option Nat) (data : Word) : (s.offerOwn e g data).lines = s.lines :=
  (congrArg State.lines (s.offerOwn_frame e g data) :)
@[simp] theorem State.offerOwn_deferred (e : BridgeEvent) (g : Option Nat) (data : Word) : (s.offerOwn e g data).deferred = s.deferred :=
  (congrArg State.deferred (s.offerOwn_frame e g data) :)
@[simp] theorem State.offerOwn_backoff (e : BridgeEvent) (g : Option Nat) (data : Word) : (s.offerOwn e g data).backoff = s.backoff :=
  (congrArg State.backoff (s.offerOwn_frame e g data) :)
@[simp] theorem State.offerOwn_highPtr (e : BridgeEvent) (g : Option Nat) (data : Word) : (s.offerOwn e g data).highPtr = s.highPtr :=
  (congrArg State.highPtr (s.offerOwn_frame e g data) :)
@[simp] theorem State.offerOwn_lowPtr (e : BridgeEvent) (g : Option Nat) (data : Word) : (s.offerOwn e g data).lowPtr = s.lowPtr :=
  (congrArg State.lowPtr (s.offerOwn_frame e g data) :)
@[simp] theorem State.offerOwn_openGrant (e : BridgeEvent) (g : Option Nat) (data : Word) : (s.offerOwn e g data).openGrant = s.openGrant :=
  (congrArg State.openGrant (s.offerOwn_frame e g data) :)
@[simp] theorem State.offerOwn_grantRecs (e : BridgeEvent) (g : Option Nat) (data : Word) : (s.offerOwn e g data).grantRecs = s.grantRecs :=
  (congrArg State.grantRecs (s.offerOwn_frame e g data) :)
@[simp] theorem State.offerOwn_watchdog (e : BridgeEvent) (g : Option Nat) (data : Word) : (s.offerOwn e g data).watchdog = s.watchdog :=
  (congrArg State.watchdog (s.offerOwn_frame e g data) :)
@[simp] theorem State.offerOwn_watchdogTimer (e : BridgeEvent) (g : Option Nat) (data : Word) : (s.offerOwn e g data).watchdogTimer = s.watchdogTimer :=
  (congrArg State.watchdogTimer (s.offerOwn_frame e g data) :)
@[simp] theorem State.offerOwn_olderArrival (e : BridgeEvent) (g : Option Nat) (data : Word) : (s.offerOwn e g data).olderArrival = s.olderArrival :=
  (congrArg State.olderArrival (s.offerOwn_frame e g data) :)
@[simp] theorem State.offerOwn_newerArrival (e : BridgeEvent) (g : Option Nat) (data : Word) : (s.offerOwn e g data).newerArrival = s.newerArrival :=
  (congrArg State.newerArrival (s.offerOwn_frame e g data) :)
@[simp] theorem State.offerOwn_substituteTimer (e : BridgeEvent) (g : Option Nat) (data : Word) : (s.offerOwn e g data).substituteTimer = s.substituteTimer :=
  (congrArg State.substituteTimer (s.offerOwn_frame e g data) :)
@[simp] theorem State.offerOwn_lastCycle (e : BridgeEvent) (g : Option Nat) (data : Word) : (s.offerOwn e g data).lastCycle = s.lastCycle :=
  (congrArg State.lastCycle (s.offerOwn_frame e g data) :)
@[simp] theorem State.offerOwn_due (e : BridgeEvent) (g : Option Nat) (data : Word) : (s.offerOwn e g data).due = s.due :=
  (congrArg State.due (s.offerOwn_frame e g data) :)
@[simp] theorem State.offerOwn_frameClass (e : BridgeEvent) (g : Option Nat) (data : Word) : (s.offerOwn e g data).frameClass = s.frameClass :=
  (congrArg State.frameClass (s.offerOwn_frame e g data) :)
@[simp] theorem State.offerOwn_inReset (e : BridgeEvent) (g : Option Nat) (data : Word) : (s.offerOwn e g data).inReset = s.inReset :=
  (congrArg State.inReset (s.offerOwn_frame e g data) :)
@[simp] theorem State.offerOwn_holdnLow (e : BridgeEvent) (g : Option Nat) (data : Word) : (s.offerOwn e g data).holdnLow = s.holdnLow :=
  (congrArg State.holdnLow (s.offerOwn_frame e g data) :)
@[simp] theorem State.offerOwn_sampled (e : BridgeEvent) (g : Option Nat) (data : Word) : (s.offerOwn e g data).sampled = s.sampled :=
  (congrArg State.sampled (s.offerOwn_frame e g data) :)
@[simp] theorem State.offerOwn_faultnLow (e : BridgeEvent) (g : Option Nat) (data : Word) : (s.offerOwn e g data).faultnLow = s.faultnLow :=
  (congrArg State.faultnLow (s.offerOwn_frame e g data) :)

/-- Handing a frame touches the port, or the event queue and the flags (R155, R156). -/
theorem State.hand_frame (p : Port) (f : Frame) :
    s.hand p f = { s with
    up := (s.hand p f).up, down := (s.hand p f).down,
    events := (s.hand p f).events, flags := (s.hand p f).flags } := by
  unfold State.hand
  split
  · cases p <;> rfl
  · rw [s.offerOwn_frame]

@[simp] theorem State.hand_pending (p : Port) (f : Frame) : (s.hand p f).pending = s.pending :=
  (congrArg State.pending (s.hand_frame p f) :)
@[simp] theorem State.hand_now (p : Port) (f : Frame) : (s.hand p f).now = s.now :=
  (congrArg State.now (s.hand_frame p f) :)
@[simp] theorem State.hand_draws (p : Port) (f : Frame) : (s.hand p f).draws = s.draws :=
  (congrArg State.draws (s.hand_frame p f) :)
@[simp] theorem State.hand_waiting (p : Port) (f : Frame) : (s.hand p f).waiting = s.waiting :=
  (congrArg State.waiting (s.hand_frame p f) :)
@[simp] theorem State.hand_bankPresent (p : Port) (f : Frame) : (s.hand p f).bankPresent = s.bankPresent :=
  (congrArg State.bankPresent (s.hand_frame p f) :)
@[simp] theorem State.hand_active (p : Port) (f : Frame) : (s.hand p f).active = s.active :=
  (congrArg State.active (s.hand_frame p f) :)
@[simp] theorem State.hand_verifiedCrc (p : Port) (f : Frame) : (s.hand p f).verifiedCrc = s.verifiedCrc :=
  (congrArg State.verifiedCrc (s.hand_frame p f) :)
@[simp] theorem State.hand_pendingBank (p : Port) (f : Frame) : (s.hand p f).pendingBank = s.pendingBank :=
  (congrArg State.pendingBank (s.hand_frame p f) :)
@[simp] theorem State.hand_pendingState (p : Port) (f : Frame) : (s.hand p f).pendingState = s.pendingState :=
  (congrArg State.pendingState (s.hand_frame p f) :)
@[simp] theorem State.hand_expectedCrc (p : Port) (f : Frame) : (s.hand p f).expectedCrc = s.expectedCrc :=
  (congrArg State.expectedCrc (s.hand_frame p f) :)
@[simp] theorem State.hand_pendingCrc (p : Port) (f : Frame) : (s.hand p f).pendingCrc = s.pendingCrc :=
  (congrArg State.pendingCrc (s.hand_frame p f) :)
@[simp] theorem State.hand_refresh (p : Port) (f : Frame) : (s.hand p f).refresh = s.refresh :=
  (congrArg State.refresh (s.hand_frame p f) :)
@[simp] theorem State.hand_axes (p : Port) (f : Frame) : (s.hand p f).axes = s.axes :=
  (congrArg State.axes (s.hand_frame p f) :)
@[simp] theorem State.hand_forwards (p : Port) (f : Frame) : (s.hand p f).forwards = s.forwards :=
  (congrArg State.forwards (s.hand_frame p f) :)
@[simp] theorem State.hand_reportedNodes (p : Port) (f : Frame) : (s.hand p f).reportedNodes = s.reportedNodes :=
  (congrArg State.reportedNodes (s.hand_frame p f) :)
@[simp] theorem State.hand_gangs (p : Port) (f : Frame) : (s.hand p f).gangs = s.gangs :=
  (congrArg State.gangs (s.hand_frame p f) :)
@[simp] theorem State.hand_fences (p : Port) (f : Frame) : (s.hand p f).fences = s.fences :=
  (congrArg State.fences (s.hand_frame p f) :)
@[simp] theorem State.hand_windClass (p : Port) (f : Frame) : (s.hand p f).windClass = s.windClass :=
  (congrArg State.windClass (s.hand_frame p f) :)
@[simp] theorem State.hand_weatherStale (p : Port) (f : Frame) : (s.hand p f).weatherStale = s.weatherStale :=
  (congrArg State.weatherStale (s.hand_frame p f) :)
@[simp] theorem State.hand_weatherTimer (p : Port) (f : Frame) : (s.hand p f).weatherTimer = s.weatherTimer :=
  (congrArg State.weatherTimer (s.hand_frame p f) :)
@[simp] theorem State.hand_press (p : Port) (f : Frame) : (s.hand p f).press = s.press :=
  (congrArg State.press (s.hand_frame p f) :)
@[simp] theorem State.hand_pressTime (p : Port) (f : Frame) : (s.hand p f).pressTime = s.pressTime :=
  (congrArg State.pressTime (s.hand_frame p f) :)
@[simp] theorem State.hand_longTime (p : Port) (f : Frame) : (s.hand p f).longTime = s.longTime :=
  (congrArg State.longTime (s.hand_frame p f) :)
@[simp] theorem State.hand_operatorHold (p : Port) (f : Frame) : (s.hand p f).operatorHold = s.operatorHold :=
  (congrArg State.operatorHold (s.hand_frame p f) :)
@[simp] theorem State.hand_lines (p : Port) (f : Frame) : (s.hand p f).lines = s.lines :=
  (congrArg State.lines (s.hand_frame p f) :)
@[simp] theorem State.hand_deferred (p : Port) (f : Frame) : (s.hand p f).deferred = s.deferred :=
  (congrArg State.deferred (s.hand_frame p f) :)
@[simp] theorem State.hand_backoff (p : Port) (f : Frame) : (s.hand p f).backoff = s.backoff :=
  (congrArg State.backoff (s.hand_frame p f) :)
@[simp] theorem State.hand_highPtr (p : Port) (f : Frame) : (s.hand p f).highPtr = s.highPtr :=
  (congrArg State.highPtr (s.hand_frame p f) :)
@[simp] theorem State.hand_lowPtr (p : Port) (f : Frame) : (s.hand p f).lowPtr = s.lowPtr :=
  (congrArg State.lowPtr (s.hand_frame p f) :)
@[simp] theorem State.hand_openGrant (p : Port) (f : Frame) : (s.hand p f).openGrant = s.openGrant :=
  (congrArg State.openGrant (s.hand_frame p f) :)
@[simp] theorem State.hand_grantRecs (p : Port) (f : Frame) : (s.hand p f).grantRecs = s.grantRecs :=
  (congrArg State.grantRecs (s.hand_frame p f) :)
@[simp] theorem State.hand_watchdog (p : Port) (f : Frame) : (s.hand p f).watchdog = s.watchdog :=
  (congrArg State.watchdog (s.hand_frame p f) :)
@[simp] theorem State.hand_watchdogTimer (p : Port) (f : Frame) : (s.hand p f).watchdogTimer = s.watchdogTimer :=
  (congrArg State.watchdogTimer (s.hand_frame p f) :)
@[simp] theorem State.hand_olderArrival (p : Port) (f : Frame) : (s.hand p f).olderArrival = s.olderArrival :=
  (congrArg State.olderArrival (s.hand_frame p f) :)
@[simp] theorem State.hand_newerArrival (p : Port) (f : Frame) : (s.hand p f).newerArrival = s.newerArrival :=
  (congrArg State.newerArrival (s.hand_frame p f) :)
@[simp] theorem State.hand_substituteTimer (p : Port) (f : Frame) : (s.hand p f).substituteTimer = s.substituteTimer :=
  (congrArg State.substituteTimer (s.hand_frame p f) :)
@[simp] theorem State.hand_lastCycle (p : Port) (f : Frame) : (s.hand p f).lastCycle = s.lastCycle :=
  (congrArg State.lastCycle (s.hand_frame p f) :)
@[simp] theorem State.hand_due (p : Port) (f : Frame) : (s.hand p f).due = s.due :=
  (congrArg State.due (s.hand_frame p f) :)
@[simp] theorem State.hand_frameClass (p : Port) (f : Frame) : (s.hand p f).frameClass = s.frameClass :=
  (congrArg State.frameClass (s.hand_frame p f) :)
@[simp] theorem State.hand_inReset (p : Port) (f : Frame) : (s.hand p f).inReset = s.inReset :=
  (congrArg State.inReset (s.hand_frame p f) :)
@[simp] theorem State.hand_holdnLow (p : Port) (f : Frame) : (s.hand p f).holdnLow = s.holdnLow :=
  (congrArg State.holdnLow (s.hand_frame p f) :)
@[simp] theorem State.hand_sampled (p : Port) (f : Frame) : (s.hand p f).sampled = s.sampled :=
  (congrArg State.sampled (s.hand_frame p f) :)
@[simp] theorem State.hand_faultnLow (p : Port) (f : Frame) : (s.hand p f).faultnLow = s.faultnLow :=
  (congrArg State.faultnLow (s.hand_frame p f) :)

/-- Adding a hold cause touches the gang records alone (R6). -/
theorem State.addHold_frame (c : HoldCause) (g : Nat) :
    s.addHold c g = { s with
    gangs := (s.addHold c g).gangs } := s.modifyGang_frame g _

@[simp] theorem State.addHold_pending (c : HoldCause) (g : Nat) : (s.addHold c g).pending = s.pending :=
  (congrArg State.pending (s.addHold_frame c g) :)
@[simp] theorem State.addHold_now (c : HoldCause) (g : Nat) : (s.addHold c g).now = s.now :=
  (congrArg State.now (s.addHold_frame c g) :)
@[simp] theorem State.addHold_draws (c : HoldCause) (g : Nat) : (s.addHold c g).draws = s.draws :=
  (congrArg State.draws (s.addHold_frame c g) :)
@[simp] theorem State.addHold_up (c : HoldCause) (g : Nat) : (s.addHold c g).up = s.up :=
  (congrArg State.up (s.addHold_frame c g) :)
@[simp] theorem State.addHold_down (c : HoldCause) (g : Nat) : (s.addHold c g).down = s.down :=
  (congrArg State.down (s.addHold_frame c g) :)
@[simp] theorem State.addHold_waiting (c : HoldCause) (g : Nat) : (s.addHold c g).waiting = s.waiting :=
  (congrArg State.waiting (s.addHold_frame c g) :)
@[simp] theorem State.addHold_bankPresent (c : HoldCause) (g : Nat) : (s.addHold c g).bankPresent = s.bankPresent :=
  (congrArg State.bankPresent (s.addHold_frame c g) :)
@[simp] theorem State.addHold_active (c : HoldCause) (g : Nat) : (s.addHold c g).active = s.active :=
  (congrArg State.active (s.addHold_frame c g) :)
@[simp] theorem State.addHold_verifiedCrc (c : HoldCause) (g : Nat) : (s.addHold c g).verifiedCrc = s.verifiedCrc :=
  (congrArg State.verifiedCrc (s.addHold_frame c g) :)
@[simp] theorem State.addHold_pendingBank (c : HoldCause) (g : Nat) : (s.addHold c g).pendingBank = s.pendingBank :=
  (congrArg State.pendingBank (s.addHold_frame c g) :)
@[simp] theorem State.addHold_pendingState (c : HoldCause) (g : Nat) : (s.addHold c g).pendingState = s.pendingState :=
  (congrArg State.pendingState (s.addHold_frame c g) :)
@[simp] theorem State.addHold_expectedCrc (c : HoldCause) (g : Nat) : (s.addHold c g).expectedCrc = s.expectedCrc :=
  (congrArg State.expectedCrc (s.addHold_frame c g) :)
@[simp] theorem State.addHold_pendingCrc (c : HoldCause) (g : Nat) : (s.addHold c g).pendingCrc = s.pendingCrc :=
  (congrArg State.pendingCrc (s.addHold_frame c g) :)
@[simp] theorem State.addHold_refresh (c : HoldCause) (g : Nat) : (s.addHold c g).refresh = s.refresh :=
  (congrArg State.refresh (s.addHold_frame c g) :)
@[simp] theorem State.addHold_axes (c : HoldCause) (g : Nat) : (s.addHold c g).axes = s.axes :=
  (congrArg State.axes (s.addHold_frame c g) :)
@[simp] theorem State.addHold_forwards (c : HoldCause) (g : Nat) : (s.addHold c g).forwards = s.forwards :=
  (congrArg State.forwards (s.addHold_frame c g) :)
@[simp] theorem State.addHold_reportedNodes (c : HoldCause) (g : Nat) : (s.addHold c g).reportedNodes = s.reportedNodes :=
  (congrArg State.reportedNodes (s.addHold_frame c g) :)
@[simp] theorem State.addHold_fences (c : HoldCause) (g : Nat) : (s.addHold c g).fences = s.fences :=
  (congrArg State.fences (s.addHold_frame c g) :)
@[simp] theorem State.addHold_windClass (c : HoldCause) (g : Nat) : (s.addHold c g).windClass = s.windClass :=
  (congrArg State.windClass (s.addHold_frame c g) :)
@[simp] theorem State.addHold_weatherStale (c : HoldCause) (g : Nat) : (s.addHold c g).weatherStale = s.weatherStale :=
  (congrArg State.weatherStale (s.addHold_frame c g) :)
@[simp] theorem State.addHold_weatherTimer (c : HoldCause) (g : Nat) : (s.addHold c g).weatherTimer = s.weatherTimer :=
  (congrArg State.weatherTimer (s.addHold_frame c g) :)
@[simp] theorem State.addHold_press (c : HoldCause) (g : Nat) : (s.addHold c g).press = s.press :=
  (congrArg State.press (s.addHold_frame c g) :)
@[simp] theorem State.addHold_pressTime (c : HoldCause) (g : Nat) : (s.addHold c g).pressTime = s.pressTime :=
  (congrArg State.pressTime (s.addHold_frame c g) :)
@[simp] theorem State.addHold_longTime (c : HoldCause) (g : Nat) : (s.addHold c g).longTime = s.longTime :=
  (congrArg State.longTime (s.addHold_frame c g) :)
@[simp] theorem State.addHold_operatorHold (c : HoldCause) (g : Nat) : (s.addHold c g).operatorHold = s.operatorHold :=
  (congrArg State.operatorHold (s.addHold_frame c g) :)
@[simp] theorem State.addHold_lines (c : HoldCause) (g : Nat) : (s.addHold c g).lines = s.lines :=
  (congrArg State.lines (s.addHold_frame c g) :)
@[simp] theorem State.addHold_deferred (c : HoldCause) (g : Nat) : (s.addHold c g).deferred = s.deferred :=
  (congrArg State.deferred (s.addHold_frame c g) :)
@[simp] theorem State.addHold_backoff (c : HoldCause) (g : Nat) : (s.addHold c g).backoff = s.backoff :=
  (congrArg State.backoff (s.addHold_frame c g) :)
@[simp] theorem State.addHold_highPtr (c : HoldCause) (g : Nat) : (s.addHold c g).highPtr = s.highPtr :=
  (congrArg State.highPtr (s.addHold_frame c g) :)
@[simp] theorem State.addHold_lowPtr (c : HoldCause) (g : Nat) : (s.addHold c g).lowPtr = s.lowPtr :=
  (congrArg State.lowPtr (s.addHold_frame c g) :)
@[simp] theorem State.addHold_openGrant (c : HoldCause) (g : Nat) : (s.addHold c g).openGrant = s.openGrant :=
  (congrArg State.openGrant (s.addHold_frame c g) :)
@[simp] theorem State.addHold_grantRecs (c : HoldCause) (g : Nat) : (s.addHold c g).grantRecs = s.grantRecs :=
  (congrArg State.grantRecs (s.addHold_frame c g) :)
@[simp] theorem State.addHold_watchdog (c : HoldCause) (g : Nat) : (s.addHold c g).watchdog = s.watchdog :=
  (congrArg State.watchdog (s.addHold_frame c g) :)
@[simp] theorem State.addHold_watchdogTimer (c : HoldCause) (g : Nat) : (s.addHold c g).watchdogTimer = s.watchdogTimer :=
  (congrArg State.watchdogTimer (s.addHold_frame c g) :)
@[simp] theorem State.addHold_olderArrival (c : HoldCause) (g : Nat) : (s.addHold c g).olderArrival = s.olderArrival :=
  (congrArg State.olderArrival (s.addHold_frame c g) :)
@[simp] theorem State.addHold_newerArrival (c : HoldCause) (g : Nat) : (s.addHold c g).newerArrival = s.newerArrival :=
  (congrArg State.newerArrival (s.addHold_frame c g) :)
@[simp] theorem State.addHold_substituteTimer (c : HoldCause) (g : Nat) : (s.addHold c g).substituteTimer = s.substituteTimer :=
  (congrArg State.substituteTimer (s.addHold_frame c g) :)
@[simp] theorem State.addHold_lastCycle (c : HoldCause) (g : Nat) : (s.addHold c g).lastCycle = s.lastCycle :=
  (congrArg State.lastCycle (s.addHold_frame c g) :)
@[simp] theorem State.addHold_flags (c : HoldCause) (g : Nat) : (s.addHold c g).flags = s.flags :=
  (congrArg State.flags (s.addHold_frame c g) :)
@[simp] theorem State.addHold_events (c : HoldCause) (g : Nat) : (s.addHold c g).events = s.events :=
  (congrArg State.events (s.addHold_frame c g) :)
@[simp] theorem State.addHold_due (c : HoldCause) (g : Nat) : (s.addHold c g).due = s.due :=
  (congrArg State.due (s.addHold_frame c g) :)
@[simp] theorem State.addHold_frameClass (c : HoldCause) (g : Nat) : (s.addHold c g).frameClass = s.frameClass :=
  (congrArg State.frameClass (s.addHold_frame c g) :)
@[simp] theorem State.addHold_inReset (c : HoldCause) (g : Nat) : (s.addHold c g).inReset = s.inReset :=
  (congrArg State.inReset (s.addHold_frame c g) :)
@[simp] theorem State.addHold_holdnLow (c : HoldCause) (g : Nat) : (s.addHold c g).holdnLow = s.holdnLow :=
  (congrArg State.holdnLow (s.addHold_frame c g) :)
@[simp] theorem State.addHold_sampled (c : HoldCause) (g : Nat) : (s.addHold c g).sampled = s.sampled :=
  (congrArg State.sampled (s.addHold_frame c g) :)
@[simp] theorem State.addHold_faultnLow (c : HoldCause) (g : Nat) : (s.addHold c g).faultnLow = s.faultnLow :=
  (congrArg State.faultnLow (s.addHold_frame c g) :)

/-- Removing a hold cause touches the gang records alone (R7). -/
theorem State.removeHold_frame (c : HoldCause) (g : Nat) :
    s.removeHold c g = { s with
    gangs := (s.removeHold c g).gangs } := s.modifyGang_frame g _

@[simp] theorem State.removeHold_pending (c : HoldCause) (g : Nat) : (s.removeHold c g).pending = s.pending :=
  (congrArg State.pending (s.removeHold_frame c g) :)
@[simp] theorem State.removeHold_now (c : HoldCause) (g : Nat) : (s.removeHold c g).now = s.now :=
  (congrArg State.now (s.removeHold_frame c g) :)
@[simp] theorem State.removeHold_draws (c : HoldCause) (g : Nat) : (s.removeHold c g).draws = s.draws :=
  (congrArg State.draws (s.removeHold_frame c g) :)
@[simp] theorem State.removeHold_up (c : HoldCause) (g : Nat) : (s.removeHold c g).up = s.up :=
  (congrArg State.up (s.removeHold_frame c g) :)
@[simp] theorem State.removeHold_down (c : HoldCause) (g : Nat) : (s.removeHold c g).down = s.down :=
  (congrArg State.down (s.removeHold_frame c g) :)
@[simp] theorem State.removeHold_waiting (c : HoldCause) (g : Nat) : (s.removeHold c g).waiting = s.waiting :=
  (congrArg State.waiting (s.removeHold_frame c g) :)
@[simp] theorem State.removeHold_bankPresent (c : HoldCause) (g : Nat) : (s.removeHold c g).bankPresent = s.bankPresent :=
  (congrArg State.bankPresent (s.removeHold_frame c g) :)
@[simp] theorem State.removeHold_active (c : HoldCause) (g : Nat) : (s.removeHold c g).active = s.active :=
  (congrArg State.active (s.removeHold_frame c g) :)
@[simp] theorem State.removeHold_verifiedCrc (c : HoldCause) (g : Nat) : (s.removeHold c g).verifiedCrc = s.verifiedCrc :=
  (congrArg State.verifiedCrc (s.removeHold_frame c g) :)
@[simp] theorem State.removeHold_pendingBank (c : HoldCause) (g : Nat) : (s.removeHold c g).pendingBank = s.pendingBank :=
  (congrArg State.pendingBank (s.removeHold_frame c g) :)
@[simp] theorem State.removeHold_pendingState (c : HoldCause) (g : Nat) : (s.removeHold c g).pendingState = s.pendingState :=
  (congrArg State.pendingState (s.removeHold_frame c g) :)
@[simp] theorem State.removeHold_expectedCrc (c : HoldCause) (g : Nat) : (s.removeHold c g).expectedCrc = s.expectedCrc :=
  (congrArg State.expectedCrc (s.removeHold_frame c g) :)
@[simp] theorem State.removeHold_pendingCrc (c : HoldCause) (g : Nat) : (s.removeHold c g).pendingCrc = s.pendingCrc :=
  (congrArg State.pendingCrc (s.removeHold_frame c g) :)
@[simp] theorem State.removeHold_refresh (c : HoldCause) (g : Nat) : (s.removeHold c g).refresh = s.refresh :=
  (congrArg State.refresh (s.removeHold_frame c g) :)
@[simp] theorem State.removeHold_axes (c : HoldCause) (g : Nat) : (s.removeHold c g).axes = s.axes :=
  (congrArg State.axes (s.removeHold_frame c g) :)
@[simp] theorem State.removeHold_forwards (c : HoldCause) (g : Nat) : (s.removeHold c g).forwards = s.forwards :=
  (congrArg State.forwards (s.removeHold_frame c g) :)
@[simp] theorem State.removeHold_reportedNodes (c : HoldCause) (g : Nat) : (s.removeHold c g).reportedNodes = s.reportedNodes :=
  (congrArg State.reportedNodes (s.removeHold_frame c g) :)
@[simp] theorem State.removeHold_fences (c : HoldCause) (g : Nat) : (s.removeHold c g).fences = s.fences :=
  (congrArg State.fences (s.removeHold_frame c g) :)
@[simp] theorem State.removeHold_windClass (c : HoldCause) (g : Nat) : (s.removeHold c g).windClass = s.windClass :=
  (congrArg State.windClass (s.removeHold_frame c g) :)
@[simp] theorem State.removeHold_weatherStale (c : HoldCause) (g : Nat) : (s.removeHold c g).weatherStale = s.weatherStale :=
  (congrArg State.weatherStale (s.removeHold_frame c g) :)
@[simp] theorem State.removeHold_weatherTimer (c : HoldCause) (g : Nat) : (s.removeHold c g).weatherTimer = s.weatherTimer :=
  (congrArg State.weatherTimer (s.removeHold_frame c g) :)
@[simp] theorem State.removeHold_press (c : HoldCause) (g : Nat) : (s.removeHold c g).press = s.press :=
  (congrArg State.press (s.removeHold_frame c g) :)
@[simp] theorem State.removeHold_pressTime (c : HoldCause) (g : Nat) : (s.removeHold c g).pressTime = s.pressTime :=
  (congrArg State.pressTime (s.removeHold_frame c g) :)
@[simp] theorem State.removeHold_longTime (c : HoldCause) (g : Nat) : (s.removeHold c g).longTime = s.longTime :=
  (congrArg State.longTime (s.removeHold_frame c g) :)
@[simp] theorem State.removeHold_operatorHold (c : HoldCause) (g : Nat) : (s.removeHold c g).operatorHold = s.operatorHold :=
  (congrArg State.operatorHold (s.removeHold_frame c g) :)
@[simp] theorem State.removeHold_lines (c : HoldCause) (g : Nat) : (s.removeHold c g).lines = s.lines :=
  (congrArg State.lines (s.removeHold_frame c g) :)
@[simp] theorem State.removeHold_deferred (c : HoldCause) (g : Nat) : (s.removeHold c g).deferred = s.deferred :=
  (congrArg State.deferred (s.removeHold_frame c g) :)
@[simp] theorem State.removeHold_backoff (c : HoldCause) (g : Nat) : (s.removeHold c g).backoff = s.backoff :=
  (congrArg State.backoff (s.removeHold_frame c g) :)
@[simp] theorem State.removeHold_highPtr (c : HoldCause) (g : Nat) : (s.removeHold c g).highPtr = s.highPtr :=
  (congrArg State.highPtr (s.removeHold_frame c g) :)
@[simp] theorem State.removeHold_lowPtr (c : HoldCause) (g : Nat) : (s.removeHold c g).lowPtr = s.lowPtr :=
  (congrArg State.lowPtr (s.removeHold_frame c g) :)
@[simp] theorem State.removeHold_openGrant (c : HoldCause) (g : Nat) : (s.removeHold c g).openGrant = s.openGrant :=
  (congrArg State.openGrant (s.removeHold_frame c g) :)
@[simp] theorem State.removeHold_grantRecs (c : HoldCause) (g : Nat) : (s.removeHold c g).grantRecs = s.grantRecs :=
  (congrArg State.grantRecs (s.removeHold_frame c g) :)
@[simp] theorem State.removeHold_watchdog (c : HoldCause) (g : Nat) : (s.removeHold c g).watchdog = s.watchdog :=
  (congrArg State.watchdog (s.removeHold_frame c g) :)
@[simp] theorem State.removeHold_watchdogTimer (c : HoldCause) (g : Nat) : (s.removeHold c g).watchdogTimer = s.watchdogTimer :=
  (congrArg State.watchdogTimer (s.removeHold_frame c g) :)
@[simp] theorem State.removeHold_olderArrival (c : HoldCause) (g : Nat) : (s.removeHold c g).olderArrival = s.olderArrival :=
  (congrArg State.olderArrival (s.removeHold_frame c g) :)
@[simp] theorem State.removeHold_newerArrival (c : HoldCause) (g : Nat) : (s.removeHold c g).newerArrival = s.newerArrival :=
  (congrArg State.newerArrival (s.removeHold_frame c g) :)
@[simp] theorem State.removeHold_substituteTimer (c : HoldCause) (g : Nat) : (s.removeHold c g).substituteTimer = s.substituteTimer :=
  (congrArg State.substituteTimer (s.removeHold_frame c g) :)
@[simp] theorem State.removeHold_lastCycle (c : HoldCause) (g : Nat) : (s.removeHold c g).lastCycle = s.lastCycle :=
  (congrArg State.lastCycle (s.removeHold_frame c g) :)
@[simp] theorem State.removeHold_flags (c : HoldCause) (g : Nat) : (s.removeHold c g).flags = s.flags :=
  (congrArg State.flags (s.removeHold_frame c g) :)
@[simp] theorem State.removeHold_events (c : HoldCause) (g : Nat) : (s.removeHold c g).events = s.events :=
  (congrArg State.events (s.removeHold_frame c g) :)
@[simp] theorem State.removeHold_due (c : HoldCause) (g : Nat) : (s.removeHold c g).due = s.due :=
  (congrArg State.due (s.removeHold_frame c g) :)
@[simp] theorem State.removeHold_frameClass (c : HoldCause) (g : Nat) : (s.removeHold c g).frameClass = s.frameClass :=
  (congrArg State.frameClass (s.removeHold_frame c g) :)
@[simp] theorem State.removeHold_inReset (c : HoldCause) (g : Nat) : (s.removeHold c g).inReset = s.inReset :=
  (congrArg State.inReset (s.removeHold_frame c g) :)
@[simp] theorem State.removeHold_holdnLow (c : HoldCause) (g : Nat) : (s.removeHold c g).holdnLow = s.holdnLow :=
  (congrArg State.holdnLow (s.removeHold_frame c g) :)
@[simp] theorem State.removeHold_sampled (c : HoldCause) (g : Nat) : (s.removeHold c g).sampled = s.sampled :=
  (congrArg State.sampled (s.removeHold_frame c g) :)
@[simp] theorem State.removeHold_faultnLow (c : HoldCause) (g : Nat) : (s.removeHold c g).faultnLow = s.faultnLow :=
  (congrArg State.faultnLow (s.removeHold_frame c g) :)

/-- What holds before and is kept by each operation holds after all of them. -/
theorem forEach_induct {P : State → Prop} {f : State → Nat → State} (n : Nat) (s : State) (h : P s)
    (hs : ∀ t i, i < n → P t → P (f t i)) : P (forEach n f s) := by
  have : ∀ (l : List Nat) (t : State), (∀ i ∈ l, i < n) → P t → P (l.foldl f t) := by
    intro l
    induction l with
    | nil => intro t _ ht; exact ht
    | cons i l ih =>
      intro t hl ht
      exact ih _ (fun j hj => hl j (List.mem_cons_of_mem _ hj)) (hs t i (hl i List.mem_cons_self) ht)
  exact this _ s (fun i hi => List.mem_range.mp hi) h

/-- As `forEach_induct`, for the gangs. -/
theorem forGangs_induct {P : State → Prop} {f : State → Nat → State} (s : State) (h : P s)
    (hs : ∀ t g, g < 8 → P t → P (f t g)) : P (forGangs f s) := forEach_induct 8 s h hs

/-- As `forEach_induct`, for the axis rows. -/
theorem forAxes_induct {P : State → Prop} {f : State → Nat → State} (s : State) (h : P s)
    (hs : ∀ t i, i < 64 → P t → P (f t i)) : P (forAxes f s) := forEach_induct 64 s h hs

/-- An operation for each gang that touches the gang records alone does so as a whole. -/
theorem forGangs_gangs_frame {f : State → Nat → State} (hf : ∀ t g, f t g = { t with gangs := (f t g).gangs }) :
    forGangs f s = { s with gangs := (forGangs f s).gangs } :=
  forGangs_induct (P := fun t => t = { s with gangs := t.gangs }) s rfl
    (fun t g _ ht => by rw [hf t g, ht])

/-- Adding a hold cause to every gang touches the gang records alone. -/
theorem State.addHoldAll_frame (c : HoldCause) :
    s.addHoldAll c = { s with
    gangs := (s.addHoldAll c).gangs } := forGangs_gangs_frame s fun t g => t.addHold_frame c g

@[simp] theorem State.addHoldAll_pending (c : HoldCause) : (s.addHoldAll c).pending = s.pending :=
  (congrArg State.pending (s.addHoldAll_frame c) :)
@[simp] theorem State.addHoldAll_now (c : HoldCause) : (s.addHoldAll c).now = s.now :=
  (congrArg State.now (s.addHoldAll_frame c) :)
@[simp] theorem State.addHoldAll_draws (c : HoldCause) : (s.addHoldAll c).draws = s.draws :=
  (congrArg State.draws (s.addHoldAll_frame c) :)
@[simp] theorem State.addHoldAll_up (c : HoldCause) : (s.addHoldAll c).up = s.up :=
  (congrArg State.up (s.addHoldAll_frame c) :)
@[simp] theorem State.addHoldAll_down (c : HoldCause) : (s.addHoldAll c).down = s.down :=
  (congrArg State.down (s.addHoldAll_frame c) :)
@[simp] theorem State.addHoldAll_waiting (c : HoldCause) : (s.addHoldAll c).waiting = s.waiting :=
  (congrArg State.waiting (s.addHoldAll_frame c) :)
@[simp] theorem State.addHoldAll_bankPresent (c : HoldCause) : (s.addHoldAll c).bankPresent = s.bankPresent :=
  (congrArg State.bankPresent (s.addHoldAll_frame c) :)
@[simp] theorem State.addHoldAll_active (c : HoldCause) : (s.addHoldAll c).active = s.active :=
  (congrArg State.active (s.addHoldAll_frame c) :)
@[simp] theorem State.addHoldAll_verifiedCrc (c : HoldCause) : (s.addHoldAll c).verifiedCrc = s.verifiedCrc :=
  (congrArg State.verifiedCrc (s.addHoldAll_frame c) :)
@[simp] theorem State.addHoldAll_pendingBank (c : HoldCause) : (s.addHoldAll c).pendingBank = s.pendingBank :=
  (congrArg State.pendingBank (s.addHoldAll_frame c) :)
@[simp] theorem State.addHoldAll_pendingState (c : HoldCause) : (s.addHoldAll c).pendingState = s.pendingState :=
  (congrArg State.pendingState (s.addHoldAll_frame c) :)
@[simp] theorem State.addHoldAll_expectedCrc (c : HoldCause) : (s.addHoldAll c).expectedCrc = s.expectedCrc :=
  (congrArg State.expectedCrc (s.addHoldAll_frame c) :)
@[simp] theorem State.addHoldAll_pendingCrc (c : HoldCause) : (s.addHoldAll c).pendingCrc = s.pendingCrc :=
  (congrArg State.pendingCrc (s.addHoldAll_frame c) :)
@[simp] theorem State.addHoldAll_refresh (c : HoldCause) : (s.addHoldAll c).refresh = s.refresh :=
  (congrArg State.refresh (s.addHoldAll_frame c) :)
@[simp] theorem State.addHoldAll_axes (c : HoldCause) : (s.addHoldAll c).axes = s.axes :=
  (congrArg State.axes (s.addHoldAll_frame c) :)
@[simp] theorem State.addHoldAll_forwards (c : HoldCause) : (s.addHoldAll c).forwards = s.forwards :=
  (congrArg State.forwards (s.addHoldAll_frame c) :)
@[simp] theorem State.addHoldAll_reportedNodes (c : HoldCause) : (s.addHoldAll c).reportedNodes = s.reportedNodes :=
  (congrArg State.reportedNodes (s.addHoldAll_frame c) :)
@[simp] theorem State.addHoldAll_fences (c : HoldCause) : (s.addHoldAll c).fences = s.fences :=
  (congrArg State.fences (s.addHoldAll_frame c) :)
@[simp] theorem State.addHoldAll_windClass (c : HoldCause) : (s.addHoldAll c).windClass = s.windClass :=
  (congrArg State.windClass (s.addHoldAll_frame c) :)
@[simp] theorem State.addHoldAll_weatherStale (c : HoldCause) : (s.addHoldAll c).weatherStale = s.weatherStale :=
  (congrArg State.weatherStale (s.addHoldAll_frame c) :)
@[simp] theorem State.addHoldAll_weatherTimer (c : HoldCause) : (s.addHoldAll c).weatherTimer = s.weatherTimer :=
  (congrArg State.weatherTimer (s.addHoldAll_frame c) :)
@[simp] theorem State.addHoldAll_press (c : HoldCause) : (s.addHoldAll c).press = s.press :=
  (congrArg State.press (s.addHoldAll_frame c) :)
@[simp] theorem State.addHoldAll_pressTime (c : HoldCause) : (s.addHoldAll c).pressTime = s.pressTime :=
  (congrArg State.pressTime (s.addHoldAll_frame c) :)
@[simp] theorem State.addHoldAll_longTime (c : HoldCause) : (s.addHoldAll c).longTime = s.longTime :=
  (congrArg State.longTime (s.addHoldAll_frame c) :)
@[simp] theorem State.addHoldAll_operatorHold (c : HoldCause) : (s.addHoldAll c).operatorHold = s.operatorHold :=
  (congrArg State.operatorHold (s.addHoldAll_frame c) :)
@[simp] theorem State.addHoldAll_lines (c : HoldCause) : (s.addHoldAll c).lines = s.lines :=
  (congrArg State.lines (s.addHoldAll_frame c) :)
@[simp] theorem State.addHoldAll_deferred (c : HoldCause) : (s.addHoldAll c).deferred = s.deferred :=
  (congrArg State.deferred (s.addHoldAll_frame c) :)
@[simp] theorem State.addHoldAll_backoff (c : HoldCause) : (s.addHoldAll c).backoff = s.backoff :=
  (congrArg State.backoff (s.addHoldAll_frame c) :)
@[simp] theorem State.addHoldAll_highPtr (c : HoldCause) : (s.addHoldAll c).highPtr = s.highPtr :=
  (congrArg State.highPtr (s.addHoldAll_frame c) :)
@[simp] theorem State.addHoldAll_lowPtr (c : HoldCause) : (s.addHoldAll c).lowPtr = s.lowPtr :=
  (congrArg State.lowPtr (s.addHoldAll_frame c) :)
@[simp] theorem State.addHoldAll_openGrant (c : HoldCause) : (s.addHoldAll c).openGrant = s.openGrant :=
  (congrArg State.openGrant (s.addHoldAll_frame c) :)
@[simp] theorem State.addHoldAll_grantRecs (c : HoldCause) : (s.addHoldAll c).grantRecs = s.grantRecs :=
  (congrArg State.grantRecs (s.addHoldAll_frame c) :)
@[simp] theorem State.addHoldAll_watchdog (c : HoldCause) : (s.addHoldAll c).watchdog = s.watchdog :=
  (congrArg State.watchdog (s.addHoldAll_frame c) :)
@[simp] theorem State.addHoldAll_watchdogTimer (c : HoldCause) : (s.addHoldAll c).watchdogTimer = s.watchdogTimer :=
  (congrArg State.watchdogTimer (s.addHoldAll_frame c) :)
@[simp] theorem State.addHoldAll_olderArrival (c : HoldCause) : (s.addHoldAll c).olderArrival = s.olderArrival :=
  (congrArg State.olderArrival (s.addHoldAll_frame c) :)
@[simp] theorem State.addHoldAll_newerArrival (c : HoldCause) : (s.addHoldAll c).newerArrival = s.newerArrival :=
  (congrArg State.newerArrival (s.addHoldAll_frame c) :)
@[simp] theorem State.addHoldAll_substituteTimer (c : HoldCause) : (s.addHoldAll c).substituteTimer = s.substituteTimer :=
  (congrArg State.substituteTimer (s.addHoldAll_frame c) :)
@[simp] theorem State.addHoldAll_lastCycle (c : HoldCause) : (s.addHoldAll c).lastCycle = s.lastCycle :=
  (congrArg State.lastCycle (s.addHoldAll_frame c) :)
@[simp] theorem State.addHoldAll_flags (c : HoldCause) : (s.addHoldAll c).flags = s.flags :=
  (congrArg State.flags (s.addHoldAll_frame c) :)
@[simp] theorem State.addHoldAll_events (c : HoldCause) : (s.addHoldAll c).events = s.events :=
  (congrArg State.events (s.addHoldAll_frame c) :)
@[simp] theorem State.addHoldAll_due (c : HoldCause) : (s.addHoldAll c).due = s.due :=
  (congrArg State.due (s.addHoldAll_frame c) :)
@[simp] theorem State.addHoldAll_frameClass (c : HoldCause) : (s.addHoldAll c).frameClass = s.frameClass :=
  (congrArg State.frameClass (s.addHoldAll_frame c) :)
@[simp] theorem State.addHoldAll_inReset (c : HoldCause) : (s.addHoldAll c).inReset = s.inReset :=
  (congrArg State.inReset (s.addHoldAll_frame c) :)
@[simp] theorem State.addHoldAll_holdnLow (c : HoldCause) : (s.addHoldAll c).holdnLow = s.holdnLow :=
  (congrArg State.holdnLow (s.addHoldAll_frame c) :)
@[simp] theorem State.addHoldAll_sampled (c : HoldCause) : (s.addHoldAll c).sampled = s.sampled :=
  (congrArg State.sampled (s.addHoldAll_frame c) :)
@[simp] theorem State.addHoldAll_faultnLow (c : HoldCause) : (s.addHoldAll c).faultnLow = s.faultnLow :=
  (congrArg State.faultnLow (s.addHoldAll_frame c) :)

/-- Removing a hold cause from every gang touches the gang records alone. -/
theorem State.removeHoldAll_frame (c : HoldCause) :
    s.removeHoldAll c = { s with
    gangs := (s.removeHoldAll c).gangs } := forGangs_gangs_frame s fun t g => t.removeHold_frame c g

@[simp] theorem State.removeHoldAll_pending (c : HoldCause) : (s.removeHoldAll c).pending = s.pending :=
  (congrArg State.pending (s.removeHoldAll_frame c) :)
@[simp] theorem State.removeHoldAll_now (c : HoldCause) : (s.removeHoldAll c).now = s.now :=
  (congrArg State.now (s.removeHoldAll_frame c) :)
@[simp] theorem State.removeHoldAll_draws (c : HoldCause) : (s.removeHoldAll c).draws = s.draws :=
  (congrArg State.draws (s.removeHoldAll_frame c) :)
@[simp] theorem State.removeHoldAll_up (c : HoldCause) : (s.removeHoldAll c).up = s.up :=
  (congrArg State.up (s.removeHoldAll_frame c) :)
@[simp] theorem State.removeHoldAll_down (c : HoldCause) : (s.removeHoldAll c).down = s.down :=
  (congrArg State.down (s.removeHoldAll_frame c) :)
@[simp] theorem State.removeHoldAll_waiting (c : HoldCause) : (s.removeHoldAll c).waiting = s.waiting :=
  (congrArg State.waiting (s.removeHoldAll_frame c) :)
@[simp] theorem State.removeHoldAll_bankPresent (c : HoldCause) : (s.removeHoldAll c).bankPresent = s.bankPresent :=
  (congrArg State.bankPresent (s.removeHoldAll_frame c) :)
@[simp] theorem State.removeHoldAll_active (c : HoldCause) : (s.removeHoldAll c).active = s.active :=
  (congrArg State.active (s.removeHoldAll_frame c) :)
@[simp] theorem State.removeHoldAll_verifiedCrc (c : HoldCause) : (s.removeHoldAll c).verifiedCrc = s.verifiedCrc :=
  (congrArg State.verifiedCrc (s.removeHoldAll_frame c) :)
@[simp] theorem State.removeHoldAll_pendingBank (c : HoldCause) : (s.removeHoldAll c).pendingBank = s.pendingBank :=
  (congrArg State.pendingBank (s.removeHoldAll_frame c) :)
@[simp] theorem State.removeHoldAll_pendingState (c : HoldCause) : (s.removeHoldAll c).pendingState = s.pendingState :=
  (congrArg State.pendingState (s.removeHoldAll_frame c) :)
@[simp] theorem State.removeHoldAll_expectedCrc (c : HoldCause) : (s.removeHoldAll c).expectedCrc = s.expectedCrc :=
  (congrArg State.expectedCrc (s.removeHoldAll_frame c) :)
@[simp] theorem State.removeHoldAll_pendingCrc (c : HoldCause) : (s.removeHoldAll c).pendingCrc = s.pendingCrc :=
  (congrArg State.pendingCrc (s.removeHoldAll_frame c) :)
@[simp] theorem State.removeHoldAll_refresh (c : HoldCause) : (s.removeHoldAll c).refresh = s.refresh :=
  (congrArg State.refresh (s.removeHoldAll_frame c) :)
@[simp] theorem State.removeHoldAll_axes (c : HoldCause) : (s.removeHoldAll c).axes = s.axes :=
  (congrArg State.axes (s.removeHoldAll_frame c) :)
@[simp] theorem State.removeHoldAll_forwards (c : HoldCause) : (s.removeHoldAll c).forwards = s.forwards :=
  (congrArg State.forwards (s.removeHoldAll_frame c) :)
@[simp] theorem State.removeHoldAll_reportedNodes (c : HoldCause) : (s.removeHoldAll c).reportedNodes = s.reportedNodes :=
  (congrArg State.reportedNodes (s.removeHoldAll_frame c) :)
@[simp] theorem State.removeHoldAll_fences (c : HoldCause) : (s.removeHoldAll c).fences = s.fences :=
  (congrArg State.fences (s.removeHoldAll_frame c) :)
@[simp] theorem State.removeHoldAll_windClass (c : HoldCause) : (s.removeHoldAll c).windClass = s.windClass :=
  (congrArg State.windClass (s.removeHoldAll_frame c) :)
@[simp] theorem State.removeHoldAll_weatherStale (c : HoldCause) : (s.removeHoldAll c).weatherStale = s.weatherStale :=
  (congrArg State.weatherStale (s.removeHoldAll_frame c) :)
@[simp] theorem State.removeHoldAll_weatherTimer (c : HoldCause) : (s.removeHoldAll c).weatherTimer = s.weatherTimer :=
  (congrArg State.weatherTimer (s.removeHoldAll_frame c) :)
@[simp] theorem State.removeHoldAll_press (c : HoldCause) : (s.removeHoldAll c).press = s.press :=
  (congrArg State.press (s.removeHoldAll_frame c) :)
@[simp] theorem State.removeHoldAll_pressTime (c : HoldCause) : (s.removeHoldAll c).pressTime = s.pressTime :=
  (congrArg State.pressTime (s.removeHoldAll_frame c) :)
@[simp] theorem State.removeHoldAll_longTime (c : HoldCause) : (s.removeHoldAll c).longTime = s.longTime :=
  (congrArg State.longTime (s.removeHoldAll_frame c) :)
@[simp] theorem State.removeHoldAll_operatorHold (c : HoldCause) : (s.removeHoldAll c).operatorHold = s.operatorHold :=
  (congrArg State.operatorHold (s.removeHoldAll_frame c) :)
@[simp] theorem State.removeHoldAll_lines (c : HoldCause) : (s.removeHoldAll c).lines = s.lines :=
  (congrArg State.lines (s.removeHoldAll_frame c) :)
@[simp] theorem State.removeHoldAll_deferred (c : HoldCause) : (s.removeHoldAll c).deferred = s.deferred :=
  (congrArg State.deferred (s.removeHoldAll_frame c) :)
@[simp] theorem State.removeHoldAll_backoff (c : HoldCause) : (s.removeHoldAll c).backoff = s.backoff :=
  (congrArg State.backoff (s.removeHoldAll_frame c) :)
@[simp] theorem State.removeHoldAll_highPtr (c : HoldCause) : (s.removeHoldAll c).highPtr = s.highPtr :=
  (congrArg State.highPtr (s.removeHoldAll_frame c) :)
@[simp] theorem State.removeHoldAll_lowPtr (c : HoldCause) : (s.removeHoldAll c).lowPtr = s.lowPtr :=
  (congrArg State.lowPtr (s.removeHoldAll_frame c) :)
@[simp] theorem State.removeHoldAll_openGrant (c : HoldCause) : (s.removeHoldAll c).openGrant = s.openGrant :=
  (congrArg State.openGrant (s.removeHoldAll_frame c) :)
@[simp] theorem State.removeHoldAll_grantRecs (c : HoldCause) : (s.removeHoldAll c).grantRecs = s.grantRecs :=
  (congrArg State.grantRecs (s.removeHoldAll_frame c) :)
@[simp] theorem State.removeHoldAll_watchdog (c : HoldCause) : (s.removeHoldAll c).watchdog = s.watchdog :=
  (congrArg State.watchdog (s.removeHoldAll_frame c) :)
@[simp] theorem State.removeHoldAll_watchdogTimer (c : HoldCause) : (s.removeHoldAll c).watchdogTimer = s.watchdogTimer :=
  (congrArg State.watchdogTimer (s.removeHoldAll_frame c) :)
@[simp] theorem State.removeHoldAll_olderArrival (c : HoldCause) : (s.removeHoldAll c).olderArrival = s.olderArrival :=
  (congrArg State.olderArrival (s.removeHoldAll_frame c) :)
@[simp] theorem State.removeHoldAll_newerArrival (c : HoldCause) : (s.removeHoldAll c).newerArrival = s.newerArrival :=
  (congrArg State.newerArrival (s.removeHoldAll_frame c) :)
@[simp] theorem State.removeHoldAll_substituteTimer (c : HoldCause) : (s.removeHoldAll c).substituteTimer = s.substituteTimer :=
  (congrArg State.substituteTimer (s.removeHoldAll_frame c) :)
@[simp] theorem State.removeHoldAll_lastCycle (c : HoldCause) : (s.removeHoldAll c).lastCycle = s.lastCycle :=
  (congrArg State.lastCycle (s.removeHoldAll_frame c) :)
@[simp] theorem State.removeHoldAll_flags (c : HoldCause) : (s.removeHoldAll c).flags = s.flags :=
  (congrArg State.flags (s.removeHoldAll_frame c) :)
@[simp] theorem State.removeHoldAll_events (c : HoldCause) : (s.removeHoldAll c).events = s.events :=
  (congrArg State.events (s.removeHoldAll_frame c) :)
@[simp] theorem State.removeHoldAll_due (c : HoldCause) : (s.removeHoldAll c).due = s.due :=
  (congrArg State.due (s.removeHoldAll_frame c) :)
@[simp] theorem State.removeHoldAll_frameClass (c : HoldCause) : (s.removeHoldAll c).frameClass = s.frameClass :=
  (congrArg State.frameClass (s.removeHoldAll_frame c) :)
@[simp] theorem State.removeHoldAll_inReset (c : HoldCause) : (s.removeHoldAll c).inReset = s.inReset :=
  (congrArg State.inReset (s.removeHoldAll_frame c) :)
@[simp] theorem State.removeHoldAll_holdnLow (c : HoldCause) : (s.removeHoldAll c).holdnLow = s.holdnLow :=
  (congrArg State.holdnLow (s.removeHoldAll_frame c) :)
@[simp] theorem State.removeHoldAll_sampled (c : HoldCause) : (s.removeHoldAll c).sampled = s.sampled :=
  (congrArg State.sampled (s.removeHoldAll_frame c) :)
@[simp] theorem State.removeHoldAll_faultnLow (c : HoldCause) : (s.removeHoldAll c).faultnLow = s.faultnLow :=
  (congrArg State.faultnLow (s.removeHoldAll_frame c) :)

/-- The wind relation of a gang touches the gang records alone (R9). -/
theorem State.windOnGang_frame (g : Nat) :
    s.windOnGang g = { s with
    gangs := (s.windOnGang g).gangs } := by
  unfold State.windOnGang
  split
  · exact s.addHold_frame _ _
  · exact s.removeHold_frame _ _

@[simp] theorem State.windOnGang_pending (g : Nat) : (s.windOnGang g).pending = s.pending :=
  (congrArg State.pending (s.windOnGang_frame g) :)
@[simp] theorem State.windOnGang_now (g : Nat) : (s.windOnGang g).now = s.now :=
  (congrArg State.now (s.windOnGang_frame g) :)
@[simp] theorem State.windOnGang_draws (g : Nat) : (s.windOnGang g).draws = s.draws :=
  (congrArg State.draws (s.windOnGang_frame g) :)
@[simp] theorem State.windOnGang_up (g : Nat) : (s.windOnGang g).up = s.up :=
  (congrArg State.up (s.windOnGang_frame g) :)
@[simp] theorem State.windOnGang_down (g : Nat) : (s.windOnGang g).down = s.down :=
  (congrArg State.down (s.windOnGang_frame g) :)
@[simp] theorem State.windOnGang_waiting (g : Nat) : (s.windOnGang g).waiting = s.waiting :=
  (congrArg State.waiting (s.windOnGang_frame g) :)
@[simp] theorem State.windOnGang_bankPresent (g : Nat) : (s.windOnGang g).bankPresent = s.bankPresent :=
  (congrArg State.bankPresent (s.windOnGang_frame g) :)
@[simp] theorem State.windOnGang_active (g : Nat) : (s.windOnGang g).active = s.active :=
  (congrArg State.active (s.windOnGang_frame g) :)
@[simp] theorem State.windOnGang_verifiedCrc (g : Nat) : (s.windOnGang g).verifiedCrc = s.verifiedCrc :=
  (congrArg State.verifiedCrc (s.windOnGang_frame g) :)
@[simp] theorem State.windOnGang_pendingBank (g : Nat) : (s.windOnGang g).pendingBank = s.pendingBank :=
  (congrArg State.pendingBank (s.windOnGang_frame g) :)
@[simp] theorem State.windOnGang_pendingState (g : Nat) : (s.windOnGang g).pendingState = s.pendingState :=
  (congrArg State.pendingState (s.windOnGang_frame g) :)
@[simp] theorem State.windOnGang_expectedCrc (g : Nat) : (s.windOnGang g).expectedCrc = s.expectedCrc :=
  (congrArg State.expectedCrc (s.windOnGang_frame g) :)
@[simp] theorem State.windOnGang_pendingCrc (g : Nat) : (s.windOnGang g).pendingCrc = s.pendingCrc :=
  (congrArg State.pendingCrc (s.windOnGang_frame g) :)
@[simp] theorem State.windOnGang_refresh (g : Nat) : (s.windOnGang g).refresh = s.refresh :=
  (congrArg State.refresh (s.windOnGang_frame g) :)
@[simp] theorem State.windOnGang_axes (g : Nat) : (s.windOnGang g).axes = s.axes :=
  (congrArg State.axes (s.windOnGang_frame g) :)
@[simp] theorem State.windOnGang_forwards (g : Nat) : (s.windOnGang g).forwards = s.forwards :=
  (congrArg State.forwards (s.windOnGang_frame g) :)
@[simp] theorem State.windOnGang_reportedNodes (g : Nat) : (s.windOnGang g).reportedNodes = s.reportedNodes :=
  (congrArg State.reportedNodes (s.windOnGang_frame g) :)
@[simp] theorem State.windOnGang_fences (g : Nat) : (s.windOnGang g).fences = s.fences :=
  (congrArg State.fences (s.windOnGang_frame g) :)
@[simp] theorem State.windOnGang_windClass (g : Nat) : (s.windOnGang g).windClass = s.windClass :=
  (congrArg State.windClass (s.windOnGang_frame g) :)
@[simp] theorem State.windOnGang_weatherStale (g : Nat) : (s.windOnGang g).weatherStale = s.weatherStale :=
  (congrArg State.weatherStale (s.windOnGang_frame g) :)
@[simp] theorem State.windOnGang_weatherTimer (g : Nat) : (s.windOnGang g).weatherTimer = s.weatherTimer :=
  (congrArg State.weatherTimer (s.windOnGang_frame g) :)
@[simp] theorem State.windOnGang_press (g : Nat) : (s.windOnGang g).press = s.press :=
  (congrArg State.press (s.windOnGang_frame g) :)
@[simp] theorem State.windOnGang_pressTime (g : Nat) : (s.windOnGang g).pressTime = s.pressTime :=
  (congrArg State.pressTime (s.windOnGang_frame g) :)
@[simp] theorem State.windOnGang_longTime (g : Nat) : (s.windOnGang g).longTime = s.longTime :=
  (congrArg State.longTime (s.windOnGang_frame g) :)
@[simp] theorem State.windOnGang_operatorHold (g : Nat) : (s.windOnGang g).operatorHold = s.operatorHold :=
  (congrArg State.operatorHold (s.windOnGang_frame g) :)
@[simp] theorem State.windOnGang_lines (g : Nat) : (s.windOnGang g).lines = s.lines :=
  (congrArg State.lines (s.windOnGang_frame g) :)
@[simp] theorem State.windOnGang_deferred (g : Nat) : (s.windOnGang g).deferred = s.deferred :=
  (congrArg State.deferred (s.windOnGang_frame g) :)
@[simp] theorem State.windOnGang_backoff (g : Nat) : (s.windOnGang g).backoff = s.backoff :=
  (congrArg State.backoff (s.windOnGang_frame g) :)
@[simp] theorem State.windOnGang_highPtr (g : Nat) : (s.windOnGang g).highPtr = s.highPtr :=
  (congrArg State.highPtr (s.windOnGang_frame g) :)
@[simp] theorem State.windOnGang_lowPtr (g : Nat) : (s.windOnGang g).lowPtr = s.lowPtr :=
  (congrArg State.lowPtr (s.windOnGang_frame g) :)
@[simp] theorem State.windOnGang_openGrant (g : Nat) : (s.windOnGang g).openGrant = s.openGrant :=
  (congrArg State.openGrant (s.windOnGang_frame g) :)
@[simp] theorem State.windOnGang_grantRecs (g : Nat) : (s.windOnGang g).grantRecs = s.grantRecs :=
  (congrArg State.grantRecs (s.windOnGang_frame g) :)
@[simp] theorem State.windOnGang_watchdog (g : Nat) : (s.windOnGang g).watchdog = s.watchdog :=
  (congrArg State.watchdog (s.windOnGang_frame g) :)
@[simp] theorem State.windOnGang_watchdogTimer (g : Nat) : (s.windOnGang g).watchdogTimer = s.watchdogTimer :=
  (congrArg State.watchdogTimer (s.windOnGang_frame g) :)
@[simp] theorem State.windOnGang_olderArrival (g : Nat) : (s.windOnGang g).olderArrival = s.olderArrival :=
  (congrArg State.olderArrival (s.windOnGang_frame g) :)
@[simp] theorem State.windOnGang_newerArrival (g : Nat) : (s.windOnGang g).newerArrival = s.newerArrival :=
  (congrArg State.newerArrival (s.windOnGang_frame g) :)
@[simp] theorem State.windOnGang_substituteTimer (g : Nat) : (s.windOnGang g).substituteTimer = s.substituteTimer :=
  (congrArg State.substituteTimer (s.windOnGang_frame g) :)
@[simp] theorem State.windOnGang_lastCycle (g : Nat) : (s.windOnGang g).lastCycle = s.lastCycle :=
  (congrArg State.lastCycle (s.windOnGang_frame g) :)
@[simp] theorem State.windOnGang_flags (g : Nat) : (s.windOnGang g).flags = s.flags :=
  (congrArg State.flags (s.windOnGang_frame g) :)
@[simp] theorem State.windOnGang_events (g : Nat) : (s.windOnGang g).events = s.events :=
  (congrArg State.events (s.windOnGang_frame g) :)
@[simp] theorem State.windOnGang_due (g : Nat) : (s.windOnGang g).due = s.due :=
  (congrArg State.due (s.windOnGang_frame g) :)
@[simp] theorem State.windOnGang_frameClass (g : Nat) : (s.windOnGang g).frameClass = s.frameClass :=
  (congrArg State.frameClass (s.windOnGang_frame g) :)
@[simp] theorem State.windOnGang_inReset (g : Nat) : (s.windOnGang g).inReset = s.inReset :=
  (congrArg State.inReset (s.windOnGang_frame g) :)
@[simp] theorem State.windOnGang_holdnLow (g : Nat) : (s.windOnGang g).holdnLow = s.holdnLow :=
  (congrArg State.holdnLow (s.windOnGang_frame g) :)
@[simp] theorem State.windOnGang_sampled (g : Nat) : (s.windOnGang g).sampled = s.sampled :=
  (congrArg State.sampled (s.windOnGang_frame g) :)
@[simp] theorem State.windOnGang_faultnLow (g : Nat) : (s.windOnGang g).faultnLow = s.faultnLow :=
  (congrArg State.faultnLow (s.windOnGang_frame g) :)

/-- Adding a trip cause touches the gang records, the flags and the event queue (R13). -/
theorem State.addTrip_frame (c : TripCause) (g : Nat) :
    s.addTrip c g = { s with
    gangs := (s.addTrip c g).gangs, flags := (s.addTrip c g).flags,
    events := (s.addTrip c g).events } := by
  unfold State.addTrip
  split
  · rfl
  · split
    · rw [s.modifyGang_frame]; rfl
    · rw [((s.modifyGang g fun r => r.addTrip c).setFlag c.flag).offerOwn_frame, s.modifyGang_frame]; rfl

@[simp] theorem State.addTrip_pending (c : TripCause) (g : Nat) : (s.addTrip c g).pending = s.pending :=
  (congrArg State.pending (s.addTrip_frame c g) :)
@[simp] theorem State.addTrip_now (c : TripCause) (g : Nat) : (s.addTrip c g).now = s.now :=
  (congrArg State.now (s.addTrip_frame c g) :)
@[simp] theorem State.addTrip_draws (c : TripCause) (g : Nat) : (s.addTrip c g).draws = s.draws :=
  (congrArg State.draws (s.addTrip_frame c g) :)
@[simp] theorem State.addTrip_up (c : TripCause) (g : Nat) : (s.addTrip c g).up = s.up :=
  (congrArg State.up (s.addTrip_frame c g) :)
@[simp] theorem State.addTrip_down (c : TripCause) (g : Nat) : (s.addTrip c g).down = s.down :=
  (congrArg State.down (s.addTrip_frame c g) :)
@[simp] theorem State.addTrip_waiting (c : TripCause) (g : Nat) : (s.addTrip c g).waiting = s.waiting :=
  (congrArg State.waiting (s.addTrip_frame c g) :)
@[simp] theorem State.addTrip_bankPresent (c : TripCause) (g : Nat) : (s.addTrip c g).bankPresent = s.bankPresent :=
  (congrArg State.bankPresent (s.addTrip_frame c g) :)
@[simp] theorem State.addTrip_active (c : TripCause) (g : Nat) : (s.addTrip c g).active = s.active :=
  (congrArg State.active (s.addTrip_frame c g) :)
@[simp] theorem State.addTrip_verifiedCrc (c : TripCause) (g : Nat) : (s.addTrip c g).verifiedCrc = s.verifiedCrc :=
  (congrArg State.verifiedCrc (s.addTrip_frame c g) :)
@[simp] theorem State.addTrip_pendingBank (c : TripCause) (g : Nat) : (s.addTrip c g).pendingBank = s.pendingBank :=
  (congrArg State.pendingBank (s.addTrip_frame c g) :)
@[simp] theorem State.addTrip_pendingState (c : TripCause) (g : Nat) : (s.addTrip c g).pendingState = s.pendingState :=
  (congrArg State.pendingState (s.addTrip_frame c g) :)
@[simp] theorem State.addTrip_expectedCrc (c : TripCause) (g : Nat) : (s.addTrip c g).expectedCrc = s.expectedCrc :=
  (congrArg State.expectedCrc (s.addTrip_frame c g) :)
@[simp] theorem State.addTrip_pendingCrc (c : TripCause) (g : Nat) : (s.addTrip c g).pendingCrc = s.pendingCrc :=
  (congrArg State.pendingCrc (s.addTrip_frame c g) :)
@[simp] theorem State.addTrip_refresh (c : TripCause) (g : Nat) : (s.addTrip c g).refresh = s.refresh :=
  (congrArg State.refresh (s.addTrip_frame c g) :)
@[simp] theorem State.addTrip_axes (c : TripCause) (g : Nat) : (s.addTrip c g).axes = s.axes :=
  (congrArg State.axes (s.addTrip_frame c g) :)
@[simp] theorem State.addTrip_forwards (c : TripCause) (g : Nat) : (s.addTrip c g).forwards = s.forwards :=
  (congrArg State.forwards (s.addTrip_frame c g) :)
@[simp] theorem State.addTrip_reportedNodes (c : TripCause) (g : Nat) : (s.addTrip c g).reportedNodes = s.reportedNodes :=
  (congrArg State.reportedNodes (s.addTrip_frame c g) :)
@[simp] theorem State.addTrip_fences (c : TripCause) (g : Nat) : (s.addTrip c g).fences = s.fences :=
  (congrArg State.fences (s.addTrip_frame c g) :)
@[simp] theorem State.addTrip_windClass (c : TripCause) (g : Nat) : (s.addTrip c g).windClass = s.windClass :=
  (congrArg State.windClass (s.addTrip_frame c g) :)
@[simp] theorem State.addTrip_weatherStale (c : TripCause) (g : Nat) : (s.addTrip c g).weatherStale = s.weatherStale :=
  (congrArg State.weatherStale (s.addTrip_frame c g) :)
@[simp] theorem State.addTrip_weatherTimer (c : TripCause) (g : Nat) : (s.addTrip c g).weatherTimer = s.weatherTimer :=
  (congrArg State.weatherTimer (s.addTrip_frame c g) :)
@[simp] theorem State.addTrip_press (c : TripCause) (g : Nat) : (s.addTrip c g).press = s.press :=
  (congrArg State.press (s.addTrip_frame c g) :)
@[simp] theorem State.addTrip_pressTime (c : TripCause) (g : Nat) : (s.addTrip c g).pressTime = s.pressTime :=
  (congrArg State.pressTime (s.addTrip_frame c g) :)
@[simp] theorem State.addTrip_longTime (c : TripCause) (g : Nat) : (s.addTrip c g).longTime = s.longTime :=
  (congrArg State.longTime (s.addTrip_frame c g) :)
@[simp] theorem State.addTrip_operatorHold (c : TripCause) (g : Nat) : (s.addTrip c g).operatorHold = s.operatorHold :=
  (congrArg State.operatorHold (s.addTrip_frame c g) :)
@[simp] theorem State.addTrip_lines (c : TripCause) (g : Nat) : (s.addTrip c g).lines = s.lines :=
  (congrArg State.lines (s.addTrip_frame c g) :)
@[simp] theorem State.addTrip_deferred (c : TripCause) (g : Nat) : (s.addTrip c g).deferred = s.deferred :=
  (congrArg State.deferred (s.addTrip_frame c g) :)
@[simp] theorem State.addTrip_backoff (c : TripCause) (g : Nat) : (s.addTrip c g).backoff = s.backoff :=
  (congrArg State.backoff (s.addTrip_frame c g) :)
@[simp] theorem State.addTrip_highPtr (c : TripCause) (g : Nat) : (s.addTrip c g).highPtr = s.highPtr :=
  (congrArg State.highPtr (s.addTrip_frame c g) :)
@[simp] theorem State.addTrip_lowPtr (c : TripCause) (g : Nat) : (s.addTrip c g).lowPtr = s.lowPtr :=
  (congrArg State.lowPtr (s.addTrip_frame c g) :)
@[simp] theorem State.addTrip_openGrant (c : TripCause) (g : Nat) : (s.addTrip c g).openGrant = s.openGrant :=
  (congrArg State.openGrant (s.addTrip_frame c g) :)
@[simp] theorem State.addTrip_grantRecs (c : TripCause) (g : Nat) : (s.addTrip c g).grantRecs = s.grantRecs :=
  (congrArg State.grantRecs (s.addTrip_frame c g) :)
@[simp] theorem State.addTrip_watchdog (c : TripCause) (g : Nat) : (s.addTrip c g).watchdog = s.watchdog :=
  (congrArg State.watchdog (s.addTrip_frame c g) :)
@[simp] theorem State.addTrip_watchdogTimer (c : TripCause) (g : Nat) : (s.addTrip c g).watchdogTimer = s.watchdogTimer :=
  (congrArg State.watchdogTimer (s.addTrip_frame c g) :)
@[simp] theorem State.addTrip_olderArrival (c : TripCause) (g : Nat) : (s.addTrip c g).olderArrival = s.olderArrival :=
  (congrArg State.olderArrival (s.addTrip_frame c g) :)
@[simp] theorem State.addTrip_newerArrival (c : TripCause) (g : Nat) : (s.addTrip c g).newerArrival = s.newerArrival :=
  (congrArg State.newerArrival (s.addTrip_frame c g) :)
@[simp] theorem State.addTrip_substituteTimer (c : TripCause) (g : Nat) : (s.addTrip c g).substituteTimer = s.substituteTimer :=
  (congrArg State.substituteTimer (s.addTrip_frame c g) :)
@[simp] theorem State.addTrip_lastCycle (c : TripCause) (g : Nat) : (s.addTrip c g).lastCycle = s.lastCycle :=
  (congrArg State.lastCycle (s.addTrip_frame c g) :)
@[simp] theorem State.addTrip_due (c : TripCause) (g : Nat) : (s.addTrip c g).due = s.due :=
  (congrArg State.due (s.addTrip_frame c g) :)
@[simp] theorem State.addTrip_frameClass (c : TripCause) (g : Nat) : (s.addTrip c g).frameClass = s.frameClass :=
  (congrArg State.frameClass (s.addTrip_frame c g) :)
@[simp] theorem State.addTrip_inReset (c : TripCause) (g : Nat) : (s.addTrip c g).inReset = s.inReset :=
  (congrArg State.inReset (s.addTrip_frame c g) :)
@[simp] theorem State.addTrip_holdnLow (c : TripCause) (g : Nat) : (s.addTrip c g).holdnLow = s.holdnLow :=
  (congrArg State.holdnLow (s.addTrip_frame c g) :)
@[simp] theorem State.addTrip_sampled (c : TripCause) (g : Nat) : (s.addTrip c g).sampled = s.sampled :=
  (congrArg State.sampled (s.addTrip_frame c g) :)
@[simp] theorem State.addTrip_faultnLow (c : TripCause) (g : Nat) : (s.addTrip c g).faultnLow = s.faultnLow :=
  (congrArg State.faultnLow (s.addTrip_frame c g) :)

/-- Setting the wind class touches the class, the event queue and the flags (R94). -/
theorem State.setWindClass_frame (cls : Nat) (why : WindReason) :
    s.setWindClass cls why = { s with
    windClass := (s.setWindClass cls why).windClass, frameClass := (s.setWindClass cls why).frameClass,
    events := (s.setWindClass cls why).events,
    flags := (s.setWindClass cls why).flags } := by
  unfold State.setWindClass
  split
  · rfl
  · rw [State.offerOwn_frame]

@[simp] theorem State.setWindClass_pending (cls : Nat) (why : WindReason) : (s.setWindClass cls why).pending = s.pending :=
  (congrArg State.pending (s.setWindClass_frame cls why) :)
@[simp] theorem State.setWindClass_now (cls : Nat) (why : WindReason) : (s.setWindClass cls why).now = s.now :=
  (congrArg State.now (s.setWindClass_frame cls why) :)
@[simp] theorem State.setWindClass_draws (cls : Nat) (why : WindReason) : (s.setWindClass cls why).draws = s.draws :=
  (congrArg State.draws (s.setWindClass_frame cls why) :)
@[simp] theorem State.setWindClass_up (cls : Nat) (why : WindReason) : (s.setWindClass cls why).up = s.up :=
  (congrArg State.up (s.setWindClass_frame cls why) :)
@[simp] theorem State.setWindClass_down (cls : Nat) (why : WindReason) : (s.setWindClass cls why).down = s.down :=
  (congrArg State.down (s.setWindClass_frame cls why) :)
@[simp] theorem State.setWindClass_waiting (cls : Nat) (why : WindReason) : (s.setWindClass cls why).waiting = s.waiting :=
  (congrArg State.waiting (s.setWindClass_frame cls why) :)
@[simp] theorem State.setWindClass_bankPresent (cls : Nat) (why : WindReason) : (s.setWindClass cls why).bankPresent = s.bankPresent :=
  (congrArg State.bankPresent (s.setWindClass_frame cls why) :)
@[simp] theorem State.setWindClass_active (cls : Nat) (why : WindReason) : (s.setWindClass cls why).active = s.active :=
  (congrArg State.active (s.setWindClass_frame cls why) :)
@[simp] theorem State.setWindClass_verifiedCrc (cls : Nat) (why : WindReason) : (s.setWindClass cls why).verifiedCrc = s.verifiedCrc :=
  (congrArg State.verifiedCrc (s.setWindClass_frame cls why) :)
@[simp] theorem State.setWindClass_pendingBank (cls : Nat) (why : WindReason) : (s.setWindClass cls why).pendingBank = s.pendingBank :=
  (congrArg State.pendingBank (s.setWindClass_frame cls why) :)
@[simp] theorem State.setWindClass_pendingState (cls : Nat) (why : WindReason) : (s.setWindClass cls why).pendingState = s.pendingState :=
  (congrArg State.pendingState (s.setWindClass_frame cls why) :)
@[simp] theorem State.setWindClass_expectedCrc (cls : Nat) (why : WindReason) : (s.setWindClass cls why).expectedCrc = s.expectedCrc :=
  (congrArg State.expectedCrc (s.setWindClass_frame cls why) :)
@[simp] theorem State.setWindClass_pendingCrc (cls : Nat) (why : WindReason) : (s.setWindClass cls why).pendingCrc = s.pendingCrc :=
  (congrArg State.pendingCrc (s.setWindClass_frame cls why) :)
@[simp] theorem State.setWindClass_refresh (cls : Nat) (why : WindReason) : (s.setWindClass cls why).refresh = s.refresh :=
  (congrArg State.refresh (s.setWindClass_frame cls why) :)
@[simp] theorem State.setWindClass_axes (cls : Nat) (why : WindReason) : (s.setWindClass cls why).axes = s.axes :=
  (congrArg State.axes (s.setWindClass_frame cls why) :)
@[simp] theorem State.setWindClass_forwards (cls : Nat) (why : WindReason) : (s.setWindClass cls why).forwards = s.forwards :=
  (congrArg State.forwards (s.setWindClass_frame cls why) :)
@[simp] theorem State.setWindClass_reportedNodes (cls : Nat) (why : WindReason) : (s.setWindClass cls why).reportedNodes = s.reportedNodes :=
  (congrArg State.reportedNodes (s.setWindClass_frame cls why) :)
@[simp] theorem State.setWindClass_gangs (cls : Nat) (why : WindReason) : (s.setWindClass cls why).gangs = s.gangs :=
  (congrArg State.gangs (s.setWindClass_frame cls why) :)
@[simp] theorem State.setWindClass_fences (cls : Nat) (why : WindReason) : (s.setWindClass cls why).fences = s.fences :=
  (congrArg State.fences (s.setWindClass_frame cls why) :)
@[simp] theorem State.setWindClass_weatherStale (cls : Nat) (why : WindReason) : (s.setWindClass cls why).weatherStale = s.weatherStale :=
  (congrArg State.weatherStale (s.setWindClass_frame cls why) :)
@[simp] theorem State.setWindClass_weatherTimer (cls : Nat) (why : WindReason) : (s.setWindClass cls why).weatherTimer = s.weatherTimer :=
  (congrArg State.weatherTimer (s.setWindClass_frame cls why) :)
@[simp] theorem State.setWindClass_press (cls : Nat) (why : WindReason) : (s.setWindClass cls why).press = s.press :=
  (congrArg State.press (s.setWindClass_frame cls why) :)
@[simp] theorem State.setWindClass_pressTime (cls : Nat) (why : WindReason) : (s.setWindClass cls why).pressTime = s.pressTime :=
  (congrArg State.pressTime (s.setWindClass_frame cls why) :)
@[simp] theorem State.setWindClass_longTime (cls : Nat) (why : WindReason) : (s.setWindClass cls why).longTime = s.longTime :=
  (congrArg State.longTime (s.setWindClass_frame cls why) :)
@[simp] theorem State.setWindClass_operatorHold (cls : Nat) (why : WindReason) : (s.setWindClass cls why).operatorHold = s.operatorHold :=
  (congrArg State.operatorHold (s.setWindClass_frame cls why) :)
@[simp] theorem State.setWindClass_lines (cls : Nat) (why : WindReason) : (s.setWindClass cls why).lines = s.lines :=
  (congrArg State.lines (s.setWindClass_frame cls why) :)
@[simp] theorem State.setWindClass_deferred (cls : Nat) (why : WindReason) : (s.setWindClass cls why).deferred = s.deferred :=
  (congrArg State.deferred (s.setWindClass_frame cls why) :)
@[simp] theorem State.setWindClass_backoff (cls : Nat) (why : WindReason) : (s.setWindClass cls why).backoff = s.backoff :=
  (congrArg State.backoff (s.setWindClass_frame cls why) :)
@[simp] theorem State.setWindClass_highPtr (cls : Nat) (why : WindReason) : (s.setWindClass cls why).highPtr = s.highPtr :=
  (congrArg State.highPtr (s.setWindClass_frame cls why) :)
@[simp] theorem State.setWindClass_lowPtr (cls : Nat) (why : WindReason) : (s.setWindClass cls why).lowPtr = s.lowPtr :=
  (congrArg State.lowPtr (s.setWindClass_frame cls why) :)
@[simp] theorem State.setWindClass_openGrant (cls : Nat) (why : WindReason) : (s.setWindClass cls why).openGrant = s.openGrant :=
  (congrArg State.openGrant (s.setWindClass_frame cls why) :)
@[simp] theorem State.setWindClass_grantRecs (cls : Nat) (why : WindReason) : (s.setWindClass cls why).grantRecs = s.grantRecs :=
  (congrArg State.grantRecs (s.setWindClass_frame cls why) :)
@[simp] theorem State.setWindClass_watchdog (cls : Nat) (why : WindReason) : (s.setWindClass cls why).watchdog = s.watchdog :=
  (congrArg State.watchdog (s.setWindClass_frame cls why) :)
@[simp] theorem State.setWindClass_watchdogTimer (cls : Nat) (why : WindReason) : (s.setWindClass cls why).watchdogTimer = s.watchdogTimer :=
  (congrArg State.watchdogTimer (s.setWindClass_frame cls why) :)
@[simp] theorem State.setWindClass_olderArrival (cls : Nat) (why : WindReason) : (s.setWindClass cls why).olderArrival = s.olderArrival :=
  (congrArg State.olderArrival (s.setWindClass_frame cls why) :)
@[simp] theorem State.setWindClass_newerArrival (cls : Nat) (why : WindReason) : (s.setWindClass cls why).newerArrival = s.newerArrival :=
  (congrArg State.newerArrival (s.setWindClass_frame cls why) :)
@[simp] theorem State.setWindClass_substituteTimer (cls : Nat) (why : WindReason) : (s.setWindClass cls why).substituteTimer = s.substituteTimer :=
  (congrArg State.substituteTimer (s.setWindClass_frame cls why) :)
@[simp] theorem State.setWindClass_lastCycle (cls : Nat) (why : WindReason) : (s.setWindClass cls why).lastCycle = s.lastCycle :=
  (congrArg State.lastCycle (s.setWindClass_frame cls why) :)
@[simp] theorem State.setWindClass_due (cls : Nat) (why : WindReason) : (s.setWindClass cls why).due = s.due :=
  (congrArg State.due (s.setWindClass_frame cls why) :)
@[simp] theorem State.setWindClass_inReset (cls : Nat) (why : WindReason) : (s.setWindClass cls why).inReset = s.inReset :=
  (congrArg State.inReset (s.setWindClass_frame cls why) :)
@[simp] theorem State.setWindClass_holdnLow (cls : Nat) (why : WindReason) : (s.setWindClass cls why).holdnLow = s.holdnLow :=
  (congrArg State.holdnLow (s.setWindClass_frame cls why) :)
@[simp] theorem State.setWindClass_sampled (cls : Nat) (why : WindReason) : (s.setWindClass cls why).sampled = s.sampled :=
  (congrArg State.sampled (s.setWindClass_frame cls why) :)
@[simp] theorem State.setWindClass_faultnLow (cls : Nat) (why : WindReason) : (s.setWindClass cls why).faultnLow = s.faultnLow :=
  (congrArg State.faultnLow (s.setWindClass_frame cls why) :)

/-- A change of class between frames touches the gangs besides (R94). -/
theorem State.changeWindClass_frame (cls : Nat) (why : WindReason) :
    s.changeWindClass cls why = { s with
    windClass := (s.changeWindClass cls why).windClass, frameClass := (s.changeWindClass cls why).frameClass,
    gangs := (s.changeWindClass cls why).gangs,
    events := (s.changeWindClass cls why).events, flags := (s.changeWindClass cls why).flags } := by
  unfold State.changeWindClass
  split
  · rfl
  · rw [forGangs_gangs_frame (s.setWindClass cls why) fun t g => t.windOnGang_frame g, s.setWindClass_frame]

@[simp] theorem State.changeWindClass_pending (cls : Nat) (why : WindReason) : (s.changeWindClass cls why).pending = s.pending :=
  (congrArg State.pending (s.changeWindClass_frame cls why) :)
@[simp] theorem State.changeWindClass_now (cls : Nat) (why : WindReason) : (s.changeWindClass cls why).now = s.now :=
  (congrArg State.now (s.changeWindClass_frame cls why) :)
@[simp] theorem State.changeWindClass_draws (cls : Nat) (why : WindReason) : (s.changeWindClass cls why).draws = s.draws :=
  (congrArg State.draws (s.changeWindClass_frame cls why) :)
@[simp] theorem State.changeWindClass_up (cls : Nat) (why : WindReason) : (s.changeWindClass cls why).up = s.up :=
  (congrArg State.up (s.changeWindClass_frame cls why) :)
@[simp] theorem State.changeWindClass_down (cls : Nat) (why : WindReason) : (s.changeWindClass cls why).down = s.down :=
  (congrArg State.down (s.changeWindClass_frame cls why) :)
@[simp] theorem State.changeWindClass_waiting (cls : Nat) (why : WindReason) : (s.changeWindClass cls why).waiting = s.waiting :=
  (congrArg State.waiting (s.changeWindClass_frame cls why) :)
@[simp] theorem State.changeWindClass_bankPresent (cls : Nat) (why : WindReason) : (s.changeWindClass cls why).bankPresent = s.bankPresent :=
  (congrArg State.bankPresent (s.changeWindClass_frame cls why) :)
@[simp] theorem State.changeWindClass_active (cls : Nat) (why : WindReason) : (s.changeWindClass cls why).active = s.active :=
  (congrArg State.active (s.changeWindClass_frame cls why) :)
@[simp] theorem State.changeWindClass_verifiedCrc (cls : Nat) (why : WindReason) : (s.changeWindClass cls why).verifiedCrc = s.verifiedCrc :=
  (congrArg State.verifiedCrc (s.changeWindClass_frame cls why) :)
@[simp] theorem State.changeWindClass_pendingBank (cls : Nat) (why : WindReason) : (s.changeWindClass cls why).pendingBank = s.pendingBank :=
  (congrArg State.pendingBank (s.changeWindClass_frame cls why) :)
@[simp] theorem State.changeWindClass_pendingState (cls : Nat) (why : WindReason) : (s.changeWindClass cls why).pendingState = s.pendingState :=
  (congrArg State.pendingState (s.changeWindClass_frame cls why) :)
@[simp] theorem State.changeWindClass_expectedCrc (cls : Nat) (why : WindReason) : (s.changeWindClass cls why).expectedCrc = s.expectedCrc :=
  (congrArg State.expectedCrc (s.changeWindClass_frame cls why) :)
@[simp] theorem State.changeWindClass_pendingCrc (cls : Nat) (why : WindReason) : (s.changeWindClass cls why).pendingCrc = s.pendingCrc :=
  (congrArg State.pendingCrc (s.changeWindClass_frame cls why) :)
@[simp] theorem State.changeWindClass_refresh (cls : Nat) (why : WindReason) : (s.changeWindClass cls why).refresh = s.refresh :=
  (congrArg State.refresh (s.changeWindClass_frame cls why) :)
@[simp] theorem State.changeWindClass_axes (cls : Nat) (why : WindReason) : (s.changeWindClass cls why).axes = s.axes :=
  (congrArg State.axes (s.changeWindClass_frame cls why) :)
@[simp] theorem State.changeWindClass_forwards (cls : Nat) (why : WindReason) : (s.changeWindClass cls why).forwards = s.forwards :=
  (congrArg State.forwards (s.changeWindClass_frame cls why) :)
@[simp] theorem State.changeWindClass_reportedNodes (cls : Nat) (why : WindReason) : (s.changeWindClass cls why).reportedNodes = s.reportedNodes :=
  (congrArg State.reportedNodes (s.changeWindClass_frame cls why) :)
@[simp] theorem State.changeWindClass_fences (cls : Nat) (why : WindReason) : (s.changeWindClass cls why).fences = s.fences :=
  (congrArg State.fences (s.changeWindClass_frame cls why) :)
@[simp] theorem State.changeWindClass_weatherStale (cls : Nat) (why : WindReason) : (s.changeWindClass cls why).weatherStale = s.weatherStale :=
  (congrArg State.weatherStale (s.changeWindClass_frame cls why) :)
@[simp] theorem State.changeWindClass_weatherTimer (cls : Nat) (why : WindReason) : (s.changeWindClass cls why).weatherTimer = s.weatherTimer :=
  (congrArg State.weatherTimer (s.changeWindClass_frame cls why) :)
@[simp] theorem State.changeWindClass_press (cls : Nat) (why : WindReason) : (s.changeWindClass cls why).press = s.press :=
  (congrArg State.press (s.changeWindClass_frame cls why) :)
@[simp] theorem State.changeWindClass_pressTime (cls : Nat) (why : WindReason) : (s.changeWindClass cls why).pressTime = s.pressTime :=
  (congrArg State.pressTime (s.changeWindClass_frame cls why) :)
@[simp] theorem State.changeWindClass_longTime (cls : Nat) (why : WindReason) : (s.changeWindClass cls why).longTime = s.longTime :=
  (congrArg State.longTime (s.changeWindClass_frame cls why) :)
@[simp] theorem State.changeWindClass_operatorHold (cls : Nat) (why : WindReason) : (s.changeWindClass cls why).operatorHold = s.operatorHold :=
  (congrArg State.operatorHold (s.changeWindClass_frame cls why) :)
@[simp] theorem State.changeWindClass_lines (cls : Nat) (why : WindReason) : (s.changeWindClass cls why).lines = s.lines :=
  (congrArg State.lines (s.changeWindClass_frame cls why) :)
@[simp] theorem State.changeWindClass_deferred (cls : Nat) (why : WindReason) : (s.changeWindClass cls why).deferred = s.deferred :=
  (congrArg State.deferred (s.changeWindClass_frame cls why) :)
@[simp] theorem State.changeWindClass_backoff (cls : Nat) (why : WindReason) : (s.changeWindClass cls why).backoff = s.backoff :=
  (congrArg State.backoff (s.changeWindClass_frame cls why) :)
@[simp] theorem State.changeWindClass_highPtr (cls : Nat) (why : WindReason) : (s.changeWindClass cls why).highPtr = s.highPtr :=
  (congrArg State.highPtr (s.changeWindClass_frame cls why) :)
@[simp] theorem State.changeWindClass_lowPtr (cls : Nat) (why : WindReason) : (s.changeWindClass cls why).lowPtr = s.lowPtr :=
  (congrArg State.lowPtr (s.changeWindClass_frame cls why) :)
@[simp] theorem State.changeWindClass_openGrant (cls : Nat) (why : WindReason) : (s.changeWindClass cls why).openGrant = s.openGrant :=
  (congrArg State.openGrant (s.changeWindClass_frame cls why) :)
@[simp] theorem State.changeWindClass_grantRecs (cls : Nat) (why : WindReason) : (s.changeWindClass cls why).grantRecs = s.grantRecs :=
  (congrArg State.grantRecs (s.changeWindClass_frame cls why) :)
@[simp] theorem State.changeWindClass_watchdog (cls : Nat) (why : WindReason) : (s.changeWindClass cls why).watchdog = s.watchdog :=
  (congrArg State.watchdog (s.changeWindClass_frame cls why) :)
@[simp] theorem State.changeWindClass_watchdogTimer (cls : Nat) (why : WindReason) : (s.changeWindClass cls why).watchdogTimer = s.watchdogTimer :=
  (congrArg State.watchdogTimer (s.changeWindClass_frame cls why) :)
@[simp] theorem State.changeWindClass_olderArrival (cls : Nat) (why : WindReason) : (s.changeWindClass cls why).olderArrival = s.olderArrival :=
  (congrArg State.olderArrival (s.changeWindClass_frame cls why) :)
@[simp] theorem State.changeWindClass_newerArrival (cls : Nat) (why : WindReason) : (s.changeWindClass cls why).newerArrival = s.newerArrival :=
  (congrArg State.newerArrival (s.changeWindClass_frame cls why) :)
@[simp] theorem State.changeWindClass_substituteTimer (cls : Nat) (why : WindReason) : (s.changeWindClass cls why).substituteTimer = s.substituteTimer :=
  (congrArg State.substituteTimer (s.changeWindClass_frame cls why) :)
@[simp] theorem State.changeWindClass_lastCycle (cls : Nat) (why : WindReason) : (s.changeWindClass cls why).lastCycle = s.lastCycle :=
  (congrArg State.lastCycle (s.changeWindClass_frame cls why) :)
@[simp] theorem State.changeWindClass_due (cls : Nat) (why : WindReason) : (s.changeWindClass cls why).due = s.due :=
  (congrArg State.due (s.changeWindClass_frame cls why) :)
@[simp] theorem State.changeWindClass_inReset (cls : Nat) (why : WindReason) : (s.changeWindClass cls why).inReset = s.inReset :=
  (congrArg State.inReset (s.changeWindClass_frame cls why) :)
@[simp] theorem State.changeWindClass_holdnLow (cls : Nat) (why : WindReason) : (s.changeWindClass cls why).holdnLow = s.holdnLow :=
  (congrArg State.holdnLow (s.changeWindClass_frame cls why) :)
@[simp] theorem State.changeWindClass_sampled (cls : Nat) (why : WindReason) : (s.changeWindClass cls why).sampled = s.sampled :=
  (congrArg State.sampled (s.changeWindClass_frame cls why) :)
@[simp] theorem State.changeWindClass_faultnLow (cls : Nat) (why : WindReason) : (s.changeWindClass cls why).faultnLow = s.faultnLow :=
  (congrArg State.faultnLow (s.changeWindClass_frame cls why) :)

/-- Settling the lines touches the lines alone. -/
theorem State.settleLines_frame (old : State) :
    settleLines old s = { s with
    lines := (settleLines old s).lines } := rfl

@[simp] theorem State.settleLines_pending (old : State) : (settleLines old s).pending = s.pending :=
  (congrArg State.pending (s.settleLines_frame old) :)
@[simp] theorem State.settleLines_now (old : State) : (settleLines old s).now = s.now :=
  (congrArg State.now (s.settleLines_frame old) :)
@[simp] theorem State.settleLines_draws (old : State) : (settleLines old s).draws = s.draws :=
  (congrArg State.draws (s.settleLines_frame old) :)
@[simp] theorem State.settleLines_up (old : State) : (settleLines old s).up = s.up :=
  (congrArg State.up (s.settleLines_frame old) :)
@[simp] theorem State.settleLines_down (old : State) : (settleLines old s).down = s.down :=
  (congrArg State.down (s.settleLines_frame old) :)
@[simp] theorem State.settleLines_waiting (old : State) : (settleLines old s).waiting = s.waiting :=
  (congrArg State.waiting (s.settleLines_frame old) :)
@[simp] theorem State.settleLines_bankPresent (old : State) : (settleLines old s).bankPresent = s.bankPresent :=
  (congrArg State.bankPresent (s.settleLines_frame old) :)
@[simp] theorem State.settleLines_active (old : State) : (settleLines old s).active = s.active :=
  (congrArg State.active (s.settleLines_frame old) :)
@[simp] theorem State.settleLines_verifiedCrc (old : State) : (settleLines old s).verifiedCrc = s.verifiedCrc :=
  (congrArg State.verifiedCrc (s.settleLines_frame old) :)
@[simp] theorem State.settleLines_pendingBank (old : State) : (settleLines old s).pendingBank = s.pendingBank :=
  (congrArg State.pendingBank (s.settleLines_frame old) :)
@[simp] theorem State.settleLines_pendingState (old : State) : (settleLines old s).pendingState = s.pendingState :=
  (congrArg State.pendingState (s.settleLines_frame old) :)
@[simp] theorem State.settleLines_expectedCrc (old : State) : (settleLines old s).expectedCrc = s.expectedCrc :=
  (congrArg State.expectedCrc (s.settleLines_frame old) :)
@[simp] theorem State.settleLines_pendingCrc (old : State) : (settleLines old s).pendingCrc = s.pendingCrc :=
  (congrArg State.pendingCrc (s.settleLines_frame old) :)
@[simp] theorem State.settleLines_refresh (old : State) : (settleLines old s).refresh = s.refresh :=
  (congrArg State.refresh (s.settleLines_frame old) :)
@[simp] theorem State.settleLines_axes (old : State) : (settleLines old s).axes = s.axes :=
  (congrArg State.axes (s.settleLines_frame old) :)
@[simp] theorem State.settleLines_forwards (old : State) : (settleLines old s).forwards = s.forwards :=
  (congrArg State.forwards (s.settleLines_frame old) :)
@[simp] theorem State.settleLines_reportedNodes (old : State) : (settleLines old s).reportedNodes = s.reportedNodes :=
  (congrArg State.reportedNodes (s.settleLines_frame old) :)
@[simp] theorem State.settleLines_gangs (old : State) : (settleLines old s).gangs = s.gangs :=
  (congrArg State.gangs (s.settleLines_frame old) :)
@[simp] theorem State.settleLines_fences (old : State) : (settleLines old s).fences = s.fences :=
  (congrArg State.fences (s.settleLines_frame old) :)
@[simp] theorem State.settleLines_windClass (old : State) : (settleLines old s).windClass = s.windClass :=
  (congrArg State.windClass (s.settleLines_frame old) :)
@[simp] theorem State.settleLines_weatherStale (old : State) : (settleLines old s).weatherStale = s.weatherStale :=
  (congrArg State.weatherStale (s.settleLines_frame old) :)
@[simp] theorem State.settleLines_weatherTimer (old : State) : (settleLines old s).weatherTimer = s.weatherTimer :=
  (congrArg State.weatherTimer (s.settleLines_frame old) :)
@[simp] theorem State.settleLines_press (old : State) : (settleLines old s).press = s.press :=
  (congrArg State.press (s.settleLines_frame old) :)
@[simp] theorem State.settleLines_pressTime (old : State) : (settleLines old s).pressTime = s.pressTime :=
  (congrArg State.pressTime (s.settleLines_frame old) :)
@[simp] theorem State.settleLines_longTime (old : State) : (settleLines old s).longTime = s.longTime :=
  (congrArg State.longTime (s.settleLines_frame old) :)
@[simp] theorem State.settleLines_operatorHold (old : State) : (settleLines old s).operatorHold = s.operatorHold :=
  (congrArg State.operatorHold (s.settleLines_frame old) :)
@[simp] theorem State.settleLines_deferred (old : State) : (settleLines old s).deferred = s.deferred :=
  (congrArg State.deferred (s.settleLines_frame old) :)
@[simp] theorem State.settleLines_backoff (old : State) : (settleLines old s).backoff = s.backoff :=
  (congrArg State.backoff (s.settleLines_frame old) :)
@[simp] theorem State.settleLines_highPtr (old : State) : (settleLines old s).highPtr = s.highPtr :=
  (congrArg State.highPtr (s.settleLines_frame old) :)
@[simp] theorem State.settleLines_lowPtr (old : State) : (settleLines old s).lowPtr = s.lowPtr :=
  (congrArg State.lowPtr (s.settleLines_frame old) :)
@[simp] theorem State.settleLines_openGrant (old : State) : (settleLines old s).openGrant = s.openGrant :=
  (congrArg State.openGrant (s.settleLines_frame old) :)
@[simp] theorem State.settleLines_grantRecs (old : State) : (settleLines old s).grantRecs = s.grantRecs :=
  (congrArg State.grantRecs (s.settleLines_frame old) :)
@[simp] theorem State.settleLines_watchdog (old : State) : (settleLines old s).watchdog = s.watchdog :=
  (congrArg State.watchdog (s.settleLines_frame old) :)
@[simp] theorem State.settleLines_watchdogTimer (old : State) : (settleLines old s).watchdogTimer = s.watchdogTimer :=
  (congrArg State.watchdogTimer (s.settleLines_frame old) :)
@[simp] theorem State.settleLines_olderArrival (old : State) : (settleLines old s).olderArrival = s.olderArrival :=
  (congrArg State.olderArrival (s.settleLines_frame old) :)
@[simp] theorem State.settleLines_newerArrival (old : State) : (settleLines old s).newerArrival = s.newerArrival :=
  (congrArg State.newerArrival (s.settleLines_frame old) :)
@[simp] theorem State.settleLines_substituteTimer (old : State) : (settleLines old s).substituteTimer = s.substituteTimer :=
  (congrArg State.substituteTimer (s.settleLines_frame old) :)
@[simp] theorem State.settleLines_lastCycle (old : State) : (settleLines old s).lastCycle = s.lastCycle :=
  (congrArg State.lastCycle (s.settleLines_frame old) :)
@[simp] theorem State.settleLines_flags (old : State) : (settleLines old s).flags = s.flags :=
  (congrArg State.flags (s.settleLines_frame old) :)
@[simp] theorem State.settleLines_events (old : State) : (settleLines old s).events = s.events :=
  (congrArg State.events (s.settleLines_frame old) :)
@[simp] theorem State.settleLines_due (old : State) : (settleLines old s).due = s.due :=
  (congrArg State.due (s.settleLines_frame old) :)
@[simp] theorem State.settleLines_frameClass (old : State) : (settleLines old s).frameClass = s.frameClass :=
  (congrArg State.frameClass (s.settleLines_frame old) :)
@[simp] theorem State.settleLines_inReset (old : State) : (settleLines old s).inReset = s.inReset :=
  (congrArg State.inReset (s.settleLines_frame old) :)
@[simp] theorem State.settleLines_holdnLow (old : State) : (settleLines old s).holdnLow = s.holdnLow :=
  (congrArg State.holdnLow (s.settleLines_frame old) :)
@[simp] theorem State.settleLines_sampled (old : State) : (settleLines old s).sampled = s.sampled :=
  (congrArg State.sampled (s.settleLines_frame old) :)
@[simp] theorem State.settleLines_faultnLow (old : State) : (settleLines old s).faultnLow = s.faultnLow :=
  (congrArg State.faultnLow (s.settleLines_frame old) :)

/-- How a command ends touches the lines and FAULTn alone (R103, R179). -/
theorem State.settle_frame (old : State) :
    settle old s = { s with
    lines := (settle old s).lines, faultnLow := (settle old s).faultnLow } := rfl

@[simp] theorem State.settle_pending (old : State) : (settle old s).pending = s.pending :=
  (congrArg State.pending (s.settle_frame old) :)
@[simp] theorem State.settle_now (old : State) : (settle old s).now = s.now :=
  (congrArg State.now (s.settle_frame old) :)
@[simp] theorem State.settle_draws (old : State) : (settle old s).draws = s.draws :=
  (congrArg State.draws (s.settle_frame old) :)
@[simp] theorem State.settle_up (old : State) : (settle old s).up = s.up :=
  (congrArg State.up (s.settle_frame old) :)
@[simp] theorem State.settle_down (old : State) : (settle old s).down = s.down :=
  (congrArg State.down (s.settle_frame old) :)
@[simp] theorem State.settle_waiting (old : State) : (settle old s).waiting = s.waiting :=
  (congrArg State.waiting (s.settle_frame old) :)
@[simp] theorem State.settle_bankPresent (old : State) : (settle old s).bankPresent = s.bankPresent :=
  (congrArg State.bankPresent (s.settle_frame old) :)
@[simp] theorem State.settle_active (old : State) : (settle old s).active = s.active :=
  (congrArg State.active (s.settle_frame old) :)
@[simp] theorem State.settle_verifiedCrc (old : State) : (settle old s).verifiedCrc = s.verifiedCrc :=
  (congrArg State.verifiedCrc (s.settle_frame old) :)
@[simp] theorem State.settle_pendingBank (old : State) : (settle old s).pendingBank = s.pendingBank :=
  (congrArg State.pendingBank (s.settle_frame old) :)
@[simp] theorem State.settle_pendingState (old : State) : (settle old s).pendingState = s.pendingState :=
  (congrArg State.pendingState (s.settle_frame old) :)
@[simp] theorem State.settle_expectedCrc (old : State) : (settle old s).expectedCrc = s.expectedCrc :=
  (congrArg State.expectedCrc (s.settle_frame old) :)
@[simp] theorem State.settle_pendingCrc (old : State) : (settle old s).pendingCrc = s.pendingCrc :=
  (congrArg State.pendingCrc (s.settle_frame old) :)
@[simp] theorem State.settle_refresh (old : State) : (settle old s).refresh = s.refresh :=
  (congrArg State.refresh (s.settle_frame old) :)
@[simp] theorem State.settle_axes (old : State) : (settle old s).axes = s.axes :=
  (congrArg State.axes (s.settle_frame old) :)
@[simp] theorem State.settle_forwards (old : State) : (settle old s).forwards = s.forwards :=
  (congrArg State.forwards (s.settle_frame old) :)
@[simp] theorem State.settle_reportedNodes (old : State) : (settle old s).reportedNodes = s.reportedNodes :=
  (congrArg State.reportedNodes (s.settle_frame old) :)
@[simp] theorem State.settle_gangs (old : State) : (settle old s).gangs = s.gangs :=
  (congrArg State.gangs (s.settle_frame old) :)
@[simp] theorem State.settle_fences (old : State) : (settle old s).fences = s.fences :=
  (congrArg State.fences (s.settle_frame old) :)
@[simp] theorem State.settle_windClass (old : State) : (settle old s).windClass = s.windClass :=
  (congrArg State.windClass (s.settle_frame old) :)
@[simp] theorem State.settle_weatherStale (old : State) : (settle old s).weatherStale = s.weatherStale :=
  (congrArg State.weatherStale (s.settle_frame old) :)
@[simp] theorem State.settle_weatherTimer (old : State) : (settle old s).weatherTimer = s.weatherTimer :=
  (congrArg State.weatherTimer (s.settle_frame old) :)
@[simp] theorem State.settle_press (old : State) : (settle old s).press = s.press :=
  (congrArg State.press (s.settle_frame old) :)
@[simp] theorem State.settle_pressTime (old : State) : (settle old s).pressTime = s.pressTime :=
  (congrArg State.pressTime (s.settle_frame old) :)
@[simp] theorem State.settle_longTime (old : State) : (settle old s).longTime = s.longTime :=
  (congrArg State.longTime (s.settle_frame old) :)
@[simp] theorem State.settle_operatorHold (old : State) : (settle old s).operatorHold = s.operatorHold :=
  (congrArg State.operatorHold (s.settle_frame old) :)
@[simp] theorem State.settle_deferred (old : State) : (settle old s).deferred = s.deferred :=
  (congrArg State.deferred (s.settle_frame old) :)
@[simp] theorem State.settle_backoff (old : State) : (settle old s).backoff = s.backoff :=
  (congrArg State.backoff (s.settle_frame old) :)
@[simp] theorem State.settle_highPtr (old : State) : (settle old s).highPtr = s.highPtr :=
  (congrArg State.highPtr (s.settle_frame old) :)
@[simp] theorem State.settle_lowPtr (old : State) : (settle old s).lowPtr = s.lowPtr :=
  (congrArg State.lowPtr (s.settle_frame old) :)
@[simp] theorem State.settle_openGrant (old : State) : (settle old s).openGrant = s.openGrant :=
  (congrArg State.openGrant (s.settle_frame old) :)
@[simp] theorem State.settle_grantRecs (old : State) : (settle old s).grantRecs = s.grantRecs :=
  (congrArg State.grantRecs (s.settle_frame old) :)
@[simp] theorem State.settle_watchdog (old : State) : (settle old s).watchdog = s.watchdog :=
  (congrArg State.watchdog (s.settle_frame old) :)
@[simp] theorem State.settle_watchdogTimer (old : State) : (settle old s).watchdogTimer = s.watchdogTimer :=
  (congrArg State.watchdogTimer (s.settle_frame old) :)
@[simp] theorem State.settle_olderArrival (old : State) : (settle old s).olderArrival = s.olderArrival :=
  (congrArg State.olderArrival (s.settle_frame old) :)
@[simp] theorem State.settle_newerArrival (old : State) : (settle old s).newerArrival = s.newerArrival :=
  (congrArg State.newerArrival (s.settle_frame old) :)
@[simp] theorem State.settle_substituteTimer (old : State) : (settle old s).substituteTimer = s.substituteTimer :=
  (congrArg State.substituteTimer (s.settle_frame old) :)
@[simp] theorem State.settle_lastCycle (old : State) : (settle old s).lastCycle = s.lastCycle :=
  (congrArg State.lastCycle (s.settle_frame old) :)
@[simp] theorem State.settle_flags (old : State) : (settle old s).flags = s.flags :=
  (congrArg State.flags (s.settle_frame old) :)
@[simp] theorem State.settle_events (old : State) : (settle old s).events = s.events :=
  (congrArg State.events (s.settle_frame old) :)
@[simp] theorem State.settle_due (old : State) : (settle old s).due = s.due :=
  (congrArg State.due (s.settle_frame old) :)
@[simp] theorem State.settle_frameClass (old : State) : (settle old s).frameClass = s.frameClass :=
  (congrArg State.frameClass (s.settle_frame old) :)
@[simp] theorem State.settle_inReset (old : State) : (settle old s).inReset = s.inReset :=
  (congrArg State.inReset (s.settle_frame old) :)
@[simp] theorem State.settle_holdnLow (old : State) : (settle old s).holdnLow = s.holdnLow :=
  (congrArg State.holdnLow (s.settle_frame old) :)
@[simp] theorem State.settle_sampled (old : State) : (settle old s).sampled = s.sampled :=
  (congrArg State.sampled (s.settle_frame old) :)

/-- Updating an arbiter record touches the arbiter records alone. -/
theorem State.modifyGrant_frame (i : Nat) (f : GrantRec → GrantRec) :
    s.modifyGrant i f = { s with
    grantRecs := (s.modifyGrant i f).grantRecs } := rfl

@[simp] theorem State.modifyGrant_pending (i : Nat) (f : GrantRec → GrantRec) : (s.modifyGrant i f).pending = s.pending :=
  (congrArg State.pending (s.modifyGrant_frame i f) :)
@[simp] theorem State.modifyGrant_now (i : Nat) (f : GrantRec → GrantRec) : (s.modifyGrant i f).now = s.now :=
  (congrArg State.now (s.modifyGrant_frame i f) :)
@[simp] theorem State.modifyGrant_draws (i : Nat) (f : GrantRec → GrantRec) : (s.modifyGrant i f).draws = s.draws :=
  (congrArg State.draws (s.modifyGrant_frame i f) :)
@[simp] theorem State.modifyGrant_up (i : Nat) (f : GrantRec → GrantRec) : (s.modifyGrant i f).up = s.up :=
  (congrArg State.up (s.modifyGrant_frame i f) :)
@[simp] theorem State.modifyGrant_down (i : Nat) (f : GrantRec → GrantRec) : (s.modifyGrant i f).down = s.down :=
  (congrArg State.down (s.modifyGrant_frame i f) :)
@[simp] theorem State.modifyGrant_waiting (i : Nat) (f : GrantRec → GrantRec) : (s.modifyGrant i f).waiting = s.waiting :=
  (congrArg State.waiting (s.modifyGrant_frame i f) :)
@[simp] theorem State.modifyGrant_bankPresent (i : Nat) (f : GrantRec → GrantRec) : (s.modifyGrant i f).bankPresent = s.bankPresent :=
  (congrArg State.bankPresent (s.modifyGrant_frame i f) :)
@[simp] theorem State.modifyGrant_active (i : Nat) (f : GrantRec → GrantRec) : (s.modifyGrant i f).active = s.active :=
  (congrArg State.active (s.modifyGrant_frame i f) :)
@[simp] theorem State.modifyGrant_verifiedCrc (i : Nat) (f : GrantRec → GrantRec) : (s.modifyGrant i f).verifiedCrc = s.verifiedCrc :=
  (congrArg State.verifiedCrc (s.modifyGrant_frame i f) :)
@[simp] theorem State.modifyGrant_pendingBank (i : Nat) (f : GrantRec → GrantRec) : (s.modifyGrant i f).pendingBank = s.pendingBank :=
  (congrArg State.pendingBank (s.modifyGrant_frame i f) :)
@[simp] theorem State.modifyGrant_pendingState (i : Nat) (f : GrantRec → GrantRec) : (s.modifyGrant i f).pendingState = s.pendingState :=
  (congrArg State.pendingState (s.modifyGrant_frame i f) :)
@[simp] theorem State.modifyGrant_expectedCrc (i : Nat) (f : GrantRec → GrantRec) : (s.modifyGrant i f).expectedCrc = s.expectedCrc :=
  (congrArg State.expectedCrc (s.modifyGrant_frame i f) :)
@[simp] theorem State.modifyGrant_pendingCrc (i : Nat) (f : GrantRec → GrantRec) : (s.modifyGrant i f).pendingCrc = s.pendingCrc :=
  (congrArg State.pendingCrc (s.modifyGrant_frame i f) :)
@[simp] theorem State.modifyGrant_refresh (i : Nat) (f : GrantRec → GrantRec) : (s.modifyGrant i f).refresh = s.refresh :=
  (congrArg State.refresh (s.modifyGrant_frame i f) :)
@[simp] theorem State.modifyGrant_axes (i : Nat) (f : GrantRec → GrantRec) : (s.modifyGrant i f).axes = s.axes :=
  (congrArg State.axes (s.modifyGrant_frame i f) :)
@[simp] theorem State.modifyGrant_forwards (i : Nat) (f : GrantRec → GrantRec) : (s.modifyGrant i f).forwards = s.forwards :=
  (congrArg State.forwards (s.modifyGrant_frame i f) :)
@[simp] theorem State.modifyGrant_reportedNodes (i : Nat) (f : GrantRec → GrantRec) : (s.modifyGrant i f).reportedNodes = s.reportedNodes :=
  (congrArg State.reportedNodes (s.modifyGrant_frame i f) :)
@[simp] theorem State.modifyGrant_gangs (i : Nat) (f : GrantRec → GrantRec) : (s.modifyGrant i f).gangs = s.gangs :=
  (congrArg State.gangs (s.modifyGrant_frame i f) :)
@[simp] theorem State.modifyGrant_fences (i : Nat) (f : GrantRec → GrantRec) : (s.modifyGrant i f).fences = s.fences :=
  (congrArg State.fences (s.modifyGrant_frame i f) :)
@[simp] theorem State.modifyGrant_windClass (i : Nat) (f : GrantRec → GrantRec) : (s.modifyGrant i f).windClass = s.windClass :=
  (congrArg State.windClass (s.modifyGrant_frame i f) :)
@[simp] theorem State.modifyGrant_weatherStale (i : Nat) (f : GrantRec → GrantRec) : (s.modifyGrant i f).weatherStale = s.weatherStale :=
  (congrArg State.weatherStale (s.modifyGrant_frame i f) :)
@[simp] theorem State.modifyGrant_weatherTimer (i : Nat) (f : GrantRec → GrantRec) : (s.modifyGrant i f).weatherTimer = s.weatherTimer :=
  (congrArg State.weatherTimer (s.modifyGrant_frame i f) :)
@[simp] theorem State.modifyGrant_press (i : Nat) (f : GrantRec → GrantRec) : (s.modifyGrant i f).press = s.press :=
  (congrArg State.press (s.modifyGrant_frame i f) :)
@[simp] theorem State.modifyGrant_pressTime (i : Nat) (f : GrantRec → GrantRec) : (s.modifyGrant i f).pressTime = s.pressTime :=
  (congrArg State.pressTime (s.modifyGrant_frame i f) :)
@[simp] theorem State.modifyGrant_longTime (i : Nat) (f : GrantRec → GrantRec) : (s.modifyGrant i f).longTime = s.longTime :=
  (congrArg State.longTime (s.modifyGrant_frame i f) :)
@[simp] theorem State.modifyGrant_operatorHold (i : Nat) (f : GrantRec → GrantRec) : (s.modifyGrant i f).operatorHold = s.operatorHold :=
  (congrArg State.operatorHold (s.modifyGrant_frame i f) :)
@[simp] theorem State.modifyGrant_lines (i : Nat) (f : GrantRec → GrantRec) : (s.modifyGrant i f).lines = s.lines :=
  (congrArg State.lines (s.modifyGrant_frame i f) :)
@[simp] theorem State.modifyGrant_deferred (i : Nat) (f : GrantRec → GrantRec) : (s.modifyGrant i f).deferred = s.deferred :=
  (congrArg State.deferred (s.modifyGrant_frame i f) :)
@[simp] theorem State.modifyGrant_backoff (i : Nat) (f : GrantRec → GrantRec) : (s.modifyGrant i f).backoff = s.backoff :=
  (congrArg State.backoff (s.modifyGrant_frame i f) :)
@[simp] theorem State.modifyGrant_highPtr (i : Nat) (f : GrantRec → GrantRec) : (s.modifyGrant i f).highPtr = s.highPtr :=
  (congrArg State.highPtr (s.modifyGrant_frame i f) :)
@[simp] theorem State.modifyGrant_lowPtr (i : Nat) (f : GrantRec → GrantRec) : (s.modifyGrant i f).lowPtr = s.lowPtr :=
  (congrArg State.lowPtr (s.modifyGrant_frame i f) :)
@[simp] theorem State.modifyGrant_openGrant (i : Nat) (f : GrantRec → GrantRec) : (s.modifyGrant i f).openGrant = s.openGrant :=
  (congrArg State.openGrant (s.modifyGrant_frame i f) :)
@[simp] theorem State.modifyGrant_watchdog (i : Nat) (f : GrantRec → GrantRec) : (s.modifyGrant i f).watchdog = s.watchdog :=
  (congrArg State.watchdog (s.modifyGrant_frame i f) :)
@[simp] theorem State.modifyGrant_watchdogTimer (i : Nat) (f : GrantRec → GrantRec) : (s.modifyGrant i f).watchdogTimer = s.watchdogTimer :=
  (congrArg State.watchdogTimer (s.modifyGrant_frame i f) :)
@[simp] theorem State.modifyGrant_olderArrival (i : Nat) (f : GrantRec → GrantRec) : (s.modifyGrant i f).olderArrival = s.olderArrival :=
  (congrArg State.olderArrival (s.modifyGrant_frame i f) :)
@[simp] theorem State.modifyGrant_newerArrival (i : Nat) (f : GrantRec → GrantRec) : (s.modifyGrant i f).newerArrival = s.newerArrival :=
  (congrArg State.newerArrival (s.modifyGrant_frame i f) :)
@[simp] theorem State.modifyGrant_substituteTimer (i : Nat) (f : GrantRec → GrantRec) : (s.modifyGrant i f).substituteTimer = s.substituteTimer :=
  (congrArg State.substituteTimer (s.modifyGrant_frame i f) :)
@[simp] theorem State.modifyGrant_lastCycle (i : Nat) (f : GrantRec → GrantRec) : (s.modifyGrant i f).lastCycle = s.lastCycle :=
  (congrArg State.lastCycle (s.modifyGrant_frame i f) :)
@[simp] theorem State.modifyGrant_flags (i : Nat) (f : GrantRec → GrantRec) : (s.modifyGrant i f).flags = s.flags :=
  (congrArg State.flags (s.modifyGrant_frame i f) :)
@[simp] theorem State.modifyGrant_events (i : Nat) (f : GrantRec → GrantRec) : (s.modifyGrant i f).events = s.events :=
  (congrArg State.events (s.modifyGrant_frame i f) :)
@[simp] theorem State.modifyGrant_due (i : Nat) (f : GrantRec → GrantRec) : (s.modifyGrant i f).due = s.due :=
  (congrArg State.due (s.modifyGrant_frame i f) :)
@[simp] theorem State.modifyGrant_frameClass (i : Nat) (f : GrantRec → GrantRec) : (s.modifyGrant i f).frameClass = s.frameClass :=
  (congrArg State.frameClass (s.modifyGrant_frame i f) :)
@[simp] theorem State.modifyGrant_inReset (i : Nat) (f : GrantRec → GrantRec) : (s.modifyGrant i f).inReset = s.inReset :=
  (congrArg State.inReset (s.modifyGrant_frame i f) :)
@[simp] theorem State.modifyGrant_holdnLow (i : Nat) (f : GrantRec → GrantRec) : (s.modifyGrant i f).holdnLow = s.holdnLow :=
  (congrArg State.holdnLow (s.modifyGrant_frame i f) :)
@[simp] theorem State.modifyGrant_sampled (i : Nat) (f : GrantRec → GrantRec) : (s.modifyGrant i f).sampled = s.sampled :=
  (congrArg State.sampled (s.modifyGrant_frame i f) :)
@[simp] theorem State.modifyGrant_faultnLow (i : Nat) (f : GrantRec → GrantRec) : (s.modifyGrant i f).faultnLow = s.faultnLow :=
  (congrArg State.faultnLow (s.modifyGrant_frame i f) :)

/-- A frame that waits touches the waiting frames alone (R162). -/
theorem State.enqueueSetpoint_frame (w : WaitingFrame) :
    s.enqueueSetpoint w = { s with
    waiting := (s.enqueueSetpoint w).waiting } := by unfold State.enqueueSetpoint; split <;> rfl

@[simp] theorem State.enqueueSetpoint_pending (w : WaitingFrame) : (s.enqueueSetpoint w).pending = s.pending :=
  (congrArg State.pending (s.enqueueSetpoint_frame w) :)
@[simp] theorem State.enqueueSetpoint_now (w : WaitingFrame) : (s.enqueueSetpoint w).now = s.now :=
  (congrArg State.now (s.enqueueSetpoint_frame w) :)
@[simp] theorem State.enqueueSetpoint_draws (w : WaitingFrame) : (s.enqueueSetpoint w).draws = s.draws :=
  (congrArg State.draws (s.enqueueSetpoint_frame w) :)
@[simp] theorem State.enqueueSetpoint_up (w : WaitingFrame) : (s.enqueueSetpoint w).up = s.up :=
  (congrArg State.up (s.enqueueSetpoint_frame w) :)
@[simp] theorem State.enqueueSetpoint_down (w : WaitingFrame) : (s.enqueueSetpoint w).down = s.down :=
  (congrArg State.down (s.enqueueSetpoint_frame w) :)
@[simp] theorem State.enqueueSetpoint_bankPresent (w : WaitingFrame) : (s.enqueueSetpoint w).bankPresent = s.bankPresent :=
  (congrArg State.bankPresent (s.enqueueSetpoint_frame w) :)
@[simp] theorem State.enqueueSetpoint_active (w : WaitingFrame) : (s.enqueueSetpoint w).active = s.active :=
  (congrArg State.active (s.enqueueSetpoint_frame w) :)
@[simp] theorem State.enqueueSetpoint_verifiedCrc (w : WaitingFrame) : (s.enqueueSetpoint w).verifiedCrc = s.verifiedCrc :=
  (congrArg State.verifiedCrc (s.enqueueSetpoint_frame w) :)
@[simp] theorem State.enqueueSetpoint_pendingBank (w : WaitingFrame) : (s.enqueueSetpoint w).pendingBank = s.pendingBank :=
  (congrArg State.pendingBank (s.enqueueSetpoint_frame w) :)
@[simp] theorem State.enqueueSetpoint_pendingState (w : WaitingFrame) : (s.enqueueSetpoint w).pendingState = s.pendingState :=
  (congrArg State.pendingState (s.enqueueSetpoint_frame w) :)
@[simp] theorem State.enqueueSetpoint_expectedCrc (w : WaitingFrame) : (s.enqueueSetpoint w).expectedCrc = s.expectedCrc :=
  (congrArg State.expectedCrc (s.enqueueSetpoint_frame w) :)
@[simp] theorem State.enqueueSetpoint_pendingCrc (w : WaitingFrame) : (s.enqueueSetpoint w).pendingCrc = s.pendingCrc :=
  (congrArg State.pendingCrc (s.enqueueSetpoint_frame w) :)
@[simp] theorem State.enqueueSetpoint_refresh (w : WaitingFrame) : (s.enqueueSetpoint w).refresh = s.refresh :=
  (congrArg State.refresh (s.enqueueSetpoint_frame w) :)
@[simp] theorem State.enqueueSetpoint_axes (w : WaitingFrame) : (s.enqueueSetpoint w).axes = s.axes :=
  (congrArg State.axes (s.enqueueSetpoint_frame w) :)
@[simp] theorem State.enqueueSetpoint_forwards (w : WaitingFrame) : (s.enqueueSetpoint w).forwards = s.forwards :=
  (congrArg State.forwards (s.enqueueSetpoint_frame w) :)
@[simp] theorem State.enqueueSetpoint_reportedNodes (w : WaitingFrame) : (s.enqueueSetpoint w).reportedNodes = s.reportedNodes :=
  (congrArg State.reportedNodes (s.enqueueSetpoint_frame w) :)
@[simp] theorem State.enqueueSetpoint_gangs (w : WaitingFrame) : (s.enqueueSetpoint w).gangs = s.gangs :=
  (congrArg State.gangs (s.enqueueSetpoint_frame w) :)
@[simp] theorem State.enqueueSetpoint_fences (w : WaitingFrame) : (s.enqueueSetpoint w).fences = s.fences :=
  (congrArg State.fences (s.enqueueSetpoint_frame w) :)
@[simp] theorem State.enqueueSetpoint_windClass (w : WaitingFrame) : (s.enqueueSetpoint w).windClass = s.windClass :=
  (congrArg State.windClass (s.enqueueSetpoint_frame w) :)
@[simp] theorem State.enqueueSetpoint_weatherStale (w : WaitingFrame) : (s.enqueueSetpoint w).weatherStale = s.weatherStale :=
  (congrArg State.weatherStale (s.enqueueSetpoint_frame w) :)
@[simp] theorem State.enqueueSetpoint_weatherTimer (w : WaitingFrame) : (s.enqueueSetpoint w).weatherTimer = s.weatherTimer :=
  (congrArg State.weatherTimer (s.enqueueSetpoint_frame w) :)
@[simp] theorem State.enqueueSetpoint_press (w : WaitingFrame) : (s.enqueueSetpoint w).press = s.press :=
  (congrArg State.press (s.enqueueSetpoint_frame w) :)
@[simp] theorem State.enqueueSetpoint_pressTime (w : WaitingFrame) : (s.enqueueSetpoint w).pressTime = s.pressTime :=
  (congrArg State.pressTime (s.enqueueSetpoint_frame w) :)
@[simp] theorem State.enqueueSetpoint_longTime (w : WaitingFrame) : (s.enqueueSetpoint w).longTime = s.longTime :=
  (congrArg State.longTime (s.enqueueSetpoint_frame w) :)
@[simp] theorem State.enqueueSetpoint_operatorHold (w : WaitingFrame) : (s.enqueueSetpoint w).operatorHold = s.operatorHold :=
  (congrArg State.operatorHold (s.enqueueSetpoint_frame w) :)
@[simp] theorem State.enqueueSetpoint_lines (w : WaitingFrame) : (s.enqueueSetpoint w).lines = s.lines :=
  (congrArg State.lines (s.enqueueSetpoint_frame w) :)
@[simp] theorem State.enqueueSetpoint_deferred (w : WaitingFrame) : (s.enqueueSetpoint w).deferred = s.deferred :=
  (congrArg State.deferred (s.enqueueSetpoint_frame w) :)
@[simp] theorem State.enqueueSetpoint_backoff (w : WaitingFrame) : (s.enqueueSetpoint w).backoff = s.backoff :=
  (congrArg State.backoff (s.enqueueSetpoint_frame w) :)
@[simp] theorem State.enqueueSetpoint_highPtr (w : WaitingFrame) : (s.enqueueSetpoint w).highPtr = s.highPtr :=
  (congrArg State.highPtr (s.enqueueSetpoint_frame w) :)
@[simp] theorem State.enqueueSetpoint_lowPtr (w : WaitingFrame) : (s.enqueueSetpoint w).lowPtr = s.lowPtr :=
  (congrArg State.lowPtr (s.enqueueSetpoint_frame w) :)
@[simp] theorem State.enqueueSetpoint_openGrant (w : WaitingFrame) : (s.enqueueSetpoint w).openGrant = s.openGrant :=
  (congrArg State.openGrant (s.enqueueSetpoint_frame w) :)
@[simp] theorem State.enqueueSetpoint_grantRecs (w : WaitingFrame) : (s.enqueueSetpoint w).grantRecs = s.grantRecs :=
  (congrArg State.grantRecs (s.enqueueSetpoint_frame w) :)
@[simp] theorem State.enqueueSetpoint_watchdog (w : WaitingFrame) : (s.enqueueSetpoint w).watchdog = s.watchdog :=
  (congrArg State.watchdog (s.enqueueSetpoint_frame w) :)
@[simp] theorem State.enqueueSetpoint_watchdogTimer (w : WaitingFrame) : (s.enqueueSetpoint w).watchdogTimer = s.watchdogTimer :=
  (congrArg State.watchdogTimer (s.enqueueSetpoint_frame w) :)
@[simp] theorem State.enqueueSetpoint_olderArrival (w : WaitingFrame) : (s.enqueueSetpoint w).olderArrival = s.olderArrival :=
  (congrArg State.olderArrival (s.enqueueSetpoint_frame w) :)
@[simp] theorem State.enqueueSetpoint_newerArrival (w : WaitingFrame) : (s.enqueueSetpoint w).newerArrival = s.newerArrival :=
  (congrArg State.newerArrival (s.enqueueSetpoint_frame w) :)
@[simp] theorem State.enqueueSetpoint_substituteTimer (w : WaitingFrame) : (s.enqueueSetpoint w).substituteTimer = s.substituteTimer :=
  (congrArg State.substituteTimer (s.enqueueSetpoint_frame w) :)
@[simp] theorem State.enqueueSetpoint_lastCycle (w : WaitingFrame) : (s.enqueueSetpoint w).lastCycle = s.lastCycle :=
  (congrArg State.lastCycle (s.enqueueSetpoint_frame w) :)
@[simp] theorem State.enqueueSetpoint_flags (w : WaitingFrame) : (s.enqueueSetpoint w).flags = s.flags :=
  (congrArg State.flags (s.enqueueSetpoint_frame w) :)
@[simp] theorem State.enqueueSetpoint_events (w : WaitingFrame) : (s.enqueueSetpoint w).events = s.events :=
  (congrArg State.events (s.enqueueSetpoint_frame w) :)
@[simp] theorem State.enqueueSetpoint_due (w : WaitingFrame) : (s.enqueueSetpoint w).due = s.due :=
  (congrArg State.due (s.enqueueSetpoint_frame w) :)
@[simp] theorem State.enqueueSetpoint_frameClass (w : WaitingFrame) : (s.enqueueSetpoint w).frameClass = s.frameClass :=
  (congrArg State.frameClass (s.enqueueSetpoint_frame w) :)
@[simp] theorem State.enqueueSetpoint_inReset (w : WaitingFrame) : (s.enqueueSetpoint w).inReset = s.inReset :=
  (congrArg State.inReset (s.enqueueSetpoint_frame w) :)
@[simp] theorem State.enqueueSetpoint_holdnLow (w : WaitingFrame) : (s.enqueueSetpoint w).holdnLow = s.holdnLow :=
  (congrArg State.holdnLow (s.enqueueSetpoint_frame w) :)
@[simp] theorem State.enqueueSetpoint_sampled (w : WaitingFrame) : (s.enqueueSetpoint w).sampled = s.sampled :=
  (congrArg State.sampled (s.enqueueSetpoint_frame w) :)
@[simp] theorem State.enqueueSetpoint_faultnLow (w : WaitingFrame) : (s.enqueueSetpoint w).faultnLow = s.faultnLow :=
  (congrArg State.faultnLow (s.enqueueSetpoint_frame w) :)

end Sys2Proof.Machine
end

