-- ==== Sys2Proof/Laws/Reads.lean ====
section
/-!
SUPPORT. What is read of a state depends on few of its fields: one `_congr` lemma for each way of reading, and from them
what each shared operation leaves as it was read.
-/
namespace Sys2Proof.Machine

section Congruence

variable {s t : State}

theorem State.axis_congr (h0 : t.axes = s.axes) (i : Nat) : t.axis i = s.axis i := by
  unfold State.axis
  rw [h0]

theorem State.forward_congr (h0 : t.forwards = s.forwards) (i : Nat) : t.forward i = s.forward i := by
  unfold State.forward
  rw [h0]

theorem State.gang_congr (h0 : t.gangs = s.gangs) (g : Nat) : t.gang g = s.gang g := by
  unfold State.gang
  rw [h0]

theorem State.fence_congr (h0 : t.fences = s.fences) (g : Nat) : t.fence g = s.fence g := by
  unfold State.fence
  rw [h0]

theorem State.gangState_congr (h0 : t.gangs = s.gangs) (g : Nat) : t.gangState g = s.gangState g := by
  unfold State.gangState State.gang
  rw [h0]

theorem State.grantRec_congr (h0 : t.grantRecs = s.grantRecs) (i : Nat) : t.grantRec i = s.grantRec i := by
  unfold State.grantRec
  rw [h0]

theorem State.flag_congr (h0 : t.flags = s.flags) (f : Flag) : t.flag f = s.flag f := by
  unfold State.flag
  rw [h0]

theorem State.port_congr (h0 : t.up = s.up) (h1 : t.down = s.down) (p : Port) : t.port p = s.port p := by
  cases p <;> simp [State.port, h0, h1]

theorem State.config_congr (h0 : t.active = s.active) : t.config  = s.config := by
  unfold State.config
  rw [h0]

theorem State.gangRow_congr (h0 : t.active = s.active) (g : Nat) : t.gangRow g = s.gangRow g := by
  unfold State.gangRow
  rw [h0]

theorem State.members_congr (h0 : t.active = s.active) (g : Nat) : t.members g = s.members g := by
  unfold State.members
  rw [h0]

theorem State.isFresh_congr (h0 : t.axes = s.axes) (i : Nat) : t.isFresh i = s.isFresh i := by
  unfold State.isFresh State.axis
  rw [h0]

theorem State.freshMembers_congr (h0 : t.active = s.active) (h1 : t.axes = s.axes) (g : Nat) : t.freshMembers g = s.freshMembers g := by
  unfold State.freshMembers State.members State.axis
  rw [h0, h1]

theorem State.measuredSkew_congr (h0 : t.active = s.active) (h1 : t.axes = s.axes) (g : Nat) : t.measuredSkew g = s.measuredSkew g := by
  unfold State.measuredSkew State.freshPositions State.freshMembers State.members State.axis
  rw [h0, h1]

theorem State.anyStale_congr (h0 : t.active = s.active) (h1 : t.axes = s.axes) (g : Nat) : t.anyStale g = s.anyStale g := by
  unfold State.anyStale State.members State.axis
  rw [h0, h1]

theorem State.allReady_congr (h0 : t.active = s.active) (h1 : t.axes = s.axes) (g : Nat) : t.allReady g = s.allReady g := by
  unfold State.allReady State.members State.axis
  rw [h0, h1]

theorem State.faultMask_congr (h0 : t.active = s.active) (h1 : t.bankPresent = s.bankPresent) : t.faultMask  = s.faultMask := by
  unfold State.faultMask
  rw [h0, h1]

theorem State.summary_congr (h0 : t.active = s.active) (h1 : t.bankPresent = s.bankPresent) (h2 : t.flags = s.flags) : t.summary  = s.summary := by
  unfold State.summary State.faultMask
  rw [h0, h1, h2]

theorem State.lineDemand_congr (h0 : t.active = s.active) (h1 : t.bankPresent = s.bankPresent) (h2 : t.gangs = s.gangs) (i : Nat) : t.lineDemand i = s.lineDemand i := by
  unfold State.lineDemand State.watchedIn State.config State.gang
  rw [h0, h1, h2]

end Congruence

variable (s : State)

/-! ### setFlag -/

@[simp] theorem State.setFlag_axis (f0 : Flag) (i : Nat) : (s.setFlag f0).axis i = s.axis i := State.axis_congr (by simp) i
@[simp] theorem State.setFlag_forward (f0 : Flag) (i : Nat) : (s.setFlag f0).forward i = s.forward i := State.forward_congr (by simp) i
@[simp] theorem State.setFlag_gang (f0 : Flag) (g : Nat) : (s.setFlag f0).gang g = s.gang g := State.gang_congr (by simp) g
@[simp] theorem State.setFlag_fence (f0 : Flag) (g : Nat) : (s.setFlag f0).fence g = s.fence g := State.fence_congr (by simp) g
@[simp] theorem State.setFlag_gangState (f0 : Flag) (g : Nat) : (s.setFlag f0).gangState g = s.gangState g := State.gangState_congr (by simp) g
@[simp] theorem State.setFlag_grantRec (f0 : Flag) (i : Nat) : (s.setFlag f0).grantRec i = s.grantRec i := State.grantRec_congr (by simp) i
@[simp] theorem State.setFlag_port (f0 : Flag) (p : Port) : (s.setFlag f0).port p = s.port p := State.port_congr (by simp) (by simp) p
@[simp] theorem State.setFlag_config (f0 : Flag) : (s.setFlag f0).config = s.config := State.config_congr (by simp)
@[simp] theorem State.setFlag_gangRow (f0 : Flag) (g : Nat) : (s.setFlag f0).gangRow g = s.gangRow g := State.gangRow_congr (by simp) g
@[simp] theorem State.setFlag_members (f0 : Flag) (g : Nat) : (s.setFlag f0).members g = s.members g := State.members_congr (by simp) g
@[simp] theorem State.setFlag_isFresh (f0 : Flag) (i : Nat) : (s.setFlag f0).isFresh i = s.isFresh i := State.isFresh_congr (by simp) i
@[simp] theorem State.setFlag_freshMembers (f0 : Flag) (g : Nat) : (s.setFlag f0).freshMembers g = s.freshMembers g := State.freshMembers_congr (by simp) (by simp) g
@[simp] theorem State.setFlag_measuredSkew (f0 : Flag) (g : Nat) : (s.setFlag f0).measuredSkew g = s.measuredSkew g := State.measuredSkew_congr (by simp) (by simp) g
@[simp] theorem State.setFlag_anyStale (f0 : Flag) (g : Nat) : (s.setFlag f0).anyStale g = s.anyStale g := State.anyStale_congr (by simp) (by simp) g
@[simp] theorem State.setFlag_allReady (f0 : Flag) (g : Nat) : (s.setFlag f0).allReady g = s.allReady g := State.allReady_congr (by simp) (by simp) g
@[simp] theorem State.setFlag_faultMask (f0 : Flag) : (s.setFlag f0).faultMask = s.faultMask := State.faultMask_congr (by simp) (by simp)
@[simp] theorem State.setFlag_lineDemand (f0 : Flag) (i : Nat) : (s.setFlag f0).lineDemand i = s.lineDemand i := State.lineDemand_congr (by simp) (by simp) (by simp) i

/-! ### updateFaultn -/

@[simp] theorem State.updateFaultn_axis (i : Nat) : (s.updateFaultn).axis i = s.axis i := State.axis_congr (by simp) i
@[simp] theorem State.updateFaultn_forward (i : Nat) : (s.updateFaultn).forward i = s.forward i := State.forward_congr (by simp) i
@[simp] theorem State.updateFaultn_gang (g : Nat) : (s.updateFaultn).gang g = s.gang g := State.gang_congr (by simp) g
@[simp] theorem State.updateFaultn_fence (g : Nat) : (s.updateFaultn).fence g = s.fence g := State.fence_congr (by simp) g
@[simp] theorem State.updateFaultn_gangState (g : Nat) : (s.updateFaultn).gangState g = s.gangState g := State.gangState_congr (by simp) g
@[simp] theorem State.updateFaultn_grantRec (i : Nat) : (s.updateFaultn).grantRec i = s.grantRec i := State.grantRec_congr (by simp) i
@[simp] theorem State.updateFaultn_flag (f : Flag) : (s.updateFaultn).flag f = s.flag f := State.flag_congr (by simp) f
@[simp] theorem State.updateFaultn_port (p : Port) : (s.updateFaultn).port p = s.port p := State.port_congr (by simp) (by simp) p
@[simp] theorem State.updateFaultn_config : (s.updateFaultn).config = s.config := State.config_congr (by simp)
@[simp] theorem State.updateFaultn_gangRow (g : Nat) : (s.updateFaultn).gangRow g = s.gangRow g := State.gangRow_congr (by simp) g
@[simp] theorem State.updateFaultn_members (g : Nat) : (s.updateFaultn).members g = s.members g := State.members_congr (by simp) g
@[simp] theorem State.updateFaultn_isFresh (i : Nat) : (s.updateFaultn).isFresh i = s.isFresh i := State.isFresh_congr (by simp) i
@[simp] theorem State.updateFaultn_freshMembers (g : Nat) : (s.updateFaultn).freshMembers g = s.freshMembers g := State.freshMembers_congr (by simp) (by simp) g
@[simp] theorem State.updateFaultn_measuredSkew (g : Nat) : (s.updateFaultn).measuredSkew g = s.measuredSkew g := State.measuredSkew_congr (by simp) (by simp) g
@[simp] theorem State.updateFaultn_anyStale (g : Nat) : (s.updateFaultn).anyStale g = s.anyStale g := State.anyStale_congr (by simp) (by simp) g
@[simp] theorem State.updateFaultn_allReady (g : Nat) : (s.updateFaultn).allReady g = s.allReady g := State.allReady_congr (by simp) (by simp) g
@[simp] theorem State.updateFaultn_faultMask : (s.updateFaultn).faultMask = s.faultMask := State.faultMask_congr (by simp) (by simp)
@[simp] theorem State.updateFaultn_summary : (s.updateFaultn).summary = s.summary := State.summary_congr (by simp) (by simp) (by simp)
@[simp] theorem State.updateFaultn_lineDemand (i : Nat) : (s.updateFaultn).lineDemand i = s.lineDemand i := State.lineDemand_congr (by simp) (by simp) (by simp) i

/-! ### setPort -/

@[simp] theorem State.setPort_axis (p0 : Port) (v : PortState) (i : Nat) : (s.setPort p0 v).axis i = s.axis i := State.axis_congr (by simp) i
@[simp] theorem State.setPort_forward (p0 : Port) (v : PortState) (i : Nat) : (s.setPort p0 v).forward i = s.forward i := State.forward_congr (by simp) i
@[simp] theorem State.setPort_gang (p0 : Port) (v : PortState) (g : Nat) : (s.setPort p0 v).gang g = s.gang g := State.gang_congr (by simp) g
@[simp] theorem State.setPort_fence (p0 : Port) (v : PortState) (g : Nat) : (s.setPort p0 v).fence g = s.fence g := State.fence_congr (by simp) g
@[simp] theorem State.setPort_gangState (p0 : Port) (v : PortState) (g : Nat) : (s.setPort p0 v).gangState g = s.gangState g := State.gangState_congr (by simp) g
@[simp] theorem State.setPort_grantRec (p0 : Port) (v : PortState) (i : Nat) : (s.setPort p0 v).grantRec i = s.grantRec i := State.grantRec_congr (by simp) i
@[simp] theorem State.setPort_flag (p0 : Port) (v : PortState) (f : Flag) : (s.setPort p0 v).flag f = s.flag f := State.flag_congr (by simp) f
@[simp] theorem State.setPort_config (p0 : Port) (v : PortState) : (s.setPort p0 v).config = s.config := State.config_congr (by simp)
@[simp] theorem State.setPort_gangRow (p0 : Port) (v : PortState) (g : Nat) : (s.setPort p0 v).gangRow g = s.gangRow g := State.gangRow_congr (by simp) g
@[simp] theorem State.setPort_members (p0 : Port) (v : PortState) (g : Nat) : (s.setPort p0 v).members g = s.members g := State.members_congr (by simp) g
@[simp] theorem State.setPort_isFresh (p0 : Port) (v : PortState) (i : Nat) : (s.setPort p0 v).isFresh i = s.isFresh i := State.isFresh_congr (by simp) i
@[simp] theorem State.setPort_freshMembers (p0 : Port) (v : PortState) (g : Nat) : (s.setPort p0 v).freshMembers g = s.freshMembers g := State.freshMembers_congr (by simp) (by simp) g
@[simp] theorem State.setPort_measuredSkew (p0 : Port) (v : PortState) (g : Nat) : (s.setPort p0 v).measuredSkew g = s.measuredSkew g := State.measuredSkew_congr (by simp) (by simp) g
@[simp] theorem State.setPort_anyStale (p0 : Port) (v : PortState) (g : Nat) : (s.setPort p0 v).anyStale g = s.anyStale g := State.anyStale_congr (by simp) (by simp) g
@[simp] theorem State.setPort_allReady (p0 : Port) (v : PortState) (g : Nat) : (s.setPort p0 v).allReady g = s.allReady g := State.allReady_congr (by simp) (by simp) g
@[simp] theorem State.setPort_faultMask (p0 : Port) (v : PortState) : (s.setPort p0 v).faultMask = s.faultMask := State.faultMask_congr (by simp) (by simp)
@[simp] theorem State.setPort_summary (p0 : Port) (v : PortState) : (s.setPort p0 v).summary = s.summary := State.summary_congr (by simp) (by simp) (by simp)
@[simp] theorem State.setPort_lineDemand (p0 : Port) (v : PortState) (i : Nat) : (s.setPort p0 v).lineDemand i = s.lineDemand i := State.lineDemand_congr (by simp) (by simp) (by simp) i

/-! ### modifyAxis -/

@[simp] theorem State.modifyAxis_forward (j : Nat) (u : AxisRec → AxisRec) (i : Nat) : (s.modifyAxis j u).forward i = s.forward i := State.forward_congr (by simp) i
@[simp] theorem State.modifyAxis_gang (j : Nat) (u : AxisRec → AxisRec) (g : Nat) : (s.modifyAxis j u).gang g = s.gang g := State.gang_congr (by simp) g
@[simp] theorem State.modifyAxis_fence (j : Nat) (u : AxisRec → AxisRec) (g : Nat) : (s.modifyAxis j u).fence g = s.fence g := State.fence_congr (by simp) g
@[simp] theorem State.modifyAxis_gangState (j : Nat) (u : AxisRec → AxisRec) (g : Nat) : (s.modifyAxis j u).gangState g = s.gangState g := State.gangState_congr (by simp) g
@[simp] theorem State.modifyAxis_grantRec (j : Nat) (u : AxisRec → AxisRec) (i : Nat) : (s.modifyAxis j u).grantRec i = s.grantRec i := State.grantRec_congr (by simp) i
@[simp] theorem State.modifyAxis_flag (j : Nat) (u : AxisRec → AxisRec) (f : Flag) : (s.modifyAxis j u).flag f = s.flag f := State.flag_congr (by simp) f
@[simp] theorem State.modifyAxis_port (j : Nat) (u : AxisRec → AxisRec) (p : Port) : (s.modifyAxis j u).port p = s.port p := State.port_congr (by simp) (by simp) p
@[simp] theorem State.modifyAxis_config (j : Nat) (u : AxisRec → AxisRec) : (s.modifyAxis j u).config = s.config := State.config_congr (by simp)
@[simp] theorem State.modifyAxis_gangRow (j : Nat) (u : AxisRec → AxisRec) (g : Nat) : (s.modifyAxis j u).gangRow g = s.gangRow g := State.gangRow_congr (by simp) g
@[simp] theorem State.modifyAxis_members (j : Nat) (u : AxisRec → AxisRec) (g : Nat) : (s.modifyAxis j u).members g = s.members g := State.members_congr (by simp) g
@[simp] theorem State.modifyAxis_faultMask (j : Nat) (u : AxisRec → AxisRec) : (s.modifyAxis j u).faultMask = s.faultMask := State.faultMask_congr (by simp) (by simp)
@[simp] theorem State.modifyAxis_summary (j : Nat) (u : AxisRec → AxisRec) : (s.modifyAxis j u).summary = s.summary := State.summary_congr (by simp) (by simp) (by simp)
@[simp] theorem State.modifyAxis_lineDemand (j : Nat) (u : AxisRec → AxisRec) (i : Nat) : (s.modifyAxis j u).lineDemand i = s.lineDemand i := State.lineDemand_congr (by simp) (by simp) (by simp) i

/-! ### modifyForward -/

@[simp] theorem State.modifyForward_axis (j : Nat) (u : ForwardRec → ForwardRec) (i : Nat) : (s.modifyForward j u).axis i = s.axis i := State.axis_congr (by simp) i
@[simp] theorem State.modifyForward_gang (j : Nat) (u : ForwardRec → ForwardRec) (g : Nat) : (s.modifyForward j u).gang g = s.gang g := State.gang_congr (by simp) g
@[simp] theorem State.modifyForward_fence (j : Nat) (u : ForwardRec → ForwardRec) (g : Nat) : (s.modifyForward j u).fence g = s.fence g := State.fence_congr (by simp) g
@[simp] theorem State.modifyForward_gangState (j : Nat) (u : ForwardRec → ForwardRec) (g : Nat) : (s.modifyForward j u).gangState g = s.gangState g := State.gangState_congr (by simp) g
@[simp] theorem State.modifyForward_grantRec (j : Nat) (u : ForwardRec → ForwardRec) (i : Nat) : (s.modifyForward j u).grantRec i = s.grantRec i := State.grantRec_congr (by simp) i
@[simp] theorem State.modifyForward_flag (j : Nat) (u : ForwardRec → ForwardRec) (f : Flag) : (s.modifyForward j u).flag f = s.flag f := State.flag_congr (by simp) f
@[simp] theorem State.modifyForward_port (j : Nat) (u : ForwardRec → ForwardRec) (p : Port) : (s.modifyForward j u).port p = s.port p := State.port_congr (by simp) (by simp) p
@[simp] theorem State.modifyForward_config (j : Nat) (u : ForwardRec → ForwardRec) : (s.modifyForward j u).config = s.config := State.config_congr (by simp)
@[simp] theorem State.modifyForward_gangRow (j : Nat) (u : ForwardRec → ForwardRec) (g : Nat) : (s.modifyForward j u).gangRow g = s.gangRow g := State.gangRow_congr (by simp) g
@[simp] theorem State.modifyForward_members (j : Nat) (u : ForwardRec → ForwardRec) (g : Nat) : (s.modifyForward j u).members g = s.members g := State.members_congr (by simp) g
@[simp] theorem State.modifyForward_isFresh (j : Nat) (u : ForwardRec → ForwardRec) (i : Nat) : (s.modifyForward j u).isFresh i = s.isFresh i := State.isFresh_congr (by simp) i
@[simp] theorem State.modifyForward_freshMembers (j : Nat) (u : ForwardRec → ForwardRec) (g : Nat) : (s.modifyForward j u).freshMembers g = s.freshMembers g := State.freshMembers_congr (by simp) (by simp) g
@[simp] theorem State.modifyForward_measuredSkew (j : Nat) (u : ForwardRec → ForwardRec) (g : Nat) : (s.modifyForward j u).measuredSkew g = s.measuredSkew g := State.measuredSkew_congr (by simp) (by simp) g
@[simp] theorem State.modifyForward_anyStale (j : Nat) (u : ForwardRec → ForwardRec) (g : Nat) : (s.modifyForward j u).anyStale g = s.anyStale g := State.anyStale_congr (by simp) (by simp) g
@[simp] theorem State.modifyForward_allReady (j : Nat) (u : ForwardRec → ForwardRec) (g : Nat) : (s.modifyForward j u).allReady g = s.allReady g := State.allReady_congr (by simp) (by simp) g
@[simp] theorem State.modifyForward_faultMask (j : Nat) (u : ForwardRec → ForwardRec) : (s.modifyForward j u).faultMask = s.faultMask := State.faultMask_congr (by simp) (by simp)
@[simp] theorem State.modifyForward_summary (j : Nat) (u : ForwardRec → ForwardRec) : (s.modifyForward j u).summary = s.summary := State.summary_congr (by simp) (by simp) (by simp)
@[simp] theorem State.modifyForward_lineDemand (j : Nat) (u : ForwardRec → ForwardRec) (i : Nat) : (s.modifyForward j u).lineDemand i = s.lineDemand i := State.lineDemand_congr (by simp) (by simp) (by simp) i

/-! ### modifyGang -/

@[simp] theorem State.modifyGang_axis (j : Nat) (u : GangRec → GangRec) (i : Nat) : (s.modifyGang j u).axis i = s.axis i := State.axis_congr (by simp) i
@[simp] theorem State.modifyGang_forward (j : Nat) (u : GangRec → GangRec) (i : Nat) : (s.modifyGang j u).forward i = s.forward i := State.forward_congr (by simp) i
@[simp] theorem State.modifyGang_fence (j : Nat) (u : GangRec → GangRec) (g : Nat) : (s.modifyGang j u).fence g = s.fence g := State.fence_congr (by simp) g
@[simp] theorem State.modifyGang_grantRec (j : Nat) (u : GangRec → GangRec) (i : Nat) : (s.modifyGang j u).grantRec i = s.grantRec i := State.grantRec_congr (by simp) i
@[simp] theorem State.modifyGang_flag (j : Nat) (u : GangRec → GangRec) (f : Flag) : (s.modifyGang j u).flag f = s.flag f := State.flag_congr (by simp) f
@[simp] theorem State.modifyGang_port (j : Nat) (u : GangRec → GangRec) (p : Port) : (s.modifyGang j u).port p = s.port p := State.port_congr (by simp) (by simp) p
@[simp] theorem State.modifyGang_config (j : Nat) (u : GangRec → GangRec) : (s.modifyGang j u).config = s.config := State.config_congr (by simp)
@[simp] theorem State.modifyGang_gangRow (j : Nat) (u : GangRec → GangRec) (g : Nat) : (s.modifyGang j u).gangRow g = s.gangRow g := State.gangRow_congr (by simp) g
@[simp] theorem State.modifyGang_members (j : Nat) (u : GangRec → GangRec) (g : Nat) : (s.modifyGang j u).members g = s.members g := State.members_congr (by simp) g
@[simp] theorem State.modifyGang_isFresh (j : Nat) (u : GangRec → GangRec) (i : Nat) : (s.modifyGang j u).isFresh i = s.isFresh i := State.isFresh_congr (by simp) i
@[simp] theorem State.modifyGang_freshMembers (j : Nat) (u : GangRec → GangRec) (g : Nat) : (s.modifyGang j u).freshMembers g = s.freshMembers g := State.freshMembers_congr (by simp) (by simp) g
@[simp] theorem State.modifyGang_measuredSkew (j : Nat) (u : GangRec → GangRec) (g : Nat) : (s.modifyGang j u).measuredSkew g = s.measuredSkew g := State.measuredSkew_congr (by simp) (by simp) g
@[simp] theorem State.modifyGang_anyStale (j : Nat) (u : GangRec → GangRec) (g : Nat) : (s.modifyGang j u).anyStale g = s.anyStale g := State.anyStale_congr (by simp) (by simp) g
@[simp] theorem State.modifyGang_allReady (j : Nat) (u : GangRec → GangRec) (g : Nat) : (s.modifyGang j u).allReady g = s.allReady g := State.allReady_congr (by simp) (by simp) g
@[simp] theorem State.modifyGang_faultMask (j : Nat) (u : GangRec → GangRec) : (s.modifyGang j u).faultMask = s.faultMask := State.faultMask_congr (by simp) (by simp)
@[simp] theorem State.modifyGang_summary (j : Nat) (u : GangRec → GangRec) : (s.modifyGang j u).summary = s.summary := State.summary_congr (by simp) (by simp) (by simp)

/-! ### offer -/

@[simp] theorem State.offer_axis (src : EventSource) (code : Half) (k : Option Nat) (data : Option Word) (i : Nat) : (s.offer src code k data).axis i = s.axis i := State.axis_congr (by simp) i
@[simp] theorem State.offer_forward (src : EventSource) (code : Half) (k : Option Nat) (data : Option Word) (i : Nat) : (s.offer src code k data).forward i = s.forward i := State.forward_congr (by simp) i
@[simp] theorem State.offer_gang (src : EventSource) (code : Half) (k : Option Nat) (data : Option Word) (g : Nat) : (s.offer src code k data).gang g = s.gang g := State.gang_congr (by simp) g
@[simp] theorem State.offer_fence (src : EventSource) (code : Half) (k : Option Nat) (data : Option Word) (g : Nat) : (s.offer src code k data).fence g = s.fence g := State.fence_congr (by simp) g
@[simp] theorem State.offer_gangState (src : EventSource) (code : Half) (k : Option Nat) (data : Option Word) (g : Nat) : (s.offer src code k data).gangState g = s.gangState g := State.gangState_congr (by simp) g
@[simp] theorem State.offer_grantRec (src : EventSource) (code : Half) (k : Option Nat) (data : Option Word) (i : Nat) : (s.offer src code k data).grantRec i = s.grantRec i := State.grantRec_congr (by simp) i
@[simp] theorem State.offer_port (src : EventSource) (code : Half) (k : Option Nat) (data : Option Word) (p : Port) : (s.offer src code k data).port p = s.port p := State.port_congr (by simp) (by simp) p
@[simp] theorem State.offer_config (src : EventSource) (code : Half) (k : Option Nat) (data : Option Word) : (s.offer src code k data).config = s.config := State.config_congr (by simp)
@[simp] theorem State.offer_gangRow (src : EventSource) (code : Half) (k : Option Nat) (data : Option Word) (g : Nat) : (s.offer src code k data).gangRow g = s.gangRow g := State.gangRow_congr (by simp) g
@[simp] theorem State.offer_members (src : EventSource) (code : Half) (k : Option Nat) (data : Option Word) (g : Nat) : (s.offer src code k data).members g = s.members g := State.members_congr (by simp) g
@[simp] theorem State.offer_isFresh (src : EventSource) (code : Half) (k : Option Nat) (data : Option Word) (i : Nat) : (s.offer src code k data).isFresh i = s.isFresh i := State.isFresh_congr (by simp) i
@[simp] theorem State.offer_freshMembers (src : EventSource) (code : Half) (k : Option Nat) (data : Option Word) (g : Nat) : (s.offer src code k data).freshMembers g = s.freshMembers g := State.freshMembers_congr (by simp) (by simp) g
@[simp] theorem State.offer_measuredSkew (src : EventSource) (code : Half) (k : Option Nat) (data : Option Word) (g : Nat) : (s.offer src code k data).measuredSkew g = s.measuredSkew g := State.measuredSkew_congr (by simp) (by simp) g
@[simp] theorem State.offer_anyStale (src : EventSource) (code : Half) (k : Option Nat) (data : Option Word) (g : Nat) : (s.offer src code k data).anyStale g = s.anyStale g := State.anyStale_congr (by simp) (by simp) g
@[simp] theorem State.offer_allReady (src : EventSource) (code : Half) (k : Option Nat) (data : Option Word) (g : Nat) : (s.offer src code k data).allReady g = s.allReady g := State.allReady_congr (by simp) (by simp) g
@[simp] theorem State.offer_faultMask (src : EventSource) (code : Half) (k : Option Nat) (data : Option Word) : (s.offer src code k data).faultMask = s.faultMask := State.faultMask_congr (by simp) (by simp)
@[simp] theorem State.offer_lineDemand (src : EventSource) (code : Half) (k : Option Nat) (data : Option Word) (i : Nat) : (s.offer src code k data).lineDemand i = s.lineDemand i := State.lineDemand_congr (by simp) (by simp) (by simp) i

/-! ### offerOwn -/

@[simp] theorem State.offerOwn_axis (e : BridgeEvent) (k : Option Nat) (data : Word) (i : Nat) : (s.offerOwn e k data).axis i = s.axis i := State.axis_congr (by simp) i
@[simp] theorem State.offerOwn_forward (e : BridgeEvent) (k : Option Nat) (data : Word) (i : Nat) : (s.offerOwn e k data).forward i = s.forward i := State.forward_congr (by simp) i
@[simp] theorem State.offerOwn_gang (e : BridgeEvent) (k : Option Nat) (data : Word) (g : Nat) : (s.offerOwn e k data).gang g = s.gang g := State.gang_congr (by simp) g
@[simp] theorem State.offerOwn_fence (e : BridgeEvent) (k : Option Nat) (data : Word) (g : Nat) : (s.offerOwn e k data).fence g = s.fence g := State.fence_congr (by simp) g
@[simp] theorem State.offerOwn_gangState (e : BridgeEvent) (k : Option Nat) (data : Word) (g : Nat) : (s.offerOwn e k data).gangState g = s.gangState g := State.gangState_congr (by simp) g
@[simp] theorem State.offerOwn_grantRec (e : BridgeEvent) (k : Option Nat) (data : Word) (i : Nat) : (s.offerOwn e k data).grantRec i = s.grantRec i := State.grantRec_congr (by simp) i
@[simp] theorem State.offerOwn_port (e : BridgeEvent) (k : Option Nat) (data : Word) (p : Port) : (s.offerOwn e k data).port p = s.port p := State.port_congr (by simp) (by simp) p
@[simp] theorem State.offerOwn_config (e : BridgeEvent) (k : Option Nat) (data : Word) : (s.offerOwn e k data).config = s.config := State.config_congr (by simp)
@[simp] theorem State.offerOwn_gangRow (e : BridgeEvent) (k : Option Nat) (data : Word) (g : Nat) : (s.offerOwn e k data).gangRow g = s.gangRow g := State.gangRow_congr (by simp) g
@[simp] theorem State.offerOwn_members (e : BridgeEvent) (k : Option Nat) (data : Word) (g : Nat) : (s.offerOwn e k data).members g = s.members g := State.members_congr (by simp) g
@[simp] theorem State.offerOwn_isFresh (e : BridgeEvent) (k : Option Nat) (data : Word) (i : Nat) : (s.offerOwn e k data).isFresh i = s.isFresh i := State.isFresh_congr (by simp) i
@[simp] theorem State.offerOwn_freshMembers (e : BridgeEvent) (k : Option Nat) (data : Word) (g : Nat) : (s.offerOwn e k data).freshMembers g = s.freshMembers g := State.freshMembers_congr (by simp) (by simp) g
@[simp] theorem State.offerOwn_measuredSkew (e : BridgeEvent) (k : Option Nat) (data : Word) (g : Nat) : (s.offerOwn e k data).measuredSkew g = s.measuredSkew g := State.measuredSkew_congr (by simp) (by simp) g
@[simp] theorem State.offerOwn_anyStale (e : BridgeEvent) (k : Option Nat) (data : Word) (g : Nat) : (s.offerOwn e k data).anyStale g = s.anyStale g := State.anyStale_congr (by simp) (by simp) g
@[simp] theorem State.offerOwn_allReady (e : BridgeEvent) (k : Option Nat) (data : Word) (g : Nat) : (s.offerOwn e k data).allReady g = s.allReady g := State.allReady_congr (by simp) (by simp) g
@[simp] theorem State.offerOwn_faultMask (e : BridgeEvent) (k : Option Nat) (data : Word) : (s.offerOwn e k data).faultMask = s.faultMask := State.faultMask_congr (by simp) (by simp)
@[simp] theorem State.offerOwn_lineDemand (e : BridgeEvent) (k : Option Nat) (data : Word) (i : Nat) : (s.offerOwn e k data).lineDemand i = s.lineDemand i := State.lineDemand_congr (by simp) (by simp) (by simp) i

/-! ### hand -/

@[simp] theorem State.hand_axis (q : Port) (fr : Frame) (i : Nat) : (s.hand q fr).axis i = s.axis i := State.axis_congr (by simp) i
@[simp] theorem State.hand_forward (q : Port) (fr : Frame) (i : Nat) : (s.hand q fr).forward i = s.forward i := State.forward_congr (by simp) i
@[simp] theorem State.hand_gang (q : Port) (fr : Frame) (g : Nat) : (s.hand q fr).gang g = s.gang g := State.gang_congr (by simp) g
@[simp] theorem State.hand_fence (q : Port) (fr : Frame) (g : Nat) : (s.hand q fr).fence g = s.fence g := State.fence_congr (by simp) g
@[simp] theorem State.hand_gangState (q : Port) (fr : Frame) (g : Nat) : (s.hand q fr).gangState g = s.gangState g := State.gangState_congr (by simp) g
@[simp] theorem State.hand_grantRec (q : Port) (fr : Frame) (i : Nat) : (s.hand q fr).grantRec i = s.grantRec i := State.grantRec_congr (by simp) i
@[simp] theorem State.hand_config (q : Port) (fr : Frame) : (s.hand q fr).config = s.config := State.config_congr (by simp)
@[simp] theorem State.hand_gangRow (q : Port) (fr : Frame) (g : Nat) : (s.hand q fr).gangRow g = s.gangRow g := State.gangRow_congr (by simp) g
@[simp] theorem State.hand_members (q : Port) (fr : Frame) (g : Nat) : (s.hand q fr).members g = s.members g := State.members_congr (by simp) g
@[simp] theorem State.hand_isFresh (q : Port) (fr : Frame) (i : Nat) : (s.hand q fr).isFresh i = s.isFresh i := State.isFresh_congr (by simp) i
@[simp] theorem State.hand_freshMembers (q : Port) (fr : Frame) (g : Nat) : (s.hand q fr).freshMembers g = s.freshMembers g := State.freshMembers_congr (by simp) (by simp) g
@[simp] theorem State.hand_measuredSkew (q : Port) (fr : Frame) (g : Nat) : (s.hand q fr).measuredSkew g = s.measuredSkew g := State.measuredSkew_congr (by simp) (by simp) g
@[simp] theorem State.hand_anyStale (q : Port) (fr : Frame) (g : Nat) : (s.hand q fr).anyStale g = s.anyStale g := State.anyStale_congr (by simp) (by simp) g
@[simp] theorem State.hand_allReady (q : Port) (fr : Frame) (g : Nat) : (s.hand q fr).allReady g = s.allReady g := State.allReady_congr (by simp) (by simp) g
@[simp] theorem State.hand_faultMask (q : Port) (fr : Frame) : (s.hand q fr).faultMask = s.faultMask := State.faultMask_congr (by simp) (by simp)
@[simp] theorem State.hand_lineDemand (q : Port) (fr : Frame) (i : Nat) : (s.hand q fr).lineDemand i = s.lineDemand i := State.lineDemand_congr (by simp) (by simp) (by simp) i

/-! ### addHold -/

@[simp] theorem State.addHold_axis (c : HoldCause) (j : Nat) (i : Nat) : (s.addHold c j).axis i = s.axis i := State.axis_congr (by simp) i
@[simp] theorem State.addHold_forward (c : HoldCause) (j : Nat) (i : Nat) : (s.addHold c j).forward i = s.forward i := State.forward_congr (by simp) i
@[simp] theorem State.addHold_fence (c : HoldCause) (j : Nat) (g : Nat) : (s.addHold c j).fence g = s.fence g := State.fence_congr (by simp) g
@[simp] theorem State.addHold_grantRec (c : HoldCause) (j : Nat) (i : Nat) : (s.addHold c j).grantRec i = s.grantRec i := State.grantRec_congr (by simp) i
@[simp] theorem State.addHold_flag (c : HoldCause) (j : Nat) (f : Flag) : (s.addHold c j).flag f = s.flag f := State.flag_congr (by simp) f
@[simp] theorem State.addHold_port (c : HoldCause) (j : Nat) (p : Port) : (s.addHold c j).port p = s.port p := State.port_congr (by simp) (by simp) p
@[simp] theorem State.addHold_config (c : HoldCause) (j : Nat) : (s.addHold c j).config = s.config := State.config_congr (by simp)
@[simp] theorem State.addHold_gangRow (c : HoldCause) (j : Nat) (g : Nat) : (s.addHold c j).gangRow g = s.gangRow g := State.gangRow_congr (by simp) g
@[simp] theorem State.addHold_members (c : HoldCause) (j : Nat) (g : Nat) : (s.addHold c j).members g = s.members g := State.members_congr (by simp) g
@[simp] theorem State.addHold_isFresh (c : HoldCause) (j : Nat) (i : Nat) : (s.addHold c j).isFresh i = s.isFresh i := State.isFresh_congr (by simp) i
@[simp] theorem State.addHold_freshMembers (c : HoldCause) (j : Nat) (g : Nat) : (s.addHold c j).freshMembers g = s.freshMembers g := State.freshMembers_congr (by simp) (by simp) g
@[simp] theorem State.addHold_measuredSkew (c : HoldCause) (j : Nat) (g : Nat) : (s.addHold c j).measuredSkew g = s.measuredSkew g := State.measuredSkew_congr (by simp) (by simp) g
@[simp] theorem State.addHold_anyStale (c : HoldCause) (j : Nat) (g : Nat) : (s.addHold c j).anyStale g = s.anyStale g := State.anyStale_congr (by simp) (by simp) g
@[simp] theorem State.addHold_allReady (c : HoldCause) (j : Nat) (g : Nat) : (s.addHold c j).allReady g = s.allReady g := State.allReady_congr (by simp) (by simp) g
@[simp] theorem State.addHold_faultMask (c : HoldCause) (j : Nat) : (s.addHold c j).faultMask = s.faultMask := State.faultMask_congr (by simp) (by simp)
@[simp] theorem State.addHold_summary (c : HoldCause) (j : Nat) : (s.addHold c j).summary = s.summary := State.summary_congr (by simp) (by simp) (by simp)

/-! ### removeHold -/

@[simp] theorem State.removeHold_axis (c : HoldCause) (j : Nat) (i : Nat) : (s.removeHold c j).axis i = s.axis i := State.axis_congr (by simp) i
@[simp] theorem State.removeHold_forward (c : HoldCause) (j : Nat) (i : Nat) : (s.removeHold c j).forward i = s.forward i := State.forward_congr (by simp) i
@[simp] theorem State.removeHold_fence (c : HoldCause) (j : Nat) (g : Nat) : (s.removeHold c j).fence g = s.fence g := State.fence_congr (by simp) g
@[simp] theorem State.removeHold_grantRec (c : HoldCause) (j : Nat) (i : Nat) : (s.removeHold c j).grantRec i = s.grantRec i := State.grantRec_congr (by simp) i
@[simp] theorem State.removeHold_flag (c : HoldCause) (j : Nat) (f : Flag) : (s.removeHold c j).flag f = s.flag f := State.flag_congr (by simp) f
@[simp] theorem State.removeHold_port (c : HoldCause) (j : Nat) (p : Port) : (s.removeHold c j).port p = s.port p := State.port_congr (by simp) (by simp) p
@[simp] theorem State.removeHold_config (c : HoldCause) (j : Nat) : (s.removeHold c j).config = s.config := State.config_congr (by simp)
@[simp] theorem State.removeHold_gangRow (c : HoldCause) (j : Nat) (g : Nat) : (s.removeHold c j).gangRow g = s.gangRow g := State.gangRow_congr (by simp) g
@[simp] theorem State.removeHold_members (c : HoldCause) (j : Nat) (g : Nat) : (s.removeHold c j).members g = s.members g := State.members_congr (by simp) g
@[simp] theorem State.removeHold_isFresh (c : HoldCause) (j : Nat) (i : Nat) : (s.removeHold c j).isFresh i = s.isFresh i := State.isFresh_congr (by simp) i
@[simp] theorem State.removeHold_freshMembers (c : HoldCause) (j : Nat) (g : Nat) : (s.removeHold c j).freshMembers g = s.freshMembers g := State.freshMembers_congr (by simp) (by simp) g
@[simp] theorem State.removeHold_measuredSkew (c : HoldCause) (j : Nat) (g : Nat) : (s.removeHold c j).measuredSkew g = s.measuredSkew g := State.measuredSkew_congr (by simp) (by simp) g
@[simp] theorem State.removeHold_anyStale (c : HoldCause) (j : Nat) (g : Nat) : (s.removeHold c j).anyStale g = s.anyStale g := State.anyStale_congr (by simp) (by simp) g
@[simp] theorem State.removeHold_allReady (c : HoldCause) (j : Nat) (g : Nat) : (s.removeHold c j).allReady g = s.allReady g := State.allReady_congr (by simp) (by simp) g
@[simp] theorem State.removeHold_faultMask (c : HoldCause) (j : Nat) : (s.removeHold c j).faultMask = s.faultMask := State.faultMask_congr (by simp) (by simp)
@[simp] theorem State.removeHold_summary (c : HoldCause) (j : Nat) : (s.removeHold c j).summary = s.summary := State.summary_congr (by simp) (by simp) (by simp)

/-! ### addHoldAll -/

@[simp] theorem State.addHoldAll_axis (c : HoldCause) (i : Nat) : (s.addHoldAll c).axis i = s.axis i := State.axis_congr (by simp) i
@[simp] theorem State.addHoldAll_forward (c : HoldCause) (i : Nat) : (s.addHoldAll c).forward i = s.forward i := State.forward_congr (by simp) i
@[simp] theorem State.addHoldAll_fence (c : HoldCause) (g : Nat) : (s.addHoldAll c).fence g = s.fence g := State.fence_congr (by simp) g
@[simp] theorem State.addHoldAll_grantRec (c : HoldCause) (i : Nat) : (s.addHoldAll c).grantRec i = s.grantRec i := State.grantRec_congr (by simp) i
@[simp] theorem State.addHoldAll_flag (c : HoldCause) (f : Flag) : (s.addHoldAll c).flag f = s.flag f := State.flag_congr (by simp) f
@[simp] theorem State.addHoldAll_port (c : HoldCause) (p : Port) : (s.addHoldAll c).port p = s.port p := State.port_congr (by simp) (by simp) p
@[simp] theorem State.addHoldAll_config (c : HoldCause) : (s.addHoldAll c).config = s.config := State.config_congr (by simp)
@[simp] theorem State.addHoldAll_gangRow (c : HoldCause) (g : Nat) : (s.addHoldAll c).gangRow g = s.gangRow g := State.gangRow_congr (by simp) g
@[simp] theorem State.addHoldAll_members (c : HoldCause) (g : Nat) : (s.addHoldAll c).members g = s.members g := State.members_congr (by simp) g
@[simp] theorem State.addHoldAll_isFresh (c : HoldCause) (i : Nat) : (s.addHoldAll c).isFresh i = s.isFresh i := State.isFresh_congr (by simp) i
@[simp] theorem State.addHoldAll_freshMembers (c : HoldCause) (g : Nat) : (s.addHoldAll c).freshMembers g = s.freshMembers g := State.freshMembers_congr (by simp) (by simp) g
@[simp] theorem State.addHoldAll_measuredSkew (c : HoldCause) (g : Nat) : (s.addHoldAll c).measuredSkew g = s.measuredSkew g := State.measuredSkew_congr (by simp) (by simp) g
@[simp] theorem State.addHoldAll_anyStale (c : HoldCause) (g : Nat) : (s.addHoldAll c).anyStale g = s.anyStale g := State.anyStale_congr (by simp) (by simp) g
@[simp] theorem State.addHoldAll_allReady (c : HoldCause) (g : Nat) : (s.addHoldAll c).allReady g = s.allReady g := State.allReady_congr (by simp) (by simp) g
@[simp] theorem State.addHoldAll_faultMask (c : HoldCause) : (s.addHoldAll c).faultMask = s.faultMask := State.faultMask_congr (by simp) (by simp)
@[simp] theorem State.addHoldAll_summary (c : HoldCause) : (s.addHoldAll c).summary = s.summary := State.summary_congr (by simp) (by simp) (by simp)

/-! ### removeHoldAll -/

@[simp] theorem State.removeHoldAll_axis (c : HoldCause) (i : Nat) : (s.removeHoldAll c).axis i = s.axis i := State.axis_congr (by simp) i
@[simp] theorem State.removeHoldAll_forward (c : HoldCause) (i : Nat) : (s.removeHoldAll c).forward i = s.forward i := State.forward_congr (by simp) i
@[simp] theorem State.removeHoldAll_fence (c : HoldCause) (g : Nat) : (s.removeHoldAll c).fence g = s.fence g := State.fence_congr (by simp) g
@[simp] theorem State.removeHoldAll_grantRec (c : HoldCause) (i : Nat) : (s.removeHoldAll c).grantRec i = s.grantRec i := State.grantRec_congr (by simp) i
@[simp] theorem State.removeHoldAll_flag (c : HoldCause) (f : Flag) : (s.removeHoldAll c).flag f = s.flag f := State.flag_congr (by simp) f
@[simp] theorem State.removeHoldAll_port (c : HoldCause) (p : Port) : (s.removeHoldAll c).port p = s.port p := State.port_congr (by simp) (by simp) p
@[simp] theorem State.removeHoldAll_config (c : HoldCause) : (s.removeHoldAll c).config = s.config := State.config_congr (by simp)
@[simp] theorem State.removeHoldAll_gangRow (c : HoldCause) (g : Nat) : (s.removeHoldAll c).gangRow g = s.gangRow g := State.gangRow_congr (by simp) g
@[simp] theorem State.removeHoldAll_members (c : HoldCause) (g : Nat) : (s.removeHoldAll c).members g = s.members g := State.members_congr (by simp) g
@[simp] theorem State.removeHoldAll_isFresh (c : HoldCause) (i : Nat) : (s.removeHoldAll c).isFresh i = s.isFresh i := State.isFresh_congr (by simp) i
@[simp] theorem State.removeHoldAll_freshMembers (c : HoldCause) (g : Nat) : (s.removeHoldAll c).freshMembers g = s.freshMembers g := State.freshMembers_congr (by simp) (by simp) g
@[simp] theorem State.removeHoldAll_measuredSkew (c : HoldCause) (g : Nat) : (s.removeHoldAll c).measuredSkew g = s.measuredSkew g := State.measuredSkew_congr (by simp) (by simp) g
@[simp] theorem State.removeHoldAll_anyStale (c : HoldCause) (g : Nat) : (s.removeHoldAll c).anyStale g = s.anyStale g := State.anyStale_congr (by simp) (by simp) g
@[simp] theorem State.removeHoldAll_allReady (c : HoldCause) (g : Nat) : (s.removeHoldAll c).allReady g = s.allReady g := State.allReady_congr (by simp) (by simp) g
@[simp] theorem State.removeHoldAll_faultMask (c : HoldCause) : (s.removeHoldAll c).faultMask = s.faultMask := State.faultMask_congr (by simp) (by simp)
@[simp] theorem State.removeHoldAll_summary (c : HoldCause) : (s.removeHoldAll c).summary = s.summary := State.summary_congr (by simp) (by simp) (by simp)

/-! ### windOnGang -/

@[simp] theorem State.windOnGang_axis (j : Nat) (i : Nat) : (s.windOnGang j).axis i = s.axis i := State.axis_congr (by simp) i
@[simp] theorem State.windOnGang_forward (j : Nat) (i : Nat) : (s.windOnGang j).forward i = s.forward i := State.forward_congr (by simp) i
@[simp] theorem State.windOnGang_fence (j : Nat) (g : Nat) : (s.windOnGang j).fence g = s.fence g := State.fence_congr (by simp) g
@[simp] theorem State.windOnGang_grantRec (j : Nat) (i : Nat) : (s.windOnGang j).grantRec i = s.grantRec i := State.grantRec_congr (by simp) i
@[simp] theorem State.windOnGang_flag (j : Nat) (f : Flag) : (s.windOnGang j).flag f = s.flag f := State.flag_congr (by simp) f
@[simp] theorem State.windOnGang_port (j : Nat) (p : Port) : (s.windOnGang j).port p = s.port p := State.port_congr (by simp) (by simp) p
@[simp] theorem State.windOnGang_config (j : Nat) : (s.windOnGang j).config = s.config := State.config_congr (by simp)
@[simp] theorem State.windOnGang_gangRow (j : Nat) (g : Nat) : (s.windOnGang j).gangRow g = s.gangRow g := State.gangRow_congr (by simp) g
@[simp] theorem State.windOnGang_members (j : Nat) (g : Nat) : (s.windOnGang j).members g = s.members g := State.members_congr (by simp) g
@[simp] theorem State.windOnGang_isFresh (j : Nat) (i : Nat) : (s.windOnGang j).isFresh i = s.isFresh i := State.isFresh_congr (by simp) i
@[simp] theorem State.windOnGang_freshMembers (j : Nat) (g : Nat) : (s.windOnGang j).freshMembers g = s.freshMembers g := State.freshMembers_congr (by simp) (by simp) g
@[simp] theorem State.windOnGang_measuredSkew (j : Nat) (g : Nat) : (s.windOnGang j).measuredSkew g = s.measuredSkew g := State.measuredSkew_congr (by simp) (by simp) g
@[simp] theorem State.windOnGang_anyStale (j : Nat) (g : Nat) : (s.windOnGang j).anyStale g = s.anyStale g := State.anyStale_congr (by simp) (by simp) g
@[simp] theorem State.windOnGang_allReady (j : Nat) (g : Nat) : (s.windOnGang j).allReady g = s.allReady g := State.allReady_congr (by simp) (by simp) g
@[simp] theorem State.windOnGang_faultMask (j : Nat) : (s.windOnGang j).faultMask = s.faultMask := State.faultMask_congr (by simp) (by simp)
@[simp] theorem State.windOnGang_summary (j : Nat) : (s.windOnGang j).summary = s.summary := State.summary_congr (by simp) (by simp) (by simp)

/-! ### addTrip -/

@[simp] theorem State.addTrip_axis (c : TripCause) (j : Nat) (i : Nat) : (s.addTrip c j).axis i = s.axis i := State.axis_congr (by simp) i
@[simp] theorem State.addTrip_forward (c : TripCause) (j : Nat) (i : Nat) : (s.addTrip c j).forward i = s.forward i := State.forward_congr (by simp) i
@[simp] theorem State.addTrip_fence (c : TripCause) (j : Nat) (g : Nat) : (s.addTrip c j).fence g = s.fence g := State.fence_congr (by simp) g
@[simp] theorem State.addTrip_grantRec (c : TripCause) (j : Nat) (i : Nat) : (s.addTrip c j).grantRec i = s.grantRec i := State.grantRec_congr (by simp) i
@[simp] theorem State.addTrip_port (c : TripCause) (j : Nat) (p : Port) : (s.addTrip c j).port p = s.port p := State.port_congr (by simp) (by simp) p
@[simp] theorem State.addTrip_config (c : TripCause) (j : Nat) : (s.addTrip c j).config = s.config := State.config_congr (by simp)
@[simp] theorem State.addTrip_gangRow (c : TripCause) (j : Nat) (g : Nat) : (s.addTrip c j).gangRow g = s.gangRow g := State.gangRow_congr (by simp) g
@[simp] theorem State.addTrip_members (c : TripCause) (j : Nat) (g : Nat) : (s.addTrip c j).members g = s.members g := State.members_congr (by simp) g
@[simp] theorem State.addTrip_isFresh (c : TripCause) (j : Nat) (i : Nat) : (s.addTrip c j).isFresh i = s.isFresh i := State.isFresh_congr (by simp) i
@[simp] theorem State.addTrip_freshMembers (c : TripCause) (j : Nat) (g : Nat) : (s.addTrip c j).freshMembers g = s.freshMembers g := State.freshMembers_congr (by simp) (by simp) g
@[simp] theorem State.addTrip_measuredSkew (c : TripCause) (j : Nat) (g : Nat) : (s.addTrip c j).measuredSkew g = s.measuredSkew g := State.measuredSkew_congr (by simp) (by simp) g
@[simp] theorem State.addTrip_anyStale (c : TripCause) (j : Nat) (g : Nat) : (s.addTrip c j).anyStale g = s.anyStale g := State.anyStale_congr (by simp) (by simp) g
@[simp] theorem State.addTrip_allReady (c : TripCause) (j : Nat) (g : Nat) : (s.addTrip c j).allReady g = s.allReady g := State.allReady_congr (by simp) (by simp) g
@[simp] theorem State.addTrip_faultMask (c : TripCause) (j : Nat) : (s.addTrip c j).faultMask = s.faultMask := State.faultMask_congr (by simp) (by simp)

/-! ### setWindClass -/

@[simp] theorem State.setWindClass_axis (cls : Nat) (why : WindReason) (i : Nat) : (s.setWindClass cls why).axis i = s.axis i := State.axis_congr (by simp) i
@[simp] theorem State.setWindClass_forward (cls : Nat) (why : WindReason) (i : Nat) : (s.setWindClass cls why).forward i = s.forward i := State.forward_congr (by simp) i
@[simp] theorem State.setWindClass_gang (cls : Nat) (why : WindReason) (g : Nat) : (s.setWindClass cls why).gang g = s.gang g := State.gang_congr (by simp) g
@[simp] theorem State.setWindClass_fence (cls : Nat) (why : WindReason) (g : Nat) : (s.setWindClass cls why).fence g = s.fence g := State.fence_congr (by simp) g
@[simp] theorem State.setWindClass_gangState (cls : Nat) (why : WindReason) (g : Nat) : (s.setWindClass cls why).gangState g = s.gangState g := State.gangState_congr (by simp) g
@[simp] theorem State.setWindClass_grantRec (cls : Nat) (why : WindReason) (i : Nat) : (s.setWindClass cls why).grantRec i = s.grantRec i := State.grantRec_congr (by simp) i
@[simp] theorem State.setWindClass_port (cls : Nat) (why : WindReason) (p : Port) : (s.setWindClass cls why).port p = s.port p := State.port_congr (by simp) (by simp) p
@[simp] theorem State.setWindClass_config (cls : Nat) (why : WindReason) : (s.setWindClass cls why).config = s.config := State.config_congr (by simp)
@[simp] theorem State.setWindClass_gangRow (cls : Nat) (why : WindReason) (g : Nat) : (s.setWindClass cls why).gangRow g = s.gangRow g := State.gangRow_congr (by simp) g
@[simp] theorem State.setWindClass_members (cls : Nat) (why : WindReason) (g : Nat) : (s.setWindClass cls why).members g = s.members g := State.members_congr (by simp) g
@[simp] theorem State.setWindClass_isFresh (cls : Nat) (why : WindReason) (i : Nat) : (s.setWindClass cls why).isFresh i = s.isFresh i := State.isFresh_congr (by simp) i
@[simp] theorem State.setWindClass_freshMembers (cls : Nat) (why : WindReason) (g : Nat) : (s.setWindClass cls why).freshMembers g = s.freshMembers g := State.freshMembers_congr (by simp) (by simp) g
@[simp] theorem State.setWindClass_measuredSkew (cls : Nat) (why : WindReason) (g : Nat) : (s.setWindClass cls why).measuredSkew g = s.measuredSkew g := State.measuredSkew_congr (by simp) (by simp) g
@[simp] theorem State.setWindClass_anyStale (cls : Nat) (why : WindReason) (g : Nat) : (s.setWindClass cls why).anyStale g = s.anyStale g := State.anyStale_congr (by simp) (by simp) g
@[simp] theorem State.setWindClass_allReady (cls : Nat) (why : WindReason) (g : Nat) : (s.setWindClass cls why).allReady g = s.allReady g := State.allReady_congr (by simp) (by simp) g
@[simp] theorem State.setWindClass_faultMask (cls : Nat) (why : WindReason) : (s.setWindClass cls why).faultMask = s.faultMask := State.faultMask_congr (by simp) (by simp)
@[simp] theorem State.setWindClass_lineDemand (cls : Nat) (why : WindReason) (i : Nat) : (s.setWindClass cls why).lineDemand i = s.lineDemand i := State.lineDemand_congr (by simp) (by simp) (by simp) i

/-! ### changeWindClass -/

@[simp] theorem State.changeWindClass_axis (cls : Nat) (why : WindReason) (i : Nat) : (s.changeWindClass cls why).axis i = s.axis i := State.axis_congr (by simp) i
@[simp] theorem State.changeWindClass_forward (cls : Nat) (why : WindReason) (i : Nat) : (s.changeWindClass cls why).forward i = s.forward i := State.forward_congr (by simp) i
@[simp] theorem State.changeWindClass_fence (cls : Nat) (why : WindReason) (g : Nat) : (s.changeWindClass cls why).fence g = s.fence g := State.fence_congr (by simp) g
@[simp] theorem State.changeWindClass_grantRec (cls : Nat) (why : WindReason) (i : Nat) : (s.changeWindClass cls why).grantRec i = s.grantRec i := State.grantRec_congr (by simp) i
@[simp] theorem State.changeWindClass_port (cls : Nat) (why : WindReason) (p : Port) : (s.changeWindClass cls why).port p = s.port p := State.port_congr (by simp) (by simp) p
@[simp] theorem State.changeWindClass_config (cls : Nat) (why : WindReason) : (s.changeWindClass cls why).config = s.config := State.config_congr (by simp)
@[simp] theorem State.changeWindClass_gangRow (cls : Nat) (why : WindReason) (g : Nat) : (s.changeWindClass cls why).gangRow g = s.gangRow g := State.gangRow_congr (by simp) g
@[simp] theorem State.changeWindClass_members (cls : Nat) (why : WindReason) (g : Nat) : (s.changeWindClass cls why).members g = s.members g := State.members_congr (by simp) g
@[simp] theorem State.changeWindClass_isFresh (cls : Nat) (why : WindReason) (i : Nat) : (s.changeWindClass cls why).isFresh i = s.isFresh i := State.isFresh_congr (by simp) i
@[simp] theorem State.changeWindClass_freshMembers (cls : Nat) (why : WindReason) (g : Nat) : (s.changeWindClass cls why).freshMembers g = s.freshMembers g := State.freshMembers_congr (by simp) (by simp) g
@[simp] theorem State.changeWindClass_measuredSkew (cls : Nat) (why : WindReason) (g : Nat) : (s.changeWindClass cls why).measuredSkew g = s.measuredSkew g := State.measuredSkew_congr (by simp) (by simp) g
@[simp] theorem State.changeWindClass_anyStale (cls : Nat) (why : WindReason) (g : Nat) : (s.changeWindClass cls why).anyStale g = s.anyStale g := State.anyStale_congr (by simp) (by simp) g
@[simp] theorem State.changeWindClass_allReady (cls : Nat) (why : WindReason) (g : Nat) : (s.changeWindClass cls why).allReady g = s.allReady g := State.allReady_congr (by simp) (by simp) g
@[simp] theorem State.changeWindClass_faultMask (cls : Nat) (why : WindReason) : (s.changeWindClass cls why).faultMask = s.faultMask := State.faultMask_congr (by simp) (by simp)

/-! ### settle -/

@[simp] theorem State.settle_axis (old : State) (i : Nat) : (settle old s).axis i = s.axis i := State.axis_congr (by simp) i
@[simp] theorem State.settle_forward (old : State) (i : Nat) : (settle old s).forward i = s.forward i := State.forward_congr (by simp) i
@[simp] theorem State.settle_gang (old : State) (g : Nat) : (settle old s).gang g = s.gang g := State.gang_congr (by simp) g
@[simp] theorem State.settle_fence (old : State) (g : Nat) : (settle old s).fence g = s.fence g := State.fence_congr (by simp) g
@[simp] theorem State.settle_gangState (old : State) (g : Nat) : (settle old s).gangState g = s.gangState g := State.gangState_congr (by simp) g
@[simp] theorem State.settle_grantRec (old : State) (i : Nat) : (settle old s).grantRec i = s.grantRec i := State.grantRec_congr (by simp) i
@[simp] theorem State.settle_flag (old : State) (f : Flag) : (settle old s).flag f = s.flag f := State.flag_congr (by simp) f
@[simp] theorem State.settle_port (old : State) (p : Port) : (settle old s).port p = s.port p := State.port_congr (by simp) (by simp) p
@[simp] theorem State.settle_config (old : State) : (settle old s).config = s.config := State.config_congr (by simp)
@[simp] theorem State.settle_gangRow (old : State) (g : Nat) : (settle old s).gangRow g = s.gangRow g := State.gangRow_congr (by simp) g
@[simp] theorem State.settle_members (old : State) (g : Nat) : (settle old s).members g = s.members g := State.members_congr (by simp) g
@[simp] theorem State.settle_isFresh (old : State) (i : Nat) : (settle old s).isFresh i = s.isFresh i := State.isFresh_congr (by simp) i
@[simp] theorem State.settle_freshMembers (old : State) (g : Nat) : (settle old s).freshMembers g = s.freshMembers g := State.freshMembers_congr (by simp) (by simp) g
@[simp] theorem State.settle_measuredSkew (old : State) (g : Nat) : (settle old s).measuredSkew g = s.measuredSkew g := State.measuredSkew_congr (by simp) (by simp) g
@[simp] theorem State.settle_anyStale (old : State) (g : Nat) : (settle old s).anyStale g = s.anyStale g := State.anyStale_congr (by simp) (by simp) g
@[simp] theorem State.settle_allReady (old : State) (g : Nat) : (settle old s).allReady g = s.allReady g := State.allReady_congr (by simp) (by simp) g
@[simp] theorem State.settle_faultMask (old : State) : (settle old s).faultMask = s.faultMask := State.faultMask_congr (by simp) (by simp)
@[simp] theorem State.settle_summary (old : State) : (settle old s).summary = s.summary := State.summary_congr (by simp) (by simp) (by simp)
@[simp] theorem State.settle_lineDemand (old : State) (i : Nat) : (settle old s).lineDemand i = s.lineDemand i := State.lineDemand_congr (by simp) (by simp) (by simp) i

end Sys2Proof.Machine
end

