-- ==== Sys2Proof/Laws/Ops.lean ====
section
/-!
SUPPORT. What each shared operation does: records after an update, hold and trip causes, flags, offering a record,
handing a frame, how a command ends, and what an arrival becomes.
-/
namespace Sys2Proof.Machine

variable (s : State)

/-! ### Records -/

theorem State.gang_lt {s : State} {g : Nat} {r : GangRec} (h : s.gang g = some r) : g < s.gangs.length := by
  refine Nat.lt_of_not_le fun hl => ?_
  simp [State.gang, hl] at h

theorem State.axis_lt {s : State} {i : Nat} {r : AxisRec} (h : s.axis i = some r) : i < s.axes.length := by
  refine Nat.lt_of_not_le fun hl => ?_
  simp [State.axis, hl] at h

theorem State.forward_lt {s : State} {i : Nat} {r : ForwardRec} (h : s.forward i = some r) :
    i < s.forwards.length := by
  refine Nat.lt_of_not_le fun hl => ?_
  simp [State.forward, hl] at h

theorem getD_set {α : Type} (l : List α) (i j : Nat) (a d : α) :
    (l.set i a).getD j d = if j = i ∧ i < l.length then a else l.getD j d := by
  simp only [List.getD_eq_getElem?_getD, List.getElem?_set]
  by_cases h : i = j
  · subst h
    by_cases hl : i < l.length <;> simp [hl]
  · simp [h, Ne.symm h]

/-- Gang records after the update of one. -/
@[simp] theorem State.modifyGang_gang (g h : Nat) (f : GangRec → GangRec) :
    (s.modifyGang g f).gang h = if h = g then (s.gang h).map f else s.gang h := by
  unfold State.modifyGang
  cases hr : s.gang g with
  | none => split <;> simp_all
  | some r =>
    have := State.gang_lt hr
    simp only [State.gang, getD_set, this, and_true] at *
    split <;> simp_all

/-- Axis records after the update of one. -/
@[simp] theorem State.modifyAxis_axis (i j : Nat) (f : AxisRec → AxisRec) :
    (s.modifyAxis i f).axis j = if j = i then (s.axis j).map f else s.axis j := by
  unfold State.modifyAxis
  cases hr : s.axis i with
  | none => split <;> simp_all
  | some r =>
    have := State.axis_lt hr
    simp only [State.axis, getD_set, this, and_true] at *
    split <;> simp_all

/-- Forwarding records after the update of one. -/
@[simp] theorem State.modifyForward_forward (i j : Nat) (f : ForwardRec → ForwardRec) :
    (s.modifyForward i f).forward j = if j = i then (s.forward j).map f else s.forward j := by
  unfold State.modifyForward
  cases hr : s.forward i with
  | none => split <;> simp_all
  | some r =>
    have := State.forward_lt hr
    simp only [State.forward, getD_set, this, and_true] at *
    split <;> simp_all

@[simp] theorem State.modifyGang_length (g : Nat) (f : GangRec → GangRec) :
    (s.modifyGang g f).gangs.length = s.gangs.length := by
  unfold State.modifyGang; split <;> simp

@[simp] theorem State.modifyAxis_length (i : Nat) (f : AxisRec → AxisRec) :
    (s.modifyAxis i f).axes.length = s.axes.length := by
  unfold State.modifyAxis; split <;> simp

@[simp] theorem State.modifyForward_length (i : Nat) (f : ForwardRec → ForwardRec) :
    (s.modifyForward i f).forwards.length = s.forwards.length := by
  unfold State.modifyForward; split <;> simp

/-- An update of the records of a list that keeps a property of each keeps it of all. -/
theorem State.modifyGang_all {P : GangRec → Prop} (g : Nat) (f : GangRec → GangRec)
    (h : ∀ o ∈ s.gangs, ∀ r ∈ o, P r) (hf : ∀ r, s.gang g = some r → P r → P (f r)) :
    ∀ o ∈ (s.modifyGang g f).gangs, ∀ r ∈ o, P r := by
  unfold State.modifyGang
  cases hr : s.gang g with
  | none => exact h
  | some r =>
    have hl := State.gang_lt hr
    have hm : some r ∈ s.gangs := by
      rw [← hr]; simp only [State.gang, List.getD_eq_getElem?_getD, List.getElem?_eq_getElem hl, Option.getD_some]
      exact List.getElem_mem hl
    intro o ho r' hr'
    rcases List.mem_or_eq_of_mem_set ho with ho | ho
    · exact h o ho r' hr'
    · subst ho
      simp only [Option.mem_def, Option.some.injEq] at hr'
      subst hr'
      exact hf r hr (h _ hm r rfl)

/-- As `modifyGang_all`, for the axis records. -/
theorem State.modifyAxis_all {P : AxisRec → Prop} (i : Nat) (f : AxisRec → AxisRec)
    (h : ∀ o ∈ s.axes, ∀ r ∈ o, P r) (hf : ∀ r, s.axis i = some r → P r → P (f r)) :
    ∀ o ∈ (s.modifyAxis i f).axes, ∀ r ∈ o, P r := by
  unfold State.modifyAxis
  cases hr : s.axis i with
  | none => exact h
  | some r =>
    have hl := State.axis_lt hr
    have hm : some r ∈ s.axes := by
      rw [← hr]; simp only [State.axis, List.getD_eq_getElem?_getD, List.getElem?_eq_getElem hl, Option.getD_some]
      exact List.getElem_mem hl
    intro o ho r' hr'
    rcases List.mem_or_eq_of_mem_set ho with ho | ho
    · exact h o ho r' hr'
    · subst ho
      simp only [Option.mem_def, Option.some.injEq] at hr'
      subst hr'
      exact hf r hr (h _ hm r rfl)

/-- A record is found in the list of gang records. -/
theorem State.gang_mem {s : State} {g : Nat} {r : GangRec} (h : s.gang g = some r) : some r ∈ s.gangs := by
  have hl := State.gang_lt h
  rw [← h]
  simp only [State.gang, List.getD_eq_getElem?_getD, List.getElem?_eq_getElem hl, Option.getD_some]
  exact List.getElem_mem hl

/-- A record is found in the list of axis records. -/
theorem State.axis_mem {s : State} {i : Nat} {r : AxisRec} (h : s.axis i = some r) : some r ∈ s.axes := by
  have hl := State.axis_lt h
  rw [← h]
  simp only [State.axis, List.getD_eq_getElem?_getD, List.getElem?_eq_getElem hl, Option.getD_some]
  exact List.getElem_mem hl

/-- Every gang record of the list is the record of a gang. -/
theorem State.gang_of_mem {s : State} {r : GangRec} (h : some r ∈ s.gangs) : ∃ g, s.gang g = some r := by
  obtain ⟨g, hg, e⟩ := List.getElem_of_mem h
  exact ⟨g, by simp [State.gang, List.getD_eq_getElem?_getD, List.getElem?_eq_getElem hg, e]⟩

/-- Every axis record of the list is the record of an axis row. -/
theorem State.axis_of_mem {s : State} {r : AxisRec} (h : some r ∈ s.axes) : ∃ i, s.axis i = some r := by
  obtain ⟨i, hi, e⟩ := List.getElem_of_mem h
  exact ⟨i, by simp [State.axis, List.getD_eq_getElem?_getD, List.getElem?_eq_getElem hi, e]⟩

/-! ### Operations for each gang -/

/-- Gang records after an operation that, for each index, updates the record of that gang alone, the update depending
on nothing the operation changes. -/
theorem forEach_gang {P : State → Prop} {f : State → Nat → State} {F : Nat → GangRec → GangRec} (n : Nat)
    (hP : ∀ t i, P t → P (f t i))
    (hf : ∀ t i h, P t → (f t i).gang h = if h = i then (t.gang h).map (F h) else t.gang h) (hs : P s) (h : Nat) :
    (forEach n f s).gang h = if h < n then (s.gang h).map (F h) else s.gang h := by
  unfold forEach
  induction n with
  | zero => simp
  | succ n ih =>
    have hp : P ((List.range n).foldl f s) := by
      clear ih
      generalize List.range n = l
      induction l generalizing s with
      | nil => exact hs
      | cons i l ih => exact ih _ (hP _ _ hs)
    rw [List.range_succ, List.foldl_append, List.foldl_cons, List.foldl_nil, hf _ _ _ hp, ih]
    by_cases e : h = n
    · subst e; simp
    · simp only [e, if_false]
      by_cases l : h < n
      · simp [l, Nat.lt_succ_of_lt l]
      · simp [l, show ¬h < n + 1 by omega]

/-! ### Hold and trip causes -/

@[simp] theorem HoldSet.has_put (h : HoldSet) (c c' : HoldCause) (v : Bool) :
    (h.put c v).has c' = if c' = c then v else h.has c' := by
  cases c <;> cases c' <;> rfl

@[simp] theorem HoldSet.empty_has (c : HoldCause) : HoldSet.empty.has c = false := by cases c <;> rfl

/-- Two sets with the same causes are equal. -/
theorem HoldSet.ext_has {a b : HoldSet} (h : ∀ c, a.has c = b.has c) : a = b := by
  have h1 := h .watchdog; have h2 := h .operator; have h3 := h .wind; have h4 := h .stale
  have h5 := h .notReady; have h6 := h .command; have h7 := h .interlock; have h8 := h .restart
  cases a; cases b
  simp only [HoldSet.has] at *
  simp [h1, h2, h3, h4, h5, h6, h7, h8]

/-- A set is empty exactly when it has no cause. -/
theorem HoldSet.isEmpty_iff (h : HoldSet) : h.isEmpty = true ↔ ∀ c, h.has c = false := by
  simp only [HoldSet.isEmpty, beq_iff_eq]
  exact ⟨fun e c => by rw [e]; exact HoldSet.empty_has c,
    fun e => HoldSet.ext_has fun c => by rw [e c, HoldSet.empty_has]⟩

/-- Gang records after adding a hold cause to one. -/
@[simp] theorem State.addHold_gang (c : HoldCause) (g h : Nat) :
    (s.addHold c g).gang h = if h = g then (s.gang h).map (fun r => r.addHold c) else s.gang h :=
  s.modifyGang_gang g h _

/-- Gang records after removing a hold cause from one. -/
@[simp] theorem State.removeHold_gang (c : HoldCause) (g h : Nat) :
    (s.removeHold c g).gang h = if h = g then (s.gang h).map (fun r => r.removeHold c) else s.gang h :=
  s.modifyGang_gang g h _

/-- Gang records after adding a hold cause to every one. -/
@[simp] theorem State.addHoldAll_gang (c : HoldCause) (h : Nat) :
    (s.addHoldAll c).gang h = if h < 8 then (s.gang h).map (fun r => r.addHold c) else s.gang h :=
  forEach_gang s (P := fun _ => True) (F := fun _ r => r.addHold c) 8 (fun _ _ _ => trivial)
    (fun t i h _ => t.addHold_gang c i h) trivial h

/-- Gang records after removing a hold cause from every one. -/
@[simp] theorem State.removeHoldAll_gang (c : HoldCause) (h : Nat) :
    (s.removeHoldAll c).gang h = if h < 8 then (s.gang h).map (fun r => r.removeHold c) else s.gang h :=
  forEach_gang s (P := fun _ => True) (F := fun _ r => r.removeHold c) 8 (fun _ _ _ => trivial)
    (fun t i h _ => t.removeHold_gang c i h) trivial h

/-- Gang records after the wind relation has been put on one (R9). -/
theorem State.windOnGang_gang (g h : Nat) :
    (s.windOnGang g).gang h =
      if h = g then (s.gang h).map fun r =>
        if (s.gangRow h).permission.toNat < s.windClass then r.addHold .wind else r.removeHold .wind
      else s.gang h := by
  have hw : (s.gangRow g).windPermission = (s.gangRow g).permission.toNat := rfl
  by_cases e : h = g
  · subst e
    unfold State.windOnGang
    rw [hw]
    by_cases l : (s.gangRow h).permission.toNat < s.windClass <;> simp [l]
  · unfold State.windOnGang
    split <;> simp [e]

/-- Gang records after the wind relation has been put on every one (R94). -/
theorem State.windOnAll_gang (h : Nat) :
    (forGangs State.windOnGang s).gang h =
      if h < 8 then (s.gang h).map fun r =>
        if (s.gangRow h).permission.toNat < s.windClass then r.addHold .wind else r.removeHold .wind
      else s.gang h :=
  forEach_gang s (P := fun t => t.active = s.active ∧ t.windClass = s.windClass)
    (F := fun h r => if (s.gangRow h).permission.toNat < s.windClass then r.addHold .wind else r.removeHold .wind) 8
    (fun t i ht => by simpa using ht)
    (fun t i h ht => by
      have : t.gangRow h = s.gangRow h := State.gangRow_congr ht.1 h
      rw [State.windOnGang_gang, ht.2, this]) ⟨rfl, rfl⟩ h

/-- Causes of a record after adding one (R6). -/
@[simp] theorem GangRec.addHold_has (r : GangRec) (c c' : HoldCause) :
    (r.addHold c).holds.has c' = (c' == c || r.holds.has c') := by
  unfold GangRec.addHold
  by_cases h : r.holds.has c = true
  · simp only [h, if_true]
    by_cases e : c' = c
    · subst e; simp [h]
    · simp [e]
  · simp only [h]
    by_cases e : c' = c <;> simp [e]

/-- Causes of a record after removing one (R7). -/
@[simp] theorem GangRec.removeHold_has (r : GangRec) (c c' : HoldCause) :
    (r.removeHold c).holds.has c' = (!(c' == c) && r.holds.has c') := by
  unfold GangRec.removeHold
  by_cases e : c' = c <;> simp [e]

@[simp] theorem GangRec.removeHold_state (r : GangRec) (c : HoldCause) : (r.removeHold c).state = r.state := rfl

/-- State of a record after adding a cause it has not (R6). -/
theorem GangRec.addHold_state (r : GangRec) (c : HoldCause) :
    (r.addHold c).state = if r.holds.has c then r.state else r.state.onHold := by
  unfold GangRec.addHold
  split <;> simp_all

/-- A record after adding a trip cause is TRIPPED with that cause (R13). -/
@[simp] theorem GangRec.addTrip_state (r : GangRec) (c : TripCause) : (r.addTrip c).state = .tripped := by
  unfold GangRec.addTrip; split <;> simp_all

@[simp] theorem GangRec.addTrip_trips (r : GangRec) (c : TripCause) : (r.addTrip c).trips = r.trips.put c := by
  unfold GangRec.addTrip; split <;> rfl

@[simp] theorem GangRec.addTrip_holds (r : GangRec) (c : TripCause) : (r.addTrip c).holds = r.holds := by
  unfold GangRec.addTrip; split <;> rfl

/-- Gang records after adding a trip cause to one. -/
@[simp] theorem State.addTrip_gang (c : TripCause) (g h : Nat) :
    (s.addTrip c g).gang h = if h = g then (s.gang h).map (fun r => r.addTrip c) else s.gang h := by
  unfold State.addTrip
  cases hr : s.gang g with
  | none => by_cases e : h = g <;> simp_all
  | some r =>
    simp only
    split <;> simp

/-! ### Flags -/

/-- Every flag has its own bit, below 24 (section 10.4). -/
theorem Flag.bit_lt (f : Flag) : f.bit < 24 := by cases f <;> decide

theorem Flag.bit_inj {f g : Flag} (h : f.bit = g.bit) : f = g := by revert h; cases f <;> cases g <;> decide

theorem Flag.mask_getLsbD (f g : Flag) : f.mask.getLsbD g.bit = decide (g = f) := by
  cases f <;> cases g <;> decide

/-- Flags after one is set. -/
@[simp] theorem State.setFlag_flag (f g : Flag) : (s.setFlag f).flag g = (s.flag g || decide (g = f)) := by
  simp [State.flag, State.setFlag, BitVec.getLsbD_or, Flag.mask_getLsbD]

/-! ### Offering a record, handing a frame -/

/-- With room the record joins the tail of the event queue (R180). -/
theorem State.offer_room (src : EventSource) (code : Half) (g : Option Nat) (data : Option Word)
    (h : s.events.length < 32) :
    s.offer src code g data =
      { s with events := s.events ++ [{ source := src, code := code, gang := g, data := data, cycle := s.lastCycle }] } :=
  if_pos h

/-- Without room EVENT_LOST is set (R180). -/
theorem State.offer_full (src : EventSource) (code : Half) (g : Option Nat) (data : Option Word)
    (h : ¬s.events.length < 32) : s.offer src code g data = s.setFlag .eventLost := if_neg h

/-- Offering a record clears no flag. -/
theorem State.offer_flag {f : Flag} (src : EventSource) (code : Half) (g : Option Nat) (data : Option Word)
    (h : s.flag f = true) : (s.offer src code g data).flag f = true := by
  unfold State.offer; split
  · exact h
  · simp [h]

/-- Offering a record sets no flag but EVENT_LOST. -/
theorem State.offer_flag_only {f : Flag} (src : EventSource) (code : Half) (g : Option Nat) (data : Option Word)
    (hf : f ≠ .eventLost) : (s.offer src code g data).flag f = s.flag f := by
  unfold State.offer; split
  · rfl
  · simp [hf]

/-- The event queue keeps its bound. -/
theorem State.offer_events (src : EventSource) (code : Half) (g : Option Nat) (data : Option Word)
    (h : s.events.length ≤ 32) : (s.offer src code g data).events.length ≤ 32 := by
  by_cases hr : s.events.length < 32
  · rw [s.offer_room _ _ _ _ hr]; simp; omega
  · rw [s.offer_full _ _ _ _ hr]; simpa using h

/-- With room the frame joins the tail of the port's queue (R155). -/
theorem State.hand_room (p : Port) (f : Frame) (h : (s.port p).queue.length < 16) :
    s.hand p f = s.setPort p { s.port p with queue := (s.port p).queue ++ [f] } := if_pos h

/-- Without room a record is offered (R156). -/
theorem State.hand_full (p : Port) (f : Frame) (h : ¬(s.port p).queue.length < 16) :
    s.hand p f = s.offerOwn .linkTxOverrun none (word4 (Port.number p) (frameKind f) 0 0) := if_neg h

/-- Handing a frame clears no flag. -/
theorem State.hand_flag {f : Flag} (p : Port) (fr : Frame) (h : s.flag f = true) : (s.hand p fr).flag f = true := by
  unfold State.hand; split
  · simpa using h
  · exact s.offer_flag _ _ _ _ h

/-- Handing a frame sets no flag but EVENT_LOST. -/
theorem State.hand_flag_only {f : Flag} (p : Port) (fr : Frame) (hf : f ≠ .eventLost) :
    (s.hand p fr).flag f = s.flag f := by
  unfold State.hand; split
  · simp
  · exact s.offer_flag_only _ _ _ _ hf

/-- Handing a frame keeps the bounds of the queues and of the event queue. -/
theorem State.hand_bounds (p : Port) (f : Frame)
    (h : s.up.queue.length ≤ 16 ∧ s.down.queue.length ≤ 16 ∧ s.events.length ≤ 32) :
    (s.hand p f).up.queue.length ≤ 16 ∧ (s.hand p f).down.queue.length ≤ 16 ∧ (s.hand p f).events.length ≤ 32 := by
  by_cases hr : (s.port p).queue.length < 16
  · rw [s.hand_room _ _ hr]
    cases p <;> simp_all [State.port] <;> omega
  · rw [s.hand_full _ _ hr]
    refine ⟨by simpa using h.1, by simpa using h.2.1, s.offer_events _ _ _ _ h.2.2⟩

/-- Frames stand on the other port's queue as before. -/
theorem State.hand_other_port {p q : Port} (f : Frame) (h : q ≠ p) : (s.hand p f).port q = s.port q := by
  unfold State.hand; split
  · cases p <;> cases q <;> simp_all [State.setPort, State.port]
  · simp

/-! ### How a command ends -/

/-- Where no gang record has changed its state the lines stay and FAULTn alone follows (R103, R179). -/
theorem settle_of_gangState (old new : State) (h : ∀ g, new.gangState g = old.gangState g) :
    settle old new = new.updateFaultn := by
  have : settleLines old new = new := by
    unfold settleLines
    have e : (fun i (l : LineGen) =>
        if (lineTouched old new i && l.demand != new.lineDemand i) = true then LineGen.take (new.lineDemand i) else l) =
        fun _ l => l := by
      funext i l
      simp [lineTouched, h]
    have hm : new.lines.mapIdx (fun _ l => l) = new.lines := by
      apply List.ext_getElem?; intro i; simp
    rw [e, hm]
  rw [settle, this]

/-- The same where the gang records are untouched. -/
theorem settle_of_gangs (old new : State) (h : new.gangs = old.gangs) : settle old new = new.updateFaultn :=
  settle_of_gangState old new fun g => State.gangState_congr h g

/-- Where the gang records are untouched a command ends with FAULTn following alone. -/
theorem finish_of_gangs (old new : State) (h : new.gangs = old.gangs) : finish old new = .next new.updateFaultn :=
  congrArg _ (settle_of_gangs old new h)

/-- As many lines as before. -/
@[simp] theorem settle_lines_length (old new : State) : (settle old new).lines.length = new.lines.length := by
  simp [settle, settleLines]

/-! ### Arrivals -/

@[simp] theorem State.arrived_upstream : s.arrived .upstream = { s with up := { s.up with rx := .idle } } := rfl
@[simp] theorem State.arrived_downstream : s.arrived .downstream = { s with down := { s.down with rx := .idle } } := rfl

/-- An end mark that finds its port RECEIVING does what the class of the frame says (R150). -/
theorem frameArrives_of_receives {s : State} {p : Port} {bytes f : Frame} (h : Receives s p bytes f) :
    frameArrives p bytes s = takeClass p f (classify s p f) (s.arrived p) := by
  unfold Receives at h
  unfold frameArrives
  cases e : (s.port p).rx with
  | idle => rw [e] at h; exact h.elim
  | receiving taken => rw [e] at h; subst h; rfl

/-- An end mark that finds its port IDLE has no effect (log entry 5). -/
theorem frameArrives_of_idle {s : State} {p : Port} (bytes : Frame) (h : (s.port p).rx = .idle) :
    frameArrives p bytes s = s := by
  unfold frameArrives; rw [h]

/-- A good frame is classed by the route. -/
theorem classify_of_good {s : State} {p : Port} {f : Frame} (h : failedCheck (crcCheckOn s p) f = none) :
    classify s p f = routeGood s p (frameKind f) (framePayload f) := by
  unfold classify; rw [h]

/-- A request is an accepted RESTART exactly by its command value and its empty arguments (R184, section 10.3). -/
theorem ordersRestart_iff (p : List Byte) : ordersRestart p = true ↔ u8 p 3 = 0x0E ∧ p.drop 4 = [] := by
  have e : commandOf (u8 p 3) = some .restart ↔ u8 p 3 = 0x0E := by
    generalize u8 p 3 = b
    revert b
    decide
  simp only [ordersRestart, Bool.and_eq_true, beq_iff_eq, e, argumentsFit, List.length_eq_zero_iff]

/-- A management frame is kicked, its command run, and its answer handed upstream; a RESTART is taken with its answer
(R163, R186, R187). -/
theorem frameArrives_of_management {s : State} {bytes f : Frame} {command : Byte} {args : List Byte}
    (h : ManagementArrives s bytes f command args) :
    frameArrives .upstream bytes s =
      if command = 0x0E ∧ args = [] then
        takeRestart (responseFrame (framePayload f) (executeManagement (framePayload f) s.managed))
          (executeManagement (framePayload f) s.managed).state
      else
        (executeManagement (framePayload f) s.managed).state.hand .upstream
          (responseFrame (framePayload f) (executeManagement (framePayload f) s.managed)) := by
  obtain ⟨hr, hc, hv, ha⟩ := h
  rw [frameArrives_of_receives hr, hc]
  have : (if ((s.arrived .upstream).bankPresent && (s.arrived .upstream).config.kickOnManagement) = true then
      kickWatchdog (s.arrived .upstream) else s.arrived .upstream) = s.managed := by
    unfold State.managed State.kickedTimer kickWatchdog
    cases hb : s.bankPresent <;> cases hk : s.config.kickOnManagement <;> cases hw : s.watchdog <;>
      simp_all [State.config]
  have o := ordersRestart_iff (framePayload f)
  rw [hv, ha] at o
  simp only [takeClass, takeManagement]
  rw [this]
  by_cases e : command = 0x0E ∧ args = []
  · rw [if_pos (o.mpr e), if_pos e]
  · rw [if_neg (fun x => e (o.mp x)), if_neg e]

/-- A RESTART is due exactly where one waits among what is due. -/
theorem State.restartDue_iff : s.restartDue = true ↔ ∃ owed, Due.restart owed ∈ s.due := by
  simp only [State.restartDue, List.any_eq_true]
  constructor
  · rintro ⟨d, h, e⟩
    cases d with
    | restart owed => exact ⟨owed, h⟩
    | verification => cases e
    | refresh read => cases e
    | saturation row => cases e
  · exact fun ⟨owed, h⟩ => ⟨_, h, rfl⟩

/-- A RESTART is answered and made at once where no frame is in its processing, else answered and due; where one is due
already its answer is owed too (R187). -/
theorem takeRestart_cases (answer : Frame) (s : State) :
    (s.waiting = [] ∧ takeRestart answer s = restartInTurn s answer) ∨
      (s.waiting ≠ [] ∧ s.restartDue = false ∧
        takeRestart answer s = { s.hand .upstream answer with due := s.due ++ [.restart none] }) ∨
      (s.waiting ≠ [] ∧ s.restartDue = true ∧
        takeRestart answer s = { s with due := s.due ++ [.restart (some answer)] }) := by
  unfold takeRestart
  cases h : s.waiting with
  | nil => exact .inl ⟨rfl, rfl⟩
  | cons w rest =>
    cases d : s.restartDue with
    | false => exact .inr (.inl ⟨nofun, rfl, rfl⟩)
    | true => exact .inr (.inr ⟨nofun, rfl, rfl⟩)

/-- A completion of the table store, or a CLEAR SATURATION, acts at once where no frame is in its processing, else it is due,
or it is lost where a RESTART is due (R121, R128, R129, R149). -/
theorem atCompletion_cases (d : Due) (act : State → State) (s : State) :
    (s.waiting = [] ∧ atCompletion d act s = act s) ∨
      (s.waiting ≠ [] ∧ s.restartDue = false ∧ atCompletion d act s = { s with due := s.due ++ [d] }) ∨
      (s.waiting ≠ [] ∧ s.restartDue = true ∧ atCompletion d act s = s) := by
  unfold atCompletion
  cases h : s.waiting with
  | nil => exact .inl ⟨rfl, rfl⟩
  | cons w rest =>
    cases e : s.restartDue with
    | false => exact .inr (.inl ⟨nofun, rfl, rfl⟩)
    | true => exact .inr (.inr ⟨nofun, rfl, rfl⟩)

/-- A CLEAR SATURATION clears the count and the mark of its row alone (R149). -/
@[simp] theorem saturationCleared_eq (row : Nat) (s : State) :
    saturationCleared row s = s.modifyGrant row fun _ => clearGrant := rfl

/-- The last velocity of a record just forwarded is the one forwarded (R47). -/
@[simp] theorem ForwardRec.after_last (w : ForwardRec) (sign v : Int) (enable : Bool) :
    (w.after sign v enable).last = v := rfl

/-- The last velocity of a new record is 0 (R30). -/
@[simp] theorem ForwardRec.cleared_last : ForwardRec.cleared.last = 0 := rfl

/-- What is due has the effect of its kind, where there is still something to complete (R121, R128, R149, R187). -/
theorem takeDue_cases (s : State) (d : Due) :
    (d = .restart none ∧ takeDue s d = makeWarmRestart s) ∨
      (∃ answer, d = .restart (some answer) ∧ takeDue s d = restartInTurn s answer) ∨
      (d = .verification ∧ s.pendingState = .verifying ∧ takeDue s d = completeVerification s) ∨
      (∃ read, d = .refresh read ∧ s.refresh.isSome = true ∧ takeDue s d = completeRefresh read s) ∨
      (∃ row, d = .saturation row ∧ takeDue s d = saturationCleared row s) ∨
      takeDue s d = s := by
  unfold takeDue
  split
  · exact .inl ⟨rfl, rfl⟩
  · exact .inr (.inl ⟨_, rfl, rfl⟩)
  · split
    · exact .inr (.inr (.inl ⟨rfl, ‹_›, rfl⟩))
    · exact .inr (.inr (.inr (.inr (.inr rfl))))
  · split
    · exact .inr (.inr (.inr (.inl ⟨_, rfl, ‹_›, rfl⟩)))
    · exact .inr (.inr (.inr (.inr (.inr rfl))))
  · exact .inr (.inr (.inr (.inr (.inl ⟨_, rfl, rfl⟩))))

/-- A processing during which nothing was taken that waits completes with no more effect, but that the next frame begins
under the class then in force (R41). -/
theorem completeProcessing_of_nothing (h : s.due = []) : completeProcessing s = { s with frameClass := none } := by
  unfold completeProcessing
  rw [h, List.foldl_nil]

/-- A change of wind class keeps the class of the frame in its processing (R41, R94). -/
theorem State.setWindClass_classInFrame (cls : Nat) (why : WindReason) (h : s.waiting ≠ []) :
    (s.setWindClass cls why).classInFrame = s.classInFrame := by
  unfold State.setWindClass
  split
  · rfl
  · unfold State.classInFrame
    rw [State.offerOwn_frameClass]
    show s.classKept.getD _ = s.frameClass.getD s.windClass
    unfold State.classKept
    split
    · exact absurd ‹_› h
    · rfl

/-- HOLDn taking a level: nothing in reset, the level alone where the millisecond is sampled or the level already seen, else
the beginning or the end of a press at the sample (R98 to R100, R190, log entry 38). -/
theorem holdnTakes_cases (low : Bool) (s : State) :
    (s.inReset = true ∧ holdnTakes low s = s) ∨
      (s.inReset = false ∧ (s.sampled = true ∨ s.levelSeen = low) ∧ holdnTakes low s = { s with holdnLow := low }) ∨
      (s.inReset = false ∧ s.sampled = false ∧ s.levelSeen ≠ low ∧
        holdnTakes low s =
          (if low then pressBegins else pressEnds) { s with holdnLow := low, sampled := true }) := by
  unfold holdnTakes
  cases hr : s.inReset with
  | true => exact .inl ⟨rfl, rfl⟩
  | false =>
    cases hs : s.sampled with
    | true => exact .inr (.inl ⟨rfl, .inl rfl, rfl⟩)
    | false =>
      by_cases hl : s.levelSeen = low
      · exact .inr (.inl ⟨rfl, .inr hl, by simp [hl]⟩)
      · exact .inr (.inr ⟨rfl, rfl, hl, by simp [hl]⟩)

/-- The answer a command makes is the MGMT-RSP of its result (R183, R188). -/
theorem responseFrame_eq (f : Frame) (r : Reply) :
    responseFrame (framePayload f) r = mgmtRsp f r.result.value (if r.result = .done then r.data else []) := by
  unfold responseFrame mgmtRsp buildFrame
  have e : ∀ l : List Byte,
      ([u8 (framePayload f) 0, u8 (framePayload f) 2, u8 (framePayload f) 3, r.result.value] ++ l).length =
        4 + l.length := fun l => by simp; omega
  simp only [e]
  rfl

end Sys2Proof.Machine
end

