-- ==== Sys2Proof/Laws/Stages.lean ====
section
/-!
SUPPORT. The frames of the stages of local setpoint processing, of the swap, and of what arrivals do: for each one lemma
that says which fields it can change, and the fields it cannot.
-/
namespace Sys2Proof.Machine

variable (s : State)

/-- An axis that becomes STALE touches the axis records, the gangs and the flags (R60). -/
theorem becomeStale_frame (i : Nat) :
    becomeStale s i = { s with
    axes := (becomeStale s i).axes, gangs := (becomeStale s i).gangs,
    flags := (becomeStale s i).flags } := by
  unfold becomeStale State.onGangOf
  repeat' split
  all_goals apply State.ext_fields <;> simp

@[simp] theorem becomeStale_pending (i : Nat) : (becomeStale s i).pending = s.pending :=
  (congrArg State.pending (becomeStale_frame s i) :)
@[simp] theorem becomeStale_now (i : Nat) : (becomeStale s i).now = s.now :=
  (congrArg State.now (becomeStale_frame s i) :)
@[simp] theorem becomeStale_draws (i : Nat) : (becomeStale s i).draws = s.draws :=
  (congrArg State.draws (becomeStale_frame s i) :)
@[simp] theorem becomeStale_up (i : Nat) : (becomeStale s i).up = s.up :=
  (congrArg State.up (becomeStale_frame s i) :)
@[simp] theorem becomeStale_down (i : Nat) : (becomeStale s i).down = s.down :=
  (congrArg State.down (becomeStale_frame s i) :)
@[simp] theorem becomeStale_waiting (i : Nat) : (becomeStale s i).waiting = s.waiting :=
  (congrArg State.waiting (becomeStale_frame s i) :)
@[simp] theorem becomeStale_bankPresent (i : Nat) : (becomeStale s i).bankPresent = s.bankPresent :=
  (congrArg State.bankPresent (becomeStale_frame s i) :)
@[simp] theorem becomeStale_active (i : Nat) : (becomeStale s i).active = s.active :=
  (congrArg State.active (becomeStale_frame s i) :)
@[simp] theorem becomeStale_verifiedCrc (i : Nat) : (becomeStale s i).verifiedCrc = s.verifiedCrc :=
  (congrArg State.verifiedCrc (becomeStale_frame s i) :)
@[simp] theorem becomeStale_pendingBank (i : Nat) : (becomeStale s i).pendingBank = s.pendingBank :=
  (congrArg State.pendingBank (becomeStale_frame s i) :)
@[simp] theorem becomeStale_pendingState (i : Nat) : (becomeStale s i).pendingState = s.pendingState :=
  (congrArg State.pendingState (becomeStale_frame s i) :)
@[simp] theorem becomeStale_expectedCrc (i : Nat) : (becomeStale s i).expectedCrc = s.expectedCrc :=
  (congrArg State.expectedCrc (becomeStale_frame s i) :)
@[simp] theorem becomeStale_pendingCrc (i : Nat) : (becomeStale s i).pendingCrc = s.pendingCrc :=
  (congrArg State.pendingCrc (becomeStale_frame s i) :)
@[simp] theorem becomeStale_refresh (i : Nat) : (becomeStale s i).refresh = s.refresh :=
  (congrArg State.refresh (becomeStale_frame s i) :)
@[simp] theorem becomeStale_forwards (i : Nat) : (becomeStale s i).forwards = s.forwards :=
  (congrArg State.forwards (becomeStale_frame s i) :)
@[simp] theorem becomeStale_reportedNodes (i : Nat) : (becomeStale s i).reportedNodes = s.reportedNodes :=
  (congrArg State.reportedNodes (becomeStale_frame s i) :)
@[simp] theorem becomeStale_fences (i : Nat) : (becomeStale s i).fences = s.fences :=
  (congrArg State.fences (becomeStale_frame s i) :)
@[simp] theorem becomeStale_windClass (i : Nat) : (becomeStale s i).windClass = s.windClass :=
  (congrArg State.windClass (becomeStale_frame s i) :)
@[simp] theorem becomeStale_weatherStale (i : Nat) : (becomeStale s i).weatherStale = s.weatherStale :=
  (congrArg State.weatherStale (becomeStale_frame s i) :)
@[simp] theorem becomeStale_weatherTimer (i : Nat) : (becomeStale s i).weatherTimer = s.weatherTimer :=
  (congrArg State.weatherTimer (becomeStale_frame s i) :)
@[simp] theorem becomeStale_press (i : Nat) : (becomeStale s i).press = s.press :=
  (congrArg State.press (becomeStale_frame s i) :)
@[simp] theorem becomeStale_pressTime (i : Nat) : (becomeStale s i).pressTime = s.pressTime :=
  (congrArg State.pressTime (becomeStale_frame s i) :)
@[simp] theorem becomeStale_longTime (i : Nat) : (becomeStale s i).longTime = s.longTime :=
  (congrArg State.longTime (becomeStale_frame s i) :)
@[simp] theorem becomeStale_operatorHold (i : Nat) : (becomeStale s i).operatorHold = s.operatorHold :=
  (congrArg State.operatorHold (becomeStale_frame s i) :)
@[simp] theorem becomeStale_lines (i : Nat) : (becomeStale s i).lines = s.lines :=
  (congrArg State.lines (becomeStale_frame s i) :)
@[simp] theorem becomeStale_deferred (i : Nat) : (becomeStale s i).deferred = s.deferred :=
  (congrArg State.deferred (becomeStale_frame s i) :)
@[simp] theorem becomeStale_backoff (i : Nat) : (becomeStale s i).backoff = s.backoff :=
  (congrArg State.backoff (becomeStale_frame s i) :)
@[simp] theorem becomeStale_highPtr (i : Nat) : (becomeStale s i).highPtr = s.highPtr :=
  (congrArg State.highPtr (becomeStale_frame s i) :)
@[simp] theorem becomeStale_lowPtr (i : Nat) : (becomeStale s i).lowPtr = s.lowPtr :=
  (congrArg State.lowPtr (becomeStale_frame s i) :)
@[simp] theorem becomeStale_openGrant (i : Nat) : (becomeStale s i).openGrant = s.openGrant :=
  (congrArg State.openGrant (becomeStale_frame s i) :)
@[simp] theorem becomeStale_grantRecs (i : Nat) : (becomeStale s i).grantRecs = s.grantRecs :=
  (congrArg State.grantRecs (becomeStale_frame s i) :)
@[simp] theorem becomeStale_watchdog (i : Nat) : (becomeStale s i).watchdog = s.watchdog :=
  (congrArg State.watchdog (becomeStale_frame s i) :)
@[simp] theorem becomeStale_watchdogTimer (i : Nat) : (becomeStale s i).watchdogTimer = s.watchdogTimer :=
  (congrArg State.watchdogTimer (becomeStale_frame s i) :)
@[simp] theorem becomeStale_olderArrival (i : Nat) : (becomeStale s i).olderArrival = s.olderArrival :=
  (congrArg State.olderArrival (becomeStale_frame s i) :)
@[simp] theorem becomeStale_newerArrival (i : Nat) : (becomeStale s i).newerArrival = s.newerArrival :=
  (congrArg State.newerArrival (becomeStale_frame s i) :)
@[simp] theorem becomeStale_substituteTimer (i : Nat) : (becomeStale s i).substituteTimer = s.substituteTimer :=
  (congrArg State.substituteTimer (becomeStale_frame s i) :)
@[simp] theorem becomeStale_lastCycle (i : Nat) : (becomeStale s i).lastCycle = s.lastCycle :=
  (congrArg State.lastCycle (becomeStale_frame s i) :)
@[simp] theorem becomeStale_events (i : Nat) : (becomeStale s i).events = s.events :=
  (congrArg State.events (becomeStale_frame s i) :)
@[simp] theorem becomeStale_due (i : Nat) : (becomeStale s i).due = s.due :=
  (congrArg State.due (becomeStale_frame s i) :)
@[simp] theorem becomeStale_frameClass (i : Nat) : (becomeStale s i).frameClass = s.frameClass :=
  (congrArg State.frameClass (becomeStale_frame s i) :)
@[simp] theorem becomeStale_inReset (i : Nat) : (becomeStale s i).inReset = s.inReset :=
  (congrArg State.inReset (becomeStale_frame s i) :)
@[simp] theorem becomeStale_holdnLow (i : Nat) : (becomeStale s i).holdnLow = s.holdnLow :=
  (congrArg State.holdnLow (becomeStale_frame s i) :)
@[simp] theorem becomeStale_sampled (i : Nat) : (becomeStale s i).sampled = s.sampled :=
  (congrArg State.sampled (becomeStale_frame s i) :)
@[simp] theorem becomeStale_faultnLow (i : Nat) : (becomeStale s i).faultnLow = s.faultnLow :=
  (congrArg State.faultnLow (becomeStale_frame s i) :)

/-- The freshness step touches the axis records, the gangs and the flags (R60). -/
theorem freshnessStep_frame :
    freshnessStep s = { s with
    axes := (freshnessStep s).axes, gangs := (freshnessStep s).gangs,
    flags := (freshnessStep s).flags } := forAxes_induct (P := fun t => t = { s with axes := t.axes, gangs := t.gangs, flags := t.flags }) _ rfl
    fun t i _ ht => by rw [becomeStale_frame t i, ht]

@[simp] theorem freshnessStep_pending : (freshnessStep s).pending = s.pending :=
  (congrArg State.pending (freshnessStep_frame s) :)
@[simp] theorem freshnessStep_now : (freshnessStep s).now = s.now :=
  (congrArg State.now (freshnessStep_frame s) :)
@[simp] theorem freshnessStep_draws : (freshnessStep s).draws = s.draws :=
  (congrArg State.draws (freshnessStep_frame s) :)
@[simp] theorem freshnessStep_up : (freshnessStep s).up = s.up :=
  (congrArg State.up (freshnessStep_frame s) :)
@[simp] theorem freshnessStep_down : (freshnessStep s).down = s.down :=
  (congrArg State.down (freshnessStep_frame s) :)
@[simp] theorem freshnessStep_waiting : (freshnessStep s).waiting = s.waiting :=
  (congrArg State.waiting (freshnessStep_frame s) :)
@[simp] theorem freshnessStep_bankPresent : (freshnessStep s).bankPresent = s.bankPresent :=
  (congrArg State.bankPresent (freshnessStep_frame s) :)
@[simp] theorem freshnessStep_active : (freshnessStep s).active = s.active :=
  (congrArg State.active (freshnessStep_frame s) :)
@[simp] theorem freshnessStep_verifiedCrc : (freshnessStep s).verifiedCrc = s.verifiedCrc :=
  (congrArg State.verifiedCrc (freshnessStep_frame s) :)
@[simp] theorem freshnessStep_pendingBank : (freshnessStep s).pendingBank = s.pendingBank :=
  (congrArg State.pendingBank (freshnessStep_frame s) :)
@[simp] theorem freshnessStep_pendingState : (freshnessStep s).pendingState = s.pendingState :=
  (congrArg State.pendingState (freshnessStep_frame s) :)
@[simp] theorem freshnessStep_expectedCrc : (freshnessStep s).expectedCrc = s.expectedCrc :=
  (congrArg State.expectedCrc (freshnessStep_frame s) :)
@[simp] theorem freshnessStep_pendingCrc : (freshnessStep s).pendingCrc = s.pendingCrc :=
  (congrArg State.pendingCrc (freshnessStep_frame s) :)
@[simp] theorem freshnessStep_refresh : (freshnessStep s).refresh = s.refresh :=
  (congrArg State.refresh (freshnessStep_frame s) :)
@[simp] theorem freshnessStep_forwards : (freshnessStep s).forwards = s.forwards :=
  (congrArg State.forwards (freshnessStep_frame s) :)
@[simp] theorem freshnessStep_reportedNodes : (freshnessStep s).reportedNodes = s.reportedNodes :=
  (congrArg State.reportedNodes (freshnessStep_frame s) :)
@[simp] theorem freshnessStep_fences : (freshnessStep s).fences = s.fences :=
  (congrArg State.fences (freshnessStep_frame s) :)
@[simp] theorem freshnessStep_windClass : (freshnessStep s).windClass = s.windClass :=
  (congrArg State.windClass (freshnessStep_frame s) :)
@[simp] theorem freshnessStep_weatherStale : (freshnessStep s).weatherStale = s.weatherStale :=
  (congrArg State.weatherStale (freshnessStep_frame s) :)
@[simp] theorem freshnessStep_weatherTimer : (freshnessStep s).weatherTimer = s.weatherTimer :=
  (congrArg State.weatherTimer (freshnessStep_frame s) :)
@[simp] theorem freshnessStep_press : (freshnessStep s).press = s.press :=
  (congrArg State.press (freshnessStep_frame s) :)
@[simp] theorem freshnessStep_pressTime : (freshnessStep s).pressTime = s.pressTime :=
  (congrArg State.pressTime (freshnessStep_frame s) :)
@[simp] theorem freshnessStep_longTime : (freshnessStep s).longTime = s.longTime :=
  (congrArg State.longTime (freshnessStep_frame s) :)
@[simp] theorem freshnessStep_operatorHold : (freshnessStep s).operatorHold = s.operatorHold :=
  (congrArg State.operatorHold (freshnessStep_frame s) :)
@[simp] theorem freshnessStep_lines : (freshnessStep s).lines = s.lines :=
  (congrArg State.lines (freshnessStep_frame s) :)
@[simp] theorem freshnessStep_deferred : (freshnessStep s).deferred = s.deferred :=
  (congrArg State.deferred (freshnessStep_frame s) :)
@[simp] theorem freshnessStep_backoff : (freshnessStep s).backoff = s.backoff :=
  (congrArg State.backoff (freshnessStep_frame s) :)
@[simp] theorem freshnessStep_highPtr : (freshnessStep s).highPtr = s.highPtr :=
  (congrArg State.highPtr (freshnessStep_frame s) :)
@[simp] theorem freshnessStep_lowPtr : (freshnessStep s).lowPtr = s.lowPtr :=
  (congrArg State.lowPtr (freshnessStep_frame s) :)
@[simp] theorem freshnessStep_openGrant : (freshnessStep s).openGrant = s.openGrant :=
  (congrArg State.openGrant (freshnessStep_frame s) :)
@[simp] theorem freshnessStep_grantRecs : (freshnessStep s).grantRecs = s.grantRecs :=
  (congrArg State.grantRecs (freshnessStep_frame s) :)
@[simp] theorem freshnessStep_watchdog : (freshnessStep s).watchdog = s.watchdog :=
  (congrArg State.watchdog (freshnessStep_frame s) :)
@[simp] theorem freshnessStep_watchdogTimer : (freshnessStep s).watchdogTimer = s.watchdogTimer :=
  (congrArg State.watchdogTimer (freshnessStep_frame s) :)
@[simp] theorem freshnessStep_olderArrival : (freshnessStep s).olderArrival = s.olderArrival :=
  (congrArg State.olderArrival (freshnessStep_frame s) :)
@[simp] theorem freshnessStep_newerArrival : (freshnessStep s).newerArrival = s.newerArrival :=
  (congrArg State.newerArrival (freshnessStep_frame s) :)
@[simp] theorem freshnessStep_substituteTimer : (freshnessStep s).substituteTimer = s.substituteTimer :=
  (congrArg State.substituteTimer (freshnessStep_frame s) :)
@[simp] theorem freshnessStep_lastCycle : (freshnessStep s).lastCycle = s.lastCycle :=
  (congrArg State.lastCycle (freshnessStep_frame s) :)
@[simp] theorem freshnessStep_events : (freshnessStep s).events = s.events :=
  (congrArg State.events (freshnessStep_frame s) :)
@[simp] theorem freshnessStep_due : (freshnessStep s).due = s.due :=
  (congrArg State.due (freshnessStep_frame s) :)
@[simp] theorem freshnessStep_frameClass : (freshnessStep s).frameClass = s.frameClass :=
  (congrArg State.frameClass (freshnessStep_frame s) :)
@[simp] theorem freshnessStep_inReset : (freshnessStep s).inReset = s.inReset :=
  (congrArg State.inReset (freshnessStep_frame s) :)
@[simp] theorem freshnessStep_holdnLow : (freshnessStep s).holdnLow = s.holdnLow :=
  (congrArg State.holdnLow (freshnessStep_frame s) :)
@[simp] theorem freshnessStep_sampled : (freshnessStep s).sampled = s.sampled :=
  (congrArg State.sampled (freshnessStep_frame s) :)
@[simp] theorem freshnessStep_faultnLow : (freshnessStep s).faultnLow = s.faultnLow :=
  (congrArg State.faultnLow (freshnessStep_frame s) :)

/-- The skew pass of a gang touches the gang records, the flags and the event queue (R17, R84). -/
theorem skewPassGang_frame (g : Nat) :
    skewPassGang s g = { s with
    gangs := (skewPassGang s g).gangs, flags := (skewPassGang s g).flags,
    events := (skewPassGang s g).events } := by
  unfold skewPassGang
  split
  · rfl
  · simp only
    repeat' split
    all_goals apply State.ext_fields <;> simp

/-- The skew pass touches the gang records, the flags and the event queue (R16, R17, R84). -/
theorem skewPass_frame :
    skewPass s = { s with
    gangs := (skewPass s).gangs, flags := (skewPass s).flags,
    events := (skewPass s).events } := forGangs_induct (P := fun t => t = { s with gangs := t.gangs, flags := t.flags, events := t.events }) _ rfl
    fun t i _ ht => by rw [skewPassGang_frame t i, ht]

@[simp] theorem skewPass_pending : (skewPass s).pending = s.pending :=
  (congrArg State.pending (skewPass_frame s) :)
@[simp] theorem skewPass_now : (skewPass s).now = s.now :=
  (congrArg State.now (skewPass_frame s) :)
@[simp] theorem skewPass_draws : (skewPass s).draws = s.draws :=
  (congrArg State.draws (skewPass_frame s) :)
@[simp] theorem skewPass_up : (skewPass s).up = s.up :=
  (congrArg State.up (skewPass_frame s) :)
@[simp] theorem skewPass_down : (skewPass s).down = s.down :=
  (congrArg State.down (skewPass_frame s) :)
@[simp] theorem skewPass_waiting : (skewPass s).waiting = s.waiting :=
  (congrArg State.waiting (skewPass_frame s) :)
@[simp] theorem skewPass_bankPresent : (skewPass s).bankPresent = s.bankPresent :=
  (congrArg State.bankPresent (skewPass_frame s) :)
@[simp] theorem skewPass_active : (skewPass s).active = s.active :=
  (congrArg State.active (skewPass_frame s) :)
@[simp] theorem skewPass_verifiedCrc : (skewPass s).verifiedCrc = s.verifiedCrc :=
  (congrArg State.verifiedCrc (skewPass_frame s) :)
@[simp] theorem skewPass_pendingBank : (skewPass s).pendingBank = s.pendingBank :=
  (congrArg State.pendingBank (skewPass_frame s) :)
@[simp] theorem skewPass_pendingState : (skewPass s).pendingState = s.pendingState :=
  (congrArg State.pendingState (skewPass_frame s) :)
@[simp] theorem skewPass_expectedCrc : (skewPass s).expectedCrc = s.expectedCrc :=
  (congrArg State.expectedCrc (skewPass_frame s) :)
@[simp] theorem skewPass_pendingCrc : (skewPass s).pendingCrc = s.pendingCrc :=
  (congrArg State.pendingCrc (skewPass_frame s) :)
@[simp] theorem skewPass_refresh : (skewPass s).refresh = s.refresh :=
  (congrArg State.refresh (skewPass_frame s) :)
@[simp] theorem skewPass_axes : (skewPass s).axes = s.axes :=
  (congrArg State.axes (skewPass_frame s) :)
@[simp] theorem skewPass_forwards : (skewPass s).forwards = s.forwards :=
  (congrArg State.forwards (skewPass_frame s) :)
@[simp] theorem skewPass_reportedNodes : (skewPass s).reportedNodes = s.reportedNodes :=
  (congrArg State.reportedNodes (skewPass_frame s) :)
@[simp] theorem skewPass_fences : (skewPass s).fences = s.fences :=
  (congrArg State.fences (skewPass_frame s) :)
@[simp] theorem skewPass_windClass : (skewPass s).windClass = s.windClass :=
  (congrArg State.windClass (skewPass_frame s) :)
@[simp] theorem skewPass_weatherStale : (skewPass s).weatherStale = s.weatherStale :=
  (congrArg State.weatherStale (skewPass_frame s) :)
@[simp] theorem skewPass_weatherTimer : (skewPass s).weatherTimer = s.weatherTimer :=
  (congrArg State.weatherTimer (skewPass_frame s) :)
@[simp] theorem skewPass_press : (skewPass s).press = s.press :=
  (congrArg State.press (skewPass_frame s) :)
@[simp] theorem skewPass_pressTime : (skewPass s).pressTime = s.pressTime :=
  (congrArg State.pressTime (skewPass_frame s) :)
@[simp] theorem skewPass_longTime : (skewPass s).longTime = s.longTime :=
  (congrArg State.longTime (skewPass_frame s) :)
@[simp] theorem skewPass_operatorHold : (skewPass s).operatorHold = s.operatorHold :=
  (congrArg State.operatorHold (skewPass_frame s) :)
@[simp] theorem skewPass_lines : (skewPass s).lines = s.lines :=
  (congrArg State.lines (skewPass_frame s) :)
@[simp] theorem skewPass_deferred : (skewPass s).deferred = s.deferred :=
  (congrArg State.deferred (skewPass_frame s) :)
@[simp] theorem skewPass_backoff : (skewPass s).backoff = s.backoff :=
  (congrArg State.backoff (skewPass_frame s) :)
@[simp] theorem skewPass_highPtr : (skewPass s).highPtr = s.highPtr :=
  (congrArg State.highPtr (skewPass_frame s) :)
@[simp] theorem skewPass_lowPtr : (skewPass s).lowPtr = s.lowPtr :=
  (congrArg State.lowPtr (skewPass_frame s) :)
@[simp] theorem skewPass_openGrant : (skewPass s).openGrant = s.openGrant :=
  (congrArg State.openGrant (skewPass_frame s) :)
@[simp] theorem skewPass_grantRecs : (skewPass s).grantRecs = s.grantRecs :=
  (congrArg State.grantRecs (skewPass_frame s) :)
@[simp] theorem skewPass_watchdog : (skewPass s).watchdog = s.watchdog :=
  (congrArg State.watchdog (skewPass_frame s) :)
@[simp] theorem skewPass_watchdogTimer : (skewPass s).watchdogTimer = s.watchdogTimer :=
  (congrArg State.watchdogTimer (skewPass_frame s) :)
@[simp] theorem skewPass_olderArrival : (skewPass s).olderArrival = s.olderArrival :=
  (congrArg State.olderArrival (skewPass_frame s) :)
@[simp] theorem skewPass_newerArrival : (skewPass s).newerArrival = s.newerArrival :=
  (congrArg State.newerArrival (skewPass_frame s) :)
@[simp] theorem skewPass_substituteTimer : (skewPass s).substituteTimer = s.substituteTimer :=
  (congrArg State.substituteTimer (skewPass_frame s) :)
@[simp] theorem skewPass_lastCycle : (skewPass s).lastCycle = s.lastCycle :=
  (congrArg State.lastCycle (skewPass_frame s) :)
@[simp] theorem skewPass_due : (skewPass s).due = s.due :=
  (congrArg State.due (skewPass_frame s) :)
@[simp] theorem skewPass_frameClass : (skewPass s).frameClass = s.frameClass :=
  (congrArg State.frameClass (skewPass_frame s) :)
@[simp] theorem skewPass_inReset : (skewPass s).inReset = s.inReset :=
  (congrArg State.inReset (skewPass_frame s) :)
@[simp] theorem skewPass_holdnLow : (skewPass s).holdnLow = s.holdnLow :=
  (congrArg State.holdnLow (skewPass_frame s) :)
@[simp] theorem skewPass_sampled : (skewPass s).sampled = s.sampled :=
  (congrArg State.sampled (skewPass_frame s) :)
@[simp] theorem skewPass_faultnLow : (skewPass s).faultnLow = s.faultnLow :=
  (congrArg State.faultnLow (skewPass_frame s) :)

/-- The demand pass touches the gang records (R18). -/
theorem demandPass_frame (slots : List Slot) :
    demandPass slots s = { s with
    gangs := (demandPass slots s).gangs } := forGangs_gangs_frame s fun t g => t.modifyGang_frame g _

@[simp] theorem demandPass_pending (slots : List Slot) : (demandPass slots s).pending = s.pending :=
  (congrArg State.pending (demandPass_frame s slots) :)
@[simp] theorem demandPass_now (slots : List Slot) : (demandPass slots s).now = s.now :=
  (congrArg State.now (demandPass_frame s slots) :)
@[simp] theorem demandPass_draws (slots : List Slot) : (demandPass slots s).draws = s.draws :=
  (congrArg State.draws (demandPass_frame s slots) :)
@[simp] theorem demandPass_up (slots : List Slot) : (demandPass slots s).up = s.up :=
  (congrArg State.up (demandPass_frame s slots) :)
@[simp] theorem demandPass_down (slots : List Slot) : (demandPass slots s).down = s.down :=
  (congrArg State.down (demandPass_frame s slots) :)
@[simp] theorem demandPass_waiting (slots : List Slot) : (demandPass slots s).waiting = s.waiting :=
  (congrArg State.waiting (demandPass_frame s slots) :)
@[simp] theorem demandPass_bankPresent (slots : List Slot) : (demandPass slots s).bankPresent = s.bankPresent :=
  (congrArg State.bankPresent (demandPass_frame s slots) :)
@[simp] theorem demandPass_active (slots : List Slot) : (demandPass slots s).active = s.active :=
  (congrArg State.active (demandPass_frame s slots) :)
@[simp] theorem demandPass_verifiedCrc (slots : List Slot) : (demandPass slots s).verifiedCrc = s.verifiedCrc :=
  (congrArg State.verifiedCrc (demandPass_frame s slots) :)
@[simp] theorem demandPass_pendingBank (slots : List Slot) : (demandPass slots s).pendingBank = s.pendingBank :=
  (congrArg State.pendingBank (demandPass_frame s slots) :)
@[simp] theorem demandPass_pendingState (slots : List Slot) : (demandPass slots s).pendingState = s.pendingState :=
  (congrArg State.pendingState (demandPass_frame s slots) :)
@[simp] theorem demandPass_expectedCrc (slots : List Slot) : (demandPass slots s).expectedCrc = s.expectedCrc :=
  (congrArg State.expectedCrc (demandPass_frame s slots) :)
@[simp] theorem demandPass_pendingCrc (slots : List Slot) : (demandPass slots s).pendingCrc = s.pendingCrc :=
  (congrArg State.pendingCrc (demandPass_frame s slots) :)
@[simp] theorem demandPass_refresh (slots : List Slot) : (demandPass slots s).refresh = s.refresh :=
  (congrArg State.refresh (demandPass_frame s slots) :)
@[simp] theorem demandPass_axes (slots : List Slot) : (demandPass slots s).axes = s.axes :=
  (congrArg State.axes (demandPass_frame s slots) :)
@[simp] theorem demandPass_forwards (slots : List Slot) : (demandPass slots s).forwards = s.forwards :=
  (congrArg State.forwards (demandPass_frame s slots) :)
@[simp] theorem demandPass_reportedNodes (slots : List Slot) : (demandPass slots s).reportedNodes = s.reportedNodes :=
  (congrArg State.reportedNodes (demandPass_frame s slots) :)
@[simp] theorem demandPass_fences (slots : List Slot) : (demandPass slots s).fences = s.fences :=
  (congrArg State.fences (demandPass_frame s slots) :)
@[simp] theorem demandPass_windClass (slots : List Slot) : (demandPass slots s).windClass = s.windClass :=
  (congrArg State.windClass (demandPass_frame s slots) :)
@[simp] theorem demandPass_weatherStale (slots : List Slot) : (demandPass slots s).weatherStale = s.weatherStale :=
  (congrArg State.weatherStale (demandPass_frame s slots) :)
@[simp] theorem demandPass_weatherTimer (slots : List Slot) : (demandPass slots s).weatherTimer = s.weatherTimer :=
  (congrArg State.weatherTimer (demandPass_frame s slots) :)
@[simp] theorem demandPass_press (slots : List Slot) : (demandPass slots s).press = s.press :=
  (congrArg State.press (demandPass_frame s slots) :)
@[simp] theorem demandPass_pressTime (slots : List Slot) : (demandPass slots s).pressTime = s.pressTime :=
  (congrArg State.pressTime (demandPass_frame s slots) :)
@[simp] theorem demandPass_longTime (slots : List Slot) : (demandPass slots s).longTime = s.longTime :=
  (congrArg State.longTime (demandPass_frame s slots) :)
@[simp] theorem demandPass_operatorHold (slots : List Slot) : (demandPass slots s).operatorHold = s.operatorHold :=
  (congrArg State.operatorHold (demandPass_frame s slots) :)
@[simp] theorem demandPass_lines (slots : List Slot) : (demandPass slots s).lines = s.lines :=
  (congrArg State.lines (demandPass_frame s slots) :)
@[simp] theorem demandPass_deferred (slots : List Slot) : (demandPass slots s).deferred = s.deferred :=
  (congrArg State.deferred (demandPass_frame s slots) :)
@[simp] theorem demandPass_backoff (slots : List Slot) : (demandPass slots s).backoff = s.backoff :=
  (congrArg State.backoff (demandPass_frame s slots) :)
@[simp] theorem demandPass_highPtr (slots : List Slot) : (demandPass slots s).highPtr = s.highPtr :=
  (congrArg State.highPtr (demandPass_frame s slots) :)
@[simp] theorem demandPass_lowPtr (slots : List Slot) : (demandPass slots s).lowPtr = s.lowPtr :=
  (congrArg State.lowPtr (demandPass_frame s slots) :)
@[simp] theorem demandPass_openGrant (slots : List Slot) : (demandPass slots s).openGrant = s.openGrant :=
  (congrArg State.openGrant (demandPass_frame s slots) :)
@[simp] theorem demandPass_grantRecs (slots : List Slot) : (demandPass slots s).grantRecs = s.grantRecs :=
  (congrArg State.grantRecs (demandPass_frame s slots) :)
@[simp] theorem demandPass_watchdog (slots : List Slot) : (demandPass slots s).watchdog = s.watchdog :=
  (congrArg State.watchdog (demandPass_frame s slots) :)
@[simp] theorem demandPass_watchdogTimer (slots : List Slot) : (demandPass slots s).watchdogTimer = s.watchdogTimer :=
  (congrArg State.watchdogTimer (demandPass_frame s slots) :)
@[simp] theorem demandPass_olderArrival (slots : List Slot) : (demandPass slots s).olderArrival = s.olderArrival :=
  (congrArg State.olderArrival (demandPass_frame s slots) :)
@[simp] theorem demandPass_newerArrival (slots : List Slot) : (demandPass slots s).newerArrival = s.newerArrival :=
  (congrArg State.newerArrival (demandPass_frame s slots) :)
@[simp] theorem demandPass_substituteTimer (slots : List Slot) : (demandPass slots s).substituteTimer = s.substituteTimer :=
  (congrArg State.substituteTimer (demandPass_frame s slots) :)
@[simp] theorem demandPass_lastCycle (slots : List Slot) : (demandPass slots s).lastCycle = s.lastCycle :=
  (congrArg State.lastCycle (demandPass_frame s slots) :)
@[simp] theorem demandPass_flags (slots : List Slot) : (demandPass slots s).flags = s.flags :=
  (congrArg State.flags (demandPass_frame s slots) :)
@[simp] theorem demandPass_events (slots : List Slot) : (demandPass slots s).events = s.events :=
  (congrArg State.events (demandPass_frame s slots) :)
@[simp] theorem demandPass_due (slots : List Slot) : (demandPass slots s).due = s.due :=
  (congrArg State.due (demandPass_frame s slots) :)
@[simp] theorem demandPass_frameClass (slots : List Slot) : (demandPass slots s).frameClass = s.frameClass :=
  (congrArg State.frameClass (demandPass_frame s slots) :)
@[simp] theorem demandPass_inReset (slots : List Slot) : (demandPass slots s).inReset = s.inReset :=
  (congrArg State.inReset (demandPass_frame s slots) :)
@[simp] theorem demandPass_holdnLow (slots : List Slot) : (demandPass slots s).holdnLow = s.holdnLow :=
  (congrArg State.holdnLow (demandPass_frame s slots) :)
@[simp] theorem demandPass_sampled (slots : List Slot) : (demandPass slots s).sampled = s.sampled :=
  (congrArg State.sampled (demandPass_frame s slots) :)
@[simp] theorem demandPass_faultnLow (slots : List Slot) : (demandPass slots s).faultnLow = s.faultnLow :=
  (congrArg State.faultnLow (demandPass_frame s slots) :)

/-- INTERLOCK of a gang touches the gang records, and the event queue and flags by its record (R81, R82). -/
theorem interlockCause_frame (g : Nat) :
    interlockCause s g = { s with
    gangs := (interlockCause s g).gangs, flags := (interlockCause s g).flags,
    events := (interlockCause s g).events } := by
  unfold interlockCause
  repeat' split
  all_goals apply State.ext_fields <;> simp

/-- The fence pass touches the fence results and what INTERLOCK touches (R73). -/
theorem fencePass_frame :
    fencePass s = { s with
    fences := (fencePass s).fences, gangs := (fencePass s).gangs,
    flags := (fencePass s).flags, events := (fencePass s).events } := forGangs_induct (P := fun t => t = { s with fences := t.fences, gangs := t.gangs, flags := t.flags, events := t.events }) _ rfl
    fun t i _ ht => by rw [interlockCause_frame t i, ht]

@[simp] theorem fencePass_pending : (fencePass s).pending = s.pending :=
  (congrArg State.pending (fencePass_frame s) :)
@[simp] theorem fencePass_now : (fencePass s).now = s.now :=
  (congrArg State.now (fencePass_frame s) :)
@[simp] theorem fencePass_draws : (fencePass s).draws = s.draws :=
  (congrArg State.draws (fencePass_frame s) :)
@[simp] theorem fencePass_up : (fencePass s).up = s.up :=
  (congrArg State.up (fencePass_frame s) :)
@[simp] theorem fencePass_down : (fencePass s).down = s.down :=
  (congrArg State.down (fencePass_frame s) :)
@[simp] theorem fencePass_waiting : (fencePass s).waiting = s.waiting :=
  (congrArg State.waiting (fencePass_frame s) :)
@[simp] theorem fencePass_bankPresent : (fencePass s).bankPresent = s.bankPresent :=
  (congrArg State.bankPresent (fencePass_frame s) :)
@[simp] theorem fencePass_active : (fencePass s).active = s.active :=
  (congrArg State.active (fencePass_frame s) :)
@[simp] theorem fencePass_verifiedCrc : (fencePass s).verifiedCrc = s.verifiedCrc :=
  (congrArg State.verifiedCrc (fencePass_frame s) :)
@[simp] theorem fencePass_pendingBank : (fencePass s).pendingBank = s.pendingBank :=
  (congrArg State.pendingBank (fencePass_frame s) :)
@[simp] theorem fencePass_pendingState : (fencePass s).pendingState = s.pendingState :=
  (congrArg State.pendingState (fencePass_frame s) :)
@[simp] theorem fencePass_expectedCrc : (fencePass s).expectedCrc = s.expectedCrc :=
  (congrArg State.expectedCrc (fencePass_frame s) :)
@[simp] theorem fencePass_pendingCrc : (fencePass s).pendingCrc = s.pendingCrc :=
  (congrArg State.pendingCrc (fencePass_frame s) :)
@[simp] theorem fencePass_refresh : (fencePass s).refresh = s.refresh :=
  (congrArg State.refresh (fencePass_frame s) :)
@[simp] theorem fencePass_axes : (fencePass s).axes = s.axes :=
  (congrArg State.axes (fencePass_frame s) :)
@[simp] theorem fencePass_forwards : (fencePass s).forwards = s.forwards :=
  (congrArg State.forwards (fencePass_frame s) :)
@[simp] theorem fencePass_reportedNodes : (fencePass s).reportedNodes = s.reportedNodes :=
  (congrArg State.reportedNodes (fencePass_frame s) :)
@[simp] theorem fencePass_windClass : (fencePass s).windClass = s.windClass :=
  (congrArg State.windClass (fencePass_frame s) :)
@[simp] theorem fencePass_weatherStale : (fencePass s).weatherStale = s.weatherStale :=
  (congrArg State.weatherStale (fencePass_frame s) :)
@[simp] theorem fencePass_weatherTimer : (fencePass s).weatherTimer = s.weatherTimer :=
  (congrArg State.weatherTimer (fencePass_frame s) :)
@[simp] theorem fencePass_press : (fencePass s).press = s.press :=
  (congrArg State.press (fencePass_frame s) :)
@[simp] theorem fencePass_pressTime : (fencePass s).pressTime = s.pressTime :=
  (congrArg State.pressTime (fencePass_frame s) :)
@[simp] theorem fencePass_longTime : (fencePass s).longTime = s.longTime :=
  (congrArg State.longTime (fencePass_frame s) :)
@[simp] theorem fencePass_operatorHold : (fencePass s).operatorHold = s.operatorHold :=
  (congrArg State.operatorHold (fencePass_frame s) :)
@[simp] theorem fencePass_lines : (fencePass s).lines = s.lines :=
  (congrArg State.lines (fencePass_frame s) :)
@[simp] theorem fencePass_deferred : (fencePass s).deferred = s.deferred :=
  (congrArg State.deferred (fencePass_frame s) :)
@[simp] theorem fencePass_backoff : (fencePass s).backoff = s.backoff :=
  (congrArg State.backoff (fencePass_frame s) :)
@[simp] theorem fencePass_highPtr : (fencePass s).highPtr = s.highPtr :=
  (congrArg State.highPtr (fencePass_frame s) :)
@[simp] theorem fencePass_lowPtr : (fencePass s).lowPtr = s.lowPtr :=
  (congrArg State.lowPtr (fencePass_frame s) :)
@[simp] theorem fencePass_openGrant : (fencePass s).openGrant = s.openGrant :=
  (congrArg State.openGrant (fencePass_frame s) :)
@[simp] theorem fencePass_grantRecs : (fencePass s).grantRecs = s.grantRecs :=
  (congrArg State.grantRecs (fencePass_frame s) :)
@[simp] theorem fencePass_watchdog : (fencePass s).watchdog = s.watchdog :=
  (congrArg State.watchdog (fencePass_frame s) :)
@[simp] theorem fencePass_watchdogTimer : (fencePass s).watchdogTimer = s.watchdogTimer :=
  (congrArg State.watchdogTimer (fencePass_frame s) :)
@[simp] theorem fencePass_olderArrival : (fencePass s).olderArrival = s.olderArrival :=
  (congrArg State.olderArrival (fencePass_frame s) :)
@[simp] theorem fencePass_newerArrival : (fencePass s).newerArrival = s.newerArrival :=
  (congrArg State.newerArrival (fencePass_frame s) :)
@[simp] theorem fencePass_substituteTimer : (fencePass s).substituteTimer = s.substituteTimer :=
  (congrArg State.substituteTimer (fencePass_frame s) :)
@[simp] theorem fencePass_lastCycle : (fencePass s).lastCycle = s.lastCycle :=
  (congrArg State.lastCycle (fencePass_frame s) :)
@[simp] theorem fencePass_due : (fencePass s).due = s.due :=
  (congrArg State.due (fencePass_frame s) :)
@[simp] theorem fencePass_frameClass : (fencePass s).frameClass = s.frameClass :=
  (congrArg State.frameClass (fencePass_frame s) :)
@[simp] theorem fencePass_inReset : (fencePass s).inReset = s.inReset :=
  (congrArg State.inReset (fencePass_frame s) :)
@[simp] theorem fencePass_holdnLow : (fencePass s).holdnLow = s.holdnLow :=
  (congrArg State.holdnLow (fencePass_frame s) :)
@[simp] theorem fencePass_sampled : (fencePass s).sampled = s.sampled :=
  (congrArg State.sampled (fencePass_frame s) :)
@[simp] theorem fencePass_faultnLow : (fencePass s).faultnLow = s.faultnLow :=
  (congrArg State.faultnLow (fencePass_frame s) :)

/-- Start positions touch the axis records (R21). -/
theorem State.writeStarts_frame (g : Nat) :
    s.writeStarts g = { s with
    axes := (s.writeStarts g).axes } := by
  unfold State.writeStarts
  generalize s.members g = l
  have : ∀ t : State, t = { s with axes := t.axes } →
      (l.foldl (fun s i => s.modifyAxis i fun r => { r with start := if r.reported then some r.position else none }) t) =
        { s with axes := (l.foldl (fun s i => s.modifyAxis i fun r =>
          { r with start := if r.reported then some r.position else none }) t).axes } := by
    induction l with
    | nil => intro t h; exact h
    | cons i l ih => intro t h; exact ih _ (by dsimp only; rw [State.modifyAxis_frame, h])
  exact this s rfl

@[simp] theorem State.writeStarts_pending (g : Nat) : (s.writeStarts g).pending = s.pending :=
  (congrArg State.pending (State.writeStarts_frame s g) :)
@[simp] theorem State.writeStarts_now (g : Nat) : (s.writeStarts g).now = s.now :=
  (congrArg State.now (State.writeStarts_frame s g) :)
@[simp] theorem State.writeStarts_draws (g : Nat) : (s.writeStarts g).draws = s.draws :=
  (congrArg State.draws (State.writeStarts_frame s g) :)
@[simp] theorem State.writeStarts_up (g : Nat) : (s.writeStarts g).up = s.up :=
  (congrArg State.up (State.writeStarts_frame s g) :)
@[simp] theorem State.writeStarts_down (g : Nat) : (s.writeStarts g).down = s.down :=
  (congrArg State.down (State.writeStarts_frame s g) :)
@[simp] theorem State.writeStarts_waiting (g : Nat) : (s.writeStarts g).waiting = s.waiting :=
  (congrArg State.waiting (State.writeStarts_frame s g) :)
@[simp] theorem State.writeStarts_bankPresent (g : Nat) : (s.writeStarts g).bankPresent = s.bankPresent :=
  (congrArg State.bankPresent (State.writeStarts_frame s g) :)
@[simp] theorem State.writeStarts_active (g : Nat) : (s.writeStarts g).active = s.active :=
  (congrArg State.active (State.writeStarts_frame s g) :)
@[simp] theorem State.writeStarts_verifiedCrc (g : Nat) : (s.writeStarts g).verifiedCrc = s.verifiedCrc :=
  (congrArg State.verifiedCrc (State.writeStarts_frame s g) :)
@[simp] theorem State.writeStarts_pendingBank (g : Nat) : (s.writeStarts g).pendingBank = s.pendingBank :=
  (congrArg State.pendingBank (State.writeStarts_frame s g) :)
@[simp] theorem State.writeStarts_pendingState (g : Nat) : (s.writeStarts g).pendingState = s.pendingState :=
  (congrArg State.pendingState (State.writeStarts_frame s g) :)
@[simp] theorem State.writeStarts_expectedCrc (g : Nat) : (s.writeStarts g).expectedCrc = s.expectedCrc :=
  (congrArg State.expectedCrc (State.writeStarts_frame s g) :)
@[simp] theorem State.writeStarts_pendingCrc (g : Nat) : (s.writeStarts g).pendingCrc = s.pendingCrc :=
  (congrArg State.pendingCrc (State.writeStarts_frame s g) :)
@[simp] theorem State.writeStarts_refresh (g : Nat) : (s.writeStarts g).refresh = s.refresh :=
  (congrArg State.refresh (State.writeStarts_frame s g) :)
@[simp] theorem State.writeStarts_forwards (g : Nat) : (s.writeStarts g).forwards = s.forwards :=
  (congrArg State.forwards (State.writeStarts_frame s g) :)
@[simp] theorem State.writeStarts_reportedNodes (g : Nat) : (s.writeStarts g).reportedNodes = s.reportedNodes :=
  (congrArg State.reportedNodes (State.writeStarts_frame s g) :)
@[simp] theorem State.writeStarts_gangs (g : Nat) : (s.writeStarts g).gangs = s.gangs :=
  (congrArg State.gangs (State.writeStarts_frame s g) :)
@[simp] theorem State.writeStarts_fences (g : Nat) : (s.writeStarts g).fences = s.fences :=
  (congrArg State.fences (State.writeStarts_frame s g) :)
@[simp] theorem State.writeStarts_windClass (g : Nat) : (s.writeStarts g).windClass = s.windClass :=
  (congrArg State.windClass (State.writeStarts_frame s g) :)
@[simp] theorem State.writeStarts_weatherStale (g : Nat) : (s.writeStarts g).weatherStale = s.weatherStale :=
  (congrArg State.weatherStale (State.writeStarts_frame s g) :)
@[simp] theorem State.writeStarts_weatherTimer (g : Nat) : (s.writeStarts g).weatherTimer = s.weatherTimer :=
  (congrArg State.weatherTimer (State.writeStarts_frame s g) :)
@[simp] theorem State.writeStarts_press (g : Nat) : (s.writeStarts g).press = s.press :=
  (congrArg State.press (State.writeStarts_frame s g) :)
@[simp] theorem State.writeStarts_pressTime (g : Nat) : (s.writeStarts g).pressTime = s.pressTime :=
  (congrArg State.pressTime (State.writeStarts_frame s g) :)
@[simp] theorem State.writeStarts_longTime (g : Nat) : (s.writeStarts g).longTime = s.longTime :=
  (congrArg State.longTime (State.writeStarts_frame s g) :)
@[simp] theorem State.writeStarts_operatorHold (g : Nat) : (s.writeStarts g).operatorHold = s.operatorHold :=
  (congrArg State.operatorHold (State.writeStarts_frame s g) :)
@[simp] theorem State.writeStarts_lines (g : Nat) : (s.writeStarts g).lines = s.lines :=
  (congrArg State.lines (State.writeStarts_frame s g) :)
@[simp] theorem State.writeStarts_deferred (g : Nat) : (s.writeStarts g).deferred = s.deferred :=
  (congrArg State.deferred (State.writeStarts_frame s g) :)
@[simp] theorem State.writeStarts_backoff (g : Nat) : (s.writeStarts g).backoff = s.backoff :=
  (congrArg State.backoff (State.writeStarts_frame s g) :)
@[simp] theorem State.writeStarts_highPtr (g : Nat) : (s.writeStarts g).highPtr = s.highPtr :=
  (congrArg State.highPtr (State.writeStarts_frame s g) :)
@[simp] theorem State.writeStarts_lowPtr (g : Nat) : (s.writeStarts g).lowPtr = s.lowPtr :=
  (congrArg State.lowPtr (State.writeStarts_frame s g) :)
@[simp] theorem State.writeStarts_openGrant (g : Nat) : (s.writeStarts g).openGrant = s.openGrant :=
  (congrArg State.openGrant (State.writeStarts_frame s g) :)
@[simp] theorem State.writeStarts_grantRecs (g : Nat) : (s.writeStarts g).grantRecs = s.grantRecs :=
  (congrArg State.grantRecs (State.writeStarts_frame s g) :)
@[simp] theorem State.writeStarts_watchdog (g : Nat) : (s.writeStarts g).watchdog = s.watchdog :=
  (congrArg State.watchdog (State.writeStarts_frame s g) :)
@[simp] theorem State.writeStarts_watchdogTimer (g : Nat) : (s.writeStarts g).watchdogTimer = s.watchdogTimer :=
  (congrArg State.watchdogTimer (State.writeStarts_frame s g) :)
@[simp] theorem State.writeStarts_olderArrival (g : Nat) : (s.writeStarts g).olderArrival = s.olderArrival :=
  (congrArg State.olderArrival (State.writeStarts_frame s g) :)
@[simp] theorem State.writeStarts_newerArrival (g : Nat) : (s.writeStarts g).newerArrival = s.newerArrival :=
  (congrArg State.newerArrival (State.writeStarts_frame s g) :)
@[simp] theorem State.writeStarts_substituteTimer (g : Nat) : (s.writeStarts g).substituteTimer = s.substituteTimer :=
  (congrArg State.substituteTimer (State.writeStarts_frame s g) :)
@[simp] theorem State.writeStarts_lastCycle (g : Nat) : (s.writeStarts g).lastCycle = s.lastCycle :=
  (congrArg State.lastCycle (State.writeStarts_frame s g) :)
@[simp] theorem State.writeStarts_flags (g : Nat) : (s.writeStarts g).flags = s.flags :=
  (congrArg State.flags (State.writeStarts_frame s g) :)
@[simp] theorem State.writeStarts_events (g : Nat) : (s.writeStarts g).events = s.events :=
  (congrArg State.events (State.writeStarts_frame s g) :)
@[simp] theorem State.writeStarts_due (g : Nat) : (s.writeStarts g).due = s.due :=
  (congrArg State.due (State.writeStarts_frame s g) :)
@[simp] theorem State.writeStarts_frameClass (g : Nat) : (s.writeStarts g).frameClass = s.frameClass :=
  (congrArg State.frameClass (State.writeStarts_frame s g) :)
@[simp] theorem State.writeStarts_inReset (g : Nat) : (s.writeStarts g).inReset = s.inReset :=
  (congrArg State.inReset (State.writeStarts_frame s g) :)
@[simp] theorem State.writeStarts_holdnLow (g : Nat) : (s.writeStarts g).holdnLow = s.holdnLow :=
  (congrArg State.holdnLow (State.writeStarts_frame s g) :)
@[simp] theorem State.writeStarts_sampled (g : Nat) : (s.writeStarts g).sampled = s.sampled :=
  (congrArg State.sampled (State.writeStarts_frame s g) :)
@[simp] theorem State.writeStarts_faultnLow (g : Nat) : (s.writeStarts g).faultnLow = s.faultnLow :=
  (congrArg State.faultnLow (State.writeStarts_frame s g) :)

/-- Entry to BREAKAWAY touches the gang and axis records (R21). -/
theorem State.enterBreakaway_frame (g : Nat) :
    s.enterBreakaway g = { s with
    axes := (s.enterBreakaway g).axes, gangs := (s.enterBreakaway g).gangs } := by
  unfold State.enterBreakaway
  apply State.ext_fields <;> simp

@[simp] theorem State.enterBreakaway_pending (g : Nat) : (s.enterBreakaway g).pending = s.pending :=
  (congrArg State.pending (State.enterBreakaway_frame s g) :)
@[simp] theorem State.enterBreakaway_now (g : Nat) : (s.enterBreakaway g).now = s.now :=
  (congrArg State.now (State.enterBreakaway_frame s g) :)
@[simp] theorem State.enterBreakaway_draws (g : Nat) : (s.enterBreakaway g).draws = s.draws :=
  (congrArg State.draws (State.enterBreakaway_frame s g) :)
@[simp] theorem State.enterBreakaway_up (g : Nat) : (s.enterBreakaway g).up = s.up :=
  (congrArg State.up (State.enterBreakaway_frame s g) :)
@[simp] theorem State.enterBreakaway_down (g : Nat) : (s.enterBreakaway g).down = s.down :=
  (congrArg State.down (State.enterBreakaway_frame s g) :)
@[simp] theorem State.enterBreakaway_waiting (g : Nat) : (s.enterBreakaway g).waiting = s.waiting :=
  (congrArg State.waiting (State.enterBreakaway_frame s g) :)
@[simp] theorem State.enterBreakaway_bankPresent (g : Nat) : (s.enterBreakaway g).bankPresent = s.bankPresent :=
  (congrArg State.bankPresent (State.enterBreakaway_frame s g) :)
@[simp] theorem State.enterBreakaway_active (g : Nat) : (s.enterBreakaway g).active = s.active :=
  (congrArg State.active (State.enterBreakaway_frame s g) :)
@[simp] theorem State.enterBreakaway_verifiedCrc (g : Nat) : (s.enterBreakaway g).verifiedCrc = s.verifiedCrc :=
  (congrArg State.verifiedCrc (State.enterBreakaway_frame s g) :)
@[simp] theorem State.enterBreakaway_pendingBank (g : Nat) : (s.enterBreakaway g).pendingBank = s.pendingBank :=
  (congrArg State.pendingBank (State.enterBreakaway_frame s g) :)
@[simp] theorem State.enterBreakaway_pendingState (g : Nat) : (s.enterBreakaway g).pendingState = s.pendingState :=
  (congrArg State.pendingState (State.enterBreakaway_frame s g) :)
@[simp] theorem State.enterBreakaway_expectedCrc (g : Nat) : (s.enterBreakaway g).expectedCrc = s.expectedCrc :=
  (congrArg State.expectedCrc (State.enterBreakaway_frame s g) :)
@[simp] theorem State.enterBreakaway_pendingCrc (g : Nat) : (s.enterBreakaway g).pendingCrc = s.pendingCrc :=
  (congrArg State.pendingCrc (State.enterBreakaway_frame s g) :)
@[simp] theorem State.enterBreakaway_refresh (g : Nat) : (s.enterBreakaway g).refresh = s.refresh :=
  (congrArg State.refresh (State.enterBreakaway_frame s g) :)
@[simp] theorem State.enterBreakaway_forwards (g : Nat) : (s.enterBreakaway g).forwards = s.forwards :=
  (congrArg State.forwards (State.enterBreakaway_frame s g) :)
@[simp] theorem State.enterBreakaway_reportedNodes (g : Nat) : (s.enterBreakaway g).reportedNodes = s.reportedNodes :=
  (congrArg State.reportedNodes (State.enterBreakaway_frame s g) :)
@[simp] theorem State.enterBreakaway_fences (g : Nat) : (s.enterBreakaway g).fences = s.fences :=
  (congrArg State.fences (State.enterBreakaway_frame s g) :)
@[simp] theorem State.enterBreakaway_windClass (g : Nat) : (s.enterBreakaway g).windClass = s.windClass :=
  (congrArg State.windClass (State.enterBreakaway_frame s g) :)
@[simp] theorem State.enterBreakaway_weatherStale (g : Nat) : (s.enterBreakaway g).weatherStale = s.weatherStale :=
  (congrArg State.weatherStale (State.enterBreakaway_frame s g) :)
@[simp] theorem State.enterBreakaway_weatherTimer (g : Nat) : (s.enterBreakaway g).weatherTimer = s.weatherTimer :=
  (congrArg State.weatherTimer (State.enterBreakaway_frame s g) :)
@[simp] theorem State.enterBreakaway_press (g : Nat) : (s.enterBreakaway g).press = s.press :=
  (congrArg State.press (State.enterBreakaway_frame s g) :)
@[simp] theorem State.enterBreakaway_pressTime (g : Nat) : (s.enterBreakaway g).pressTime = s.pressTime :=
  (congrArg State.pressTime (State.enterBreakaway_frame s g) :)
@[simp] theorem State.enterBreakaway_longTime (g : Nat) : (s.enterBreakaway g).longTime = s.longTime :=
  (congrArg State.longTime (State.enterBreakaway_frame s g) :)
@[simp] theorem State.enterBreakaway_operatorHold (g : Nat) : (s.enterBreakaway g).operatorHold = s.operatorHold :=
  (congrArg State.operatorHold (State.enterBreakaway_frame s g) :)
@[simp] theorem State.enterBreakaway_lines (g : Nat) : (s.enterBreakaway g).lines = s.lines :=
  (congrArg State.lines (State.enterBreakaway_frame s g) :)
@[simp] theorem State.enterBreakaway_deferred (g : Nat) : (s.enterBreakaway g).deferred = s.deferred :=
  (congrArg State.deferred (State.enterBreakaway_frame s g) :)
@[simp] theorem State.enterBreakaway_backoff (g : Nat) : (s.enterBreakaway g).backoff = s.backoff :=
  (congrArg State.backoff (State.enterBreakaway_frame s g) :)
@[simp] theorem State.enterBreakaway_highPtr (g : Nat) : (s.enterBreakaway g).highPtr = s.highPtr :=
  (congrArg State.highPtr (State.enterBreakaway_frame s g) :)
@[simp] theorem State.enterBreakaway_lowPtr (g : Nat) : (s.enterBreakaway g).lowPtr = s.lowPtr :=
  (congrArg State.lowPtr (State.enterBreakaway_frame s g) :)
@[simp] theorem State.enterBreakaway_openGrant (g : Nat) : (s.enterBreakaway g).openGrant = s.openGrant :=
  (congrArg State.openGrant (State.enterBreakaway_frame s g) :)
@[simp] theorem State.enterBreakaway_grantRecs (g : Nat) : (s.enterBreakaway g).grantRecs = s.grantRecs :=
  (congrArg State.grantRecs (State.enterBreakaway_frame s g) :)
@[simp] theorem State.enterBreakaway_watchdog (g : Nat) : (s.enterBreakaway g).watchdog = s.watchdog :=
  (congrArg State.watchdog (State.enterBreakaway_frame s g) :)
@[simp] theorem State.enterBreakaway_watchdogTimer (g : Nat) : (s.enterBreakaway g).watchdogTimer = s.watchdogTimer :=
  (congrArg State.watchdogTimer (State.enterBreakaway_frame s g) :)
@[simp] theorem State.enterBreakaway_olderArrival (g : Nat) : (s.enterBreakaway g).olderArrival = s.olderArrival :=
  (congrArg State.olderArrival (State.enterBreakaway_frame s g) :)
@[simp] theorem State.enterBreakaway_newerArrival (g : Nat) : (s.enterBreakaway g).newerArrival = s.newerArrival :=
  (congrArg State.newerArrival (State.enterBreakaway_frame s g) :)
@[simp] theorem State.enterBreakaway_substituteTimer (g : Nat) : (s.enterBreakaway g).substituteTimer = s.substituteTimer :=
  (congrArg State.substituteTimer (State.enterBreakaway_frame s g) :)
@[simp] theorem State.enterBreakaway_lastCycle (g : Nat) : (s.enterBreakaway g).lastCycle = s.lastCycle :=
  (congrArg State.lastCycle (State.enterBreakaway_frame s g) :)
@[simp] theorem State.enterBreakaway_flags (g : Nat) : (s.enterBreakaway g).flags = s.flags :=
  (congrArg State.flags (State.enterBreakaway_frame s g) :)
@[simp] theorem State.enterBreakaway_events (g : Nat) : (s.enterBreakaway g).events = s.events :=
  (congrArg State.events (State.enterBreakaway_frame s g) :)
@[simp] theorem State.enterBreakaway_due (g : Nat) : (s.enterBreakaway g).due = s.due :=
  (congrArg State.due (State.enterBreakaway_frame s g) :)
@[simp] theorem State.enterBreakaway_frameClass (g : Nat) : (s.enterBreakaway g).frameClass = s.frameClass :=
  (congrArg State.frameClass (State.enterBreakaway_frame s g) :)
@[simp] theorem State.enterBreakaway_inReset (g : Nat) : (s.enterBreakaway g).inReset = s.inReset :=
  (congrArg State.inReset (State.enterBreakaway_frame s g) :)
@[simp] theorem State.enterBreakaway_holdnLow (g : Nat) : (s.enterBreakaway g).holdnLow = s.holdnLow :=
  (congrArg State.holdnLow (State.enterBreakaway_frame s g) :)
@[simp] theorem State.enterBreakaway_sampled (g : Nat) : (s.enterBreakaway g).sampled = s.sampled :=
  (congrArg State.sampled (State.enterBreakaway_frame s g) :)
@[simp] theorem State.enterBreakaway_faultnLow (g : Nat) : (s.enterBreakaway g).faultnLow = s.faultnLow :=
  (congrArg State.faultnLow (State.enterBreakaway_frame s g) :)

/-- The state pass of a gang touches the gang records and the start positions (R19 to R25). -/
theorem statePassGang_frame (slots : List Slot) (g : Nat) :
    statePassGang slots s g = { s with
    axes := (statePassGang slots s g).axes, gangs := (statePassGang slots s g).gangs } := by
  have h0 : ∀ t : State, (if s.demandsAllZero slots g = true then s.removeHold .restart g else s) = t →
      t = { s with axes := t.axes, gangs := t.gangs } := by
    intro t h; subst h; split
    · rw [State.removeHold_frame]
    · rfl
  unfold statePassGang
  simp only
  generalize (if s.demandsAllZero slots g = true then s.removeHold .restart g else s) = t at *
  have h := h0 t rfl
  clear h0
  unfold stepIdle stepPrewarn stepBreakaway stepTravel stepSettle stepHolding stepHeld
  repeat' split
  all_goals rw [h]
  all_goals apply State.ext_fields <;> simp

/-- The state pass touches the gang records and the start positions (R19 to R25). -/
theorem statePass_frame (slots : List Slot) :
    statePass slots s = { s with
    axes := (statePass slots s).axes, gangs := (statePass slots s).gangs } := forGangs_induct (P := fun t => t = { s with axes := t.axes, gangs := t.gangs }) _ rfl
    fun t i _ ht => by rw [statePassGang_frame t slots i, ht]

@[simp] theorem statePass_pending (slots : List Slot) : (statePass slots s).pending = s.pending :=
  (congrArg State.pending (statePass_frame s slots) :)
@[simp] theorem statePass_now (slots : List Slot) : (statePass slots s).now = s.now :=
  (congrArg State.now (statePass_frame s slots) :)
@[simp] theorem statePass_draws (slots : List Slot) : (statePass slots s).draws = s.draws :=
  (congrArg State.draws (statePass_frame s slots) :)
@[simp] theorem statePass_up (slots : List Slot) : (statePass slots s).up = s.up :=
  (congrArg State.up (statePass_frame s slots) :)
@[simp] theorem statePass_down (slots : List Slot) : (statePass slots s).down = s.down :=
  (congrArg State.down (statePass_frame s slots) :)
@[simp] theorem statePass_waiting (slots : List Slot) : (statePass slots s).waiting = s.waiting :=
  (congrArg State.waiting (statePass_frame s slots) :)
@[simp] theorem statePass_bankPresent (slots : List Slot) : (statePass slots s).bankPresent = s.bankPresent :=
  (congrArg State.bankPresent (statePass_frame s slots) :)
@[simp] theorem statePass_active (slots : List Slot) : (statePass slots s).active = s.active :=
  (congrArg State.active (statePass_frame s slots) :)
@[simp] theorem statePass_verifiedCrc (slots : List Slot) : (statePass slots s).verifiedCrc = s.verifiedCrc :=
  (congrArg State.verifiedCrc (statePass_frame s slots) :)
@[simp] theorem statePass_pendingBank (slots : List Slot) : (statePass slots s).pendingBank = s.pendingBank :=
  (congrArg State.pendingBank (statePass_frame s slots) :)
@[simp] theorem statePass_pendingState (slots : List Slot) : (statePass slots s).pendingState = s.pendingState :=
  (congrArg State.pendingState (statePass_frame s slots) :)
@[simp] theorem statePass_expectedCrc (slots : List Slot) : (statePass slots s).expectedCrc = s.expectedCrc :=
  (congrArg State.expectedCrc (statePass_frame s slots) :)
@[simp] theorem statePass_pendingCrc (slots : List Slot) : (statePass slots s).pendingCrc = s.pendingCrc :=
  (congrArg State.pendingCrc (statePass_frame s slots) :)
@[simp] theorem statePass_refresh (slots : List Slot) : (statePass slots s).refresh = s.refresh :=
  (congrArg State.refresh (statePass_frame s slots) :)
@[simp] theorem statePass_forwards (slots : List Slot) : (statePass slots s).forwards = s.forwards :=
  (congrArg State.forwards (statePass_frame s slots) :)
@[simp] theorem statePass_reportedNodes (slots : List Slot) : (statePass slots s).reportedNodes = s.reportedNodes :=
  (congrArg State.reportedNodes (statePass_frame s slots) :)
@[simp] theorem statePass_fences (slots : List Slot) : (statePass slots s).fences = s.fences :=
  (congrArg State.fences (statePass_frame s slots) :)
@[simp] theorem statePass_windClass (slots : List Slot) : (statePass slots s).windClass = s.windClass :=
  (congrArg State.windClass (statePass_frame s slots) :)
@[simp] theorem statePass_weatherStale (slots : List Slot) : (statePass slots s).weatherStale = s.weatherStale :=
  (congrArg State.weatherStale (statePass_frame s slots) :)
@[simp] theorem statePass_weatherTimer (slots : List Slot) : (statePass slots s).weatherTimer = s.weatherTimer :=
  (congrArg State.weatherTimer (statePass_frame s slots) :)
@[simp] theorem statePass_press (slots : List Slot) : (statePass slots s).press = s.press :=
  (congrArg State.press (statePass_frame s slots) :)
@[simp] theorem statePass_pressTime (slots : List Slot) : (statePass slots s).pressTime = s.pressTime :=
  (congrArg State.pressTime (statePass_frame s slots) :)
@[simp] theorem statePass_longTime (slots : List Slot) : (statePass slots s).longTime = s.longTime :=
  (congrArg State.longTime (statePass_frame s slots) :)
@[simp] theorem statePass_operatorHold (slots : List Slot) : (statePass slots s).operatorHold = s.operatorHold :=
  (congrArg State.operatorHold (statePass_frame s slots) :)
@[simp] theorem statePass_lines (slots : List Slot) : (statePass slots s).lines = s.lines :=
  (congrArg State.lines (statePass_frame s slots) :)
@[simp] theorem statePass_deferred (slots : List Slot) : (statePass slots s).deferred = s.deferred :=
  (congrArg State.deferred (statePass_frame s slots) :)
@[simp] theorem statePass_backoff (slots : List Slot) : (statePass slots s).backoff = s.backoff :=
  (congrArg State.backoff (statePass_frame s slots) :)
@[simp] theorem statePass_highPtr (slots : List Slot) : (statePass slots s).highPtr = s.highPtr :=
  (congrArg State.highPtr (statePass_frame s slots) :)
@[simp] theorem statePass_lowPtr (slots : List Slot) : (statePass slots s).lowPtr = s.lowPtr :=
  (congrArg State.lowPtr (statePass_frame s slots) :)
@[simp] theorem statePass_openGrant (slots : List Slot) : (statePass slots s).openGrant = s.openGrant :=
  (congrArg State.openGrant (statePass_frame s slots) :)
@[simp] theorem statePass_grantRecs (slots : List Slot) : (statePass slots s).grantRecs = s.grantRecs :=
  (congrArg State.grantRecs (statePass_frame s slots) :)
@[simp] theorem statePass_watchdog (slots : List Slot) : (statePass slots s).watchdog = s.watchdog :=
  (congrArg State.watchdog (statePass_frame s slots) :)
@[simp] theorem statePass_watchdogTimer (slots : List Slot) : (statePass slots s).watchdogTimer = s.watchdogTimer :=
  (congrArg State.watchdogTimer (statePass_frame s slots) :)
@[simp] theorem statePass_olderArrival (slots : List Slot) : (statePass slots s).olderArrival = s.olderArrival :=
  (congrArg State.olderArrival (statePass_frame s slots) :)
@[simp] theorem statePass_newerArrival (slots : List Slot) : (statePass slots s).newerArrival = s.newerArrival :=
  (congrArg State.newerArrival (statePass_frame s slots) :)
@[simp] theorem statePass_substituteTimer (slots : List Slot) : (statePass slots s).substituteTimer = s.substituteTimer :=
  (congrArg State.substituteTimer (statePass_frame s slots) :)
@[simp] theorem statePass_lastCycle (slots : List Slot) : (statePass slots s).lastCycle = s.lastCycle :=
  (congrArg State.lastCycle (statePass_frame s slots) :)
@[simp] theorem statePass_flags (slots : List Slot) : (statePass slots s).flags = s.flags :=
  (congrArg State.flags (statePass_frame s slots) :)
@[simp] theorem statePass_events (slots : List Slot) : (statePass slots s).events = s.events :=
  (congrArg State.events (statePass_frame s slots) :)
@[simp] theorem statePass_due (slots : List Slot) : (statePass slots s).due = s.due :=
  (congrArg State.due (statePass_frame s slots) :)
@[simp] theorem statePass_frameClass (slots : List Slot) : (statePass slots s).frameClass = s.frameClass :=
  (congrArg State.frameClass (statePass_frame s slots) :)
@[simp] theorem statePass_inReset (slots : List Slot) : (statePass slots s).inReset = s.inReset :=
  (congrArg State.inReset (statePass_frame s slots) :)
@[simp] theorem statePass_holdnLow (slots : List Slot) : (statePass slots s).holdnLow = s.holdnLow :=
  (congrArg State.holdnLow (statePass_frame s slots) :)
@[simp] theorem statePass_sampled (slots : List Slot) : (statePass slots s).sampled = s.sampled :=
  (congrArg State.sampled (statePass_frame s slots) :)
@[simp] theorem statePass_faultnLow (slots : List Slot) : (statePass slots s).faultnLow = s.faultnLow :=
  (congrArg State.faultnLow (statePass_frame s slots) :)

/-- The four gang passes touch gang records, start positions, fence results, flags and events (R15). -/
theorem gangPasses_frame (slots : List Slot) :
    gangPasses slots s = { s with
    axes := (gangPasses slots s).axes, fences := (gangPasses slots s).fences,
    gangs := (gangPasses slots s).gangs, flags := (gangPasses slots s).flags,
    events := (gangPasses slots s).events } := by
  unfold gangPasses
  apply State.ext_fields <;> simp

@[simp] theorem gangPasses_pending (slots : List Slot) : (gangPasses slots s).pending = s.pending :=
  (congrArg State.pending (gangPasses_frame s slots) :)
@[simp] theorem gangPasses_now (slots : List Slot) : (gangPasses slots s).now = s.now :=
  (congrArg State.now (gangPasses_frame s slots) :)
@[simp] theorem gangPasses_draws (slots : List Slot) : (gangPasses slots s).draws = s.draws :=
  (congrArg State.draws (gangPasses_frame s slots) :)
@[simp] theorem gangPasses_up (slots : List Slot) : (gangPasses slots s).up = s.up :=
  (congrArg State.up (gangPasses_frame s slots) :)
@[simp] theorem gangPasses_down (slots : List Slot) : (gangPasses slots s).down = s.down :=
  (congrArg State.down (gangPasses_frame s slots) :)
@[simp] theorem gangPasses_waiting (slots : List Slot) : (gangPasses slots s).waiting = s.waiting :=
  (congrArg State.waiting (gangPasses_frame s slots) :)
@[simp] theorem gangPasses_bankPresent (slots : List Slot) : (gangPasses slots s).bankPresent = s.bankPresent :=
  (congrArg State.bankPresent (gangPasses_frame s slots) :)
@[simp] theorem gangPasses_active (slots : List Slot) : (gangPasses slots s).active = s.active :=
  (congrArg State.active (gangPasses_frame s slots) :)
@[simp] theorem gangPasses_verifiedCrc (slots : List Slot) : (gangPasses slots s).verifiedCrc = s.verifiedCrc :=
  (congrArg State.verifiedCrc (gangPasses_frame s slots) :)
@[simp] theorem gangPasses_pendingBank (slots : List Slot) : (gangPasses slots s).pendingBank = s.pendingBank :=
  (congrArg State.pendingBank (gangPasses_frame s slots) :)
@[simp] theorem gangPasses_pendingState (slots : List Slot) : (gangPasses slots s).pendingState = s.pendingState :=
  (congrArg State.pendingState (gangPasses_frame s slots) :)
@[simp] theorem gangPasses_expectedCrc (slots : List Slot) : (gangPasses slots s).expectedCrc = s.expectedCrc :=
  (congrArg State.expectedCrc (gangPasses_frame s slots) :)
@[simp] theorem gangPasses_pendingCrc (slots : List Slot) : (gangPasses slots s).pendingCrc = s.pendingCrc :=
  (congrArg State.pendingCrc (gangPasses_frame s slots) :)
@[simp] theorem gangPasses_refresh (slots : List Slot) : (gangPasses slots s).refresh = s.refresh :=
  (congrArg State.refresh (gangPasses_frame s slots) :)
@[simp] theorem gangPasses_forwards (slots : List Slot) : (gangPasses slots s).forwards = s.forwards :=
  (congrArg State.forwards (gangPasses_frame s slots) :)
@[simp] theorem gangPasses_reportedNodes (slots : List Slot) : (gangPasses slots s).reportedNodes = s.reportedNodes :=
  (congrArg State.reportedNodes (gangPasses_frame s slots) :)
@[simp] theorem gangPasses_windClass (slots : List Slot) : (gangPasses slots s).windClass = s.windClass :=
  (congrArg State.windClass (gangPasses_frame s slots) :)
@[simp] theorem gangPasses_weatherStale (slots : List Slot) : (gangPasses slots s).weatherStale = s.weatherStale :=
  (congrArg State.weatherStale (gangPasses_frame s slots) :)
@[simp] theorem gangPasses_weatherTimer (slots : List Slot) : (gangPasses slots s).weatherTimer = s.weatherTimer :=
  (congrArg State.weatherTimer (gangPasses_frame s slots) :)
@[simp] theorem gangPasses_press (slots : List Slot) : (gangPasses slots s).press = s.press :=
  (congrArg State.press (gangPasses_frame s slots) :)
@[simp] theorem gangPasses_pressTime (slots : List Slot) : (gangPasses slots s).pressTime = s.pressTime :=
  (congrArg State.pressTime (gangPasses_frame s slots) :)
@[simp] theorem gangPasses_longTime (slots : List Slot) : (gangPasses slots s).longTime = s.longTime :=
  (congrArg State.longTime (gangPasses_frame s slots) :)
@[simp] theorem gangPasses_operatorHold (slots : List Slot) : (gangPasses slots s).operatorHold = s.operatorHold :=
  (congrArg State.operatorHold (gangPasses_frame s slots) :)
@[simp] theorem gangPasses_lines (slots : List Slot) : (gangPasses slots s).lines = s.lines :=
  (congrArg State.lines (gangPasses_frame s slots) :)
@[simp] theorem gangPasses_deferred (slots : List Slot) : (gangPasses slots s).deferred = s.deferred :=
  (congrArg State.deferred (gangPasses_frame s slots) :)
@[simp] theorem gangPasses_backoff (slots : List Slot) : (gangPasses slots s).backoff = s.backoff :=
  (congrArg State.backoff (gangPasses_frame s slots) :)
@[simp] theorem gangPasses_highPtr (slots : List Slot) : (gangPasses slots s).highPtr = s.highPtr :=
  (congrArg State.highPtr (gangPasses_frame s slots) :)
@[simp] theorem gangPasses_lowPtr (slots : List Slot) : (gangPasses slots s).lowPtr = s.lowPtr :=
  (congrArg State.lowPtr (gangPasses_frame s slots) :)
@[simp] theorem gangPasses_openGrant (slots : List Slot) : (gangPasses slots s).openGrant = s.openGrant :=
  (congrArg State.openGrant (gangPasses_frame s slots) :)
@[simp] theorem gangPasses_grantRecs (slots : List Slot) : (gangPasses slots s).grantRecs = s.grantRecs :=
  (congrArg State.grantRecs (gangPasses_frame s slots) :)
@[simp] theorem gangPasses_watchdog (slots : List Slot) : (gangPasses slots s).watchdog = s.watchdog :=
  (congrArg State.watchdog (gangPasses_frame s slots) :)
@[simp] theorem gangPasses_watchdogTimer (slots : List Slot) : (gangPasses slots s).watchdogTimer = s.watchdogTimer :=
  (congrArg State.watchdogTimer (gangPasses_frame s slots) :)
@[simp] theorem gangPasses_olderArrival (slots : List Slot) : (gangPasses slots s).olderArrival = s.olderArrival :=
  (congrArg State.olderArrival (gangPasses_frame s slots) :)
@[simp] theorem gangPasses_newerArrival (slots : List Slot) : (gangPasses slots s).newerArrival = s.newerArrival :=
  (congrArg State.newerArrival (gangPasses_frame s slots) :)
@[simp] theorem gangPasses_substituteTimer (slots : List Slot) : (gangPasses slots s).substituteTimer = s.substituteTimer :=
  (congrArg State.substituteTimer (gangPasses_frame s slots) :)
@[simp] theorem gangPasses_lastCycle (slots : List Slot) : (gangPasses slots s).lastCycle = s.lastCycle :=
  (congrArg State.lastCycle (gangPasses_frame s slots) :)
@[simp] theorem gangPasses_due (slots : List Slot) : (gangPasses slots s).due = s.due :=
  (congrArg State.due (gangPasses_frame s slots) :)
@[simp] theorem gangPasses_frameClass (slots : List Slot) : (gangPasses slots s).frameClass = s.frameClass :=
  (congrArg State.frameClass (gangPasses_frame s slots) :)
@[simp] theorem gangPasses_inReset (slots : List Slot) : (gangPasses slots s).inReset = s.inReset :=
  (congrArg State.inReset (gangPasses_frame s slots) :)
@[simp] theorem gangPasses_holdnLow (slots : List Slot) : (gangPasses slots s).holdnLow = s.holdnLow :=
  (congrArg State.holdnLow (gangPasses_frame s slots) :)
@[simp] theorem gangPasses_sampled (slots : List Slot) : (gangPasses slots s).sampled = s.sampled :=
  (congrArg State.sampled (gangPasses_frame s slots) :)
@[simp] theorem gangPasses_faultnLow (slots : List Slot) : (gangPasses slots s).faultnLow = s.faultnLow :=
  (congrArg State.faultnLow (gangPasses_frame s slots) :)

/-- The lines touch the lines alone (R103). -/
theorem State.updateLines_frame :
    s.updateLines = { s with
    lines := (s.updateLines).lines } := rfl

@[simp] theorem State.updateLines_pending : (s.updateLines).pending = s.pending :=
  (congrArg State.pending (State.updateLines_frame s) :)
@[simp] theorem State.updateLines_now : (s.updateLines).now = s.now :=
  (congrArg State.now (State.updateLines_frame s) :)
@[simp] theorem State.updateLines_draws : (s.updateLines).draws = s.draws :=
  (congrArg State.draws (State.updateLines_frame s) :)
@[simp] theorem State.updateLines_up : (s.updateLines).up = s.up :=
  (congrArg State.up (State.updateLines_frame s) :)
@[simp] theorem State.updateLines_down : (s.updateLines).down = s.down :=
  (congrArg State.down (State.updateLines_frame s) :)
@[simp] theorem State.updateLines_waiting : (s.updateLines).waiting = s.waiting :=
  (congrArg State.waiting (State.updateLines_frame s) :)
@[simp] theorem State.updateLines_bankPresent : (s.updateLines).bankPresent = s.bankPresent :=
  (congrArg State.bankPresent (State.updateLines_frame s) :)
@[simp] theorem State.updateLines_active : (s.updateLines).active = s.active :=
  (congrArg State.active (State.updateLines_frame s) :)
@[simp] theorem State.updateLines_verifiedCrc : (s.updateLines).verifiedCrc = s.verifiedCrc :=
  (congrArg State.verifiedCrc (State.updateLines_frame s) :)
@[simp] theorem State.updateLines_pendingBank : (s.updateLines).pendingBank = s.pendingBank :=
  (congrArg State.pendingBank (State.updateLines_frame s) :)
@[simp] theorem State.updateLines_pendingState : (s.updateLines).pendingState = s.pendingState :=
  (congrArg State.pendingState (State.updateLines_frame s) :)
@[simp] theorem State.updateLines_expectedCrc : (s.updateLines).expectedCrc = s.expectedCrc :=
  (congrArg State.expectedCrc (State.updateLines_frame s) :)
@[simp] theorem State.updateLines_pendingCrc : (s.updateLines).pendingCrc = s.pendingCrc :=
  (congrArg State.pendingCrc (State.updateLines_frame s) :)
@[simp] theorem State.updateLines_refresh : (s.updateLines).refresh = s.refresh :=
  (congrArg State.refresh (State.updateLines_frame s) :)
@[simp] theorem State.updateLines_axes : (s.updateLines).axes = s.axes :=
  (congrArg State.axes (State.updateLines_frame s) :)
@[simp] theorem State.updateLines_forwards : (s.updateLines).forwards = s.forwards :=
  (congrArg State.forwards (State.updateLines_frame s) :)
@[simp] theorem State.updateLines_reportedNodes : (s.updateLines).reportedNodes = s.reportedNodes :=
  (congrArg State.reportedNodes (State.updateLines_frame s) :)
@[simp] theorem State.updateLines_gangs : (s.updateLines).gangs = s.gangs :=
  (congrArg State.gangs (State.updateLines_frame s) :)
@[simp] theorem State.updateLines_fences : (s.updateLines).fences = s.fences :=
  (congrArg State.fences (State.updateLines_frame s) :)
@[simp] theorem State.updateLines_windClass : (s.updateLines).windClass = s.windClass :=
  (congrArg State.windClass (State.updateLines_frame s) :)
@[simp] theorem State.updateLines_weatherStale : (s.updateLines).weatherStale = s.weatherStale :=
  (congrArg State.weatherStale (State.updateLines_frame s) :)
@[simp] theorem State.updateLines_weatherTimer : (s.updateLines).weatherTimer = s.weatherTimer :=
  (congrArg State.weatherTimer (State.updateLines_frame s) :)
@[simp] theorem State.updateLines_press : (s.updateLines).press = s.press :=
  (congrArg State.press (State.updateLines_frame s) :)
@[simp] theorem State.updateLines_pressTime : (s.updateLines).pressTime = s.pressTime :=
  (congrArg State.pressTime (State.updateLines_frame s) :)
@[simp] theorem State.updateLines_longTime : (s.updateLines).longTime = s.longTime :=
  (congrArg State.longTime (State.updateLines_frame s) :)
@[simp] theorem State.updateLines_operatorHold : (s.updateLines).operatorHold = s.operatorHold :=
  (congrArg State.operatorHold (State.updateLines_frame s) :)
@[simp] theorem State.updateLines_deferred : (s.updateLines).deferred = s.deferred :=
  (congrArg State.deferred (State.updateLines_frame s) :)
@[simp] theorem State.updateLines_backoff : (s.updateLines).backoff = s.backoff :=
  (congrArg State.backoff (State.updateLines_frame s) :)
@[simp] theorem State.updateLines_highPtr : (s.updateLines).highPtr = s.highPtr :=
  (congrArg State.highPtr (State.updateLines_frame s) :)
@[simp] theorem State.updateLines_lowPtr : (s.updateLines).lowPtr = s.lowPtr :=
  (congrArg State.lowPtr (State.updateLines_frame s) :)
@[simp] theorem State.updateLines_openGrant : (s.updateLines).openGrant = s.openGrant :=
  (congrArg State.openGrant (State.updateLines_frame s) :)
@[simp] theorem State.updateLines_grantRecs : (s.updateLines).grantRecs = s.grantRecs :=
  (congrArg State.grantRecs (State.updateLines_frame s) :)
@[simp] theorem State.updateLines_watchdog : (s.updateLines).watchdog = s.watchdog :=
  (congrArg State.watchdog (State.updateLines_frame s) :)
@[simp] theorem State.updateLines_watchdogTimer : (s.updateLines).watchdogTimer = s.watchdogTimer :=
  (congrArg State.watchdogTimer (State.updateLines_frame s) :)
@[simp] theorem State.updateLines_olderArrival : (s.updateLines).olderArrival = s.olderArrival :=
  (congrArg State.olderArrival (State.updateLines_frame s) :)
@[simp] theorem State.updateLines_newerArrival : (s.updateLines).newerArrival = s.newerArrival :=
  (congrArg State.newerArrival (State.updateLines_frame s) :)
@[simp] theorem State.updateLines_substituteTimer : (s.updateLines).substituteTimer = s.substituteTimer :=
  (congrArg State.substituteTimer (State.updateLines_frame s) :)
@[simp] theorem State.updateLines_lastCycle : (s.updateLines).lastCycle = s.lastCycle :=
  (congrArg State.lastCycle (State.updateLines_frame s) :)
@[simp] theorem State.updateLines_flags : (s.updateLines).flags = s.flags :=
  (congrArg State.flags (State.updateLines_frame s) :)
@[simp] theorem State.updateLines_events : (s.updateLines).events = s.events :=
  (congrArg State.events (State.updateLines_frame s) :)
@[simp] theorem State.updateLines_due : (s.updateLines).due = s.due :=
  (congrArg State.due (State.updateLines_frame s) :)
@[simp] theorem State.updateLines_frameClass : (s.updateLines).frameClass = s.frameClass :=
  (congrArg State.frameClass (State.updateLines_frame s) :)
@[simp] theorem State.updateLines_inReset : (s.updateLines).inReset = s.inReset :=
  (congrArg State.inReset (State.updateLines_frame s) :)
@[simp] theorem State.updateLines_holdnLow : (s.updateLines).holdnLow = s.holdnLow :=
  (congrArg State.holdnLow (State.updateLines_frame s) :)
@[simp] theorem State.updateLines_sampled : (s.updateLines).sampled = s.sampled :=
  (congrArg State.sampled (State.updateLines_frame s) :)
@[simp] theorem State.updateLines_faultnLow : (s.updateLines).faultnLow = s.faultnLow :=
  (congrArg State.faultnLow (State.updateLines_frame s) :)

/-- A slot forwarded touches the forwarding records (R47). -/
theorem forwardSlot_frame (i : Nat) (v : Int) (quick : Bool) (sl : Slot) :
    (forwardSlot i v quick sl s).1 = { s with
    forwards := ((forwardSlot i v quick sl s).1).forwards } := s.modifyForward_frame i _

@[simp] theorem forwardSlot_pending (i : Nat) (v : Int) (quick : Bool) (sl : Slot) : ((forwardSlot i v quick sl s).1).pending = s.pending :=
  (congrArg State.pending (forwardSlot_frame s i v quick sl) :)
@[simp] theorem forwardSlot_now (i : Nat) (v : Int) (quick : Bool) (sl : Slot) : ((forwardSlot i v quick sl s).1).now = s.now :=
  (congrArg State.now (forwardSlot_frame s i v quick sl) :)
@[simp] theorem forwardSlot_draws (i : Nat) (v : Int) (quick : Bool) (sl : Slot) : ((forwardSlot i v quick sl s).1).draws = s.draws :=
  (congrArg State.draws (forwardSlot_frame s i v quick sl) :)
@[simp] theorem forwardSlot_up (i : Nat) (v : Int) (quick : Bool) (sl : Slot) : ((forwardSlot i v quick sl s).1).up = s.up :=
  (congrArg State.up (forwardSlot_frame s i v quick sl) :)
@[simp] theorem forwardSlot_down (i : Nat) (v : Int) (quick : Bool) (sl : Slot) : ((forwardSlot i v quick sl s).1).down = s.down :=
  (congrArg State.down (forwardSlot_frame s i v quick sl) :)
@[simp] theorem forwardSlot_waiting (i : Nat) (v : Int) (quick : Bool) (sl : Slot) : ((forwardSlot i v quick sl s).1).waiting = s.waiting :=
  (congrArg State.waiting (forwardSlot_frame s i v quick sl) :)
@[simp] theorem forwardSlot_bankPresent (i : Nat) (v : Int) (quick : Bool) (sl : Slot) : ((forwardSlot i v quick sl s).1).bankPresent = s.bankPresent :=
  (congrArg State.bankPresent (forwardSlot_frame s i v quick sl) :)
@[simp] theorem forwardSlot_active (i : Nat) (v : Int) (quick : Bool) (sl : Slot) : ((forwardSlot i v quick sl s).1).active = s.active :=
  (congrArg State.active (forwardSlot_frame s i v quick sl) :)
@[simp] theorem forwardSlot_verifiedCrc (i : Nat) (v : Int) (quick : Bool) (sl : Slot) : ((forwardSlot i v quick sl s).1).verifiedCrc = s.verifiedCrc :=
  (congrArg State.verifiedCrc (forwardSlot_frame s i v quick sl) :)
@[simp] theorem forwardSlot_pendingBank (i : Nat) (v : Int) (quick : Bool) (sl : Slot) : ((forwardSlot i v quick sl s).1).pendingBank = s.pendingBank :=
  (congrArg State.pendingBank (forwardSlot_frame s i v quick sl) :)
@[simp] theorem forwardSlot_pendingState (i : Nat) (v : Int) (quick : Bool) (sl : Slot) : ((forwardSlot i v quick sl s).1).pendingState = s.pendingState :=
  (congrArg State.pendingState (forwardSlot_frame s i v quick sl) :)
@[simp] theorem forwardSlot_expectedCrc (i : Nat) (v : Int) (quick : Bool) (sl : Slot) : ((forwardSlot i v quick sl s).1).expectedCrc = s.expectedCrc :=
  (congrArg State.expectedCrc (forwardSlot_frame s i v quick sl) :)
@[simp] theorem forwardSlot_pendingCrc (i : Nat) (v : Int) (quick : Bool) (sl : Slot) : ((forwardSlot i v quick sl s).1).pendingCrc = s.pendingCrc :=
  (congrArg State.pendingCrc (forwardSlot_frame s i v quick sl) :)
@[simp] theorem forwardSlot_refresh (i : Nat) (v : Int) (quick : Bool) (sl : Slot) : ((forwardSlot i v quick sl s).1).refresh = s.refresh :=
  (congrArg State.refresh (forwardSlot_frame s i v quick sl) :)
@[simp] theorem forwardSlot_axes (i : Nat) (v : Int) (quick : Bool) (sl : Slot) : ((forwardSlot i v quick sl s).1).axes = s.axes :=
  (congrArg State.axes (forwardSlot_frame s i v quick sl) :)
@[simp] theorem forwardSlot_reportedNodes (i : Nat) (v : Int) (quick : Bool) (sl : Slot) : ((forwardSlot i v quick sl s).1).reportedNodes = s.reportedNodes :=
  (congrArg State.reportedNodes (forwardSlot_frame s i v quick sl) :)
@[simp] theorem forwardSlot_gangs (i : Nat) (v : Int) (quick : Bool) (sl : Slot) : ((forwardSlot i v quick sl s).1).gangs = s.gangs :=
  (congrArg State.gangs (forwardSlot_frame s i v quick sl) :)
@[simp] theorem forwardSlot_fences (i : Nat) (v : Int) (quick : Bool) (sl : Slot) : ((forwardSlot i v quick sl s).1).fences = s.fences :=
  (congrArg State.fences (forwardSlot_frame s i v quick sl) :)
@[simp] theorem forwardSlot_windClass (i : Nat) (v : Int) (quick : Bool) (sl : Slot) : ((forwardSlot i v quick sl s).1).windClass = s.windClass :=
  (congrArg State.windClass (forwardSlot_frame s i v quick sl) :)
@[simp] theorem forwardSlot_weatherStale (i : Nat) (v : Int) (quick : Bool) (sl : Slot) : ((forwardSlot i v quick sl s).1).weatherStale = s.weatherStale :=
  (congrArg State.weatherStale (forwardSlot_frame s i v quick sl) :)
@[simp] theorem forwardSlot_weatherTimer (i : Nat) (v : Int) (quick : Bool) (sl : Slot) : ((forwardSlot i v quick sl s).1).weatherTimer = s.weatherTimer :=
  (congrArg State.weatherTimer (forwardSlot_frame s i v quick sl) :)
@[simp] theorem forwardSlot_press (i : Nat) (v : Int) (quick : Bool) (sl : Slot) : ((forwardSlot i v quick sl s).1).press = s.press :=
  (congrArg State.press (forwardSlot_frame s i v quick sl) :)
@[simp] theorem forwardSlot_pressTime (i : Nat) (v : Int) (quick : Bool) (sl : Slot) : ((forwardSlot i v quick sl s).1).pressTime = s.pressTime :=
  (congrArg State.pressTime (forwardSlot_frame s i v quick sl) :)
@[simp] theorem forwardSlot_longTime (i : Nat) (v : Int) (quick : Bool) (sl : Slot) : ((forwardSlot i v quick sl s).1).longTime = s.longTime :=
  (congrArg State.longTime (forwardSlot_frame s i v quick sl) :)
@[simp] theorem forwardSlot_operatorHold (i : Nat) (v : Int) (quick : Bool) (sl : Slot) : ((forwardSlot i v quick sl s).1).operatorHold = s.operatorHold :=
  (congrArg State.operatorHold (forwardSlot_frame s i v quick sl) :)
@[simp] theorem forwardSlot_lines (i : Nat) (v : Int) (quick : Bool) (sl : Slot) : ((forwardSlot i v quick sl s).1).lines = s.lines :=
  (congrArg State.lines (forwardSlot_frame s i v quick sl) :)
@[simp] theorem forwardSlot_deferred (i : Nat) (v : Int) (quick : Bool) (sl : Slot) : ((forwardSlot i v quick sl s).1).deferred = s.deferred :=
  (congrArg State.deferred (forwardSlot_frame s i v quick sl) :)
@[simp] theorem forwardSlot_backoff (i : Nat) (v : Int) (quick : Bool) (sl : Slot) : ((forwardSlot i v quick sl s).1).backoff = s.backoff :=
  (congrArg State.backoff (forwardSlot_frame s i v quick sl) :)
@[simp] theorem forwardSlot_highPtr (i : Nat) (v : Int) (quick : Bool) (sl : Slot) : ((forwardSlot i v quick sl s).1).highPtr = s.highPtr :=
  (congrArg State.highPtr (forwardSlot_frame s i v quick sl) :)
@[simp] theorem forwardSlot_lowPtr (i : Nat) (v : Int) (quick : Bool) (sl : Slot) : ((forwardSlot i v quick sl s).1).lowPtr = s.lowPtr :=
  (congrArg State.lowPtr (forwardSlot_frame s i v quick sl) :)
@[simp] theorem forwardSlot_openGrant (i : Nat) (v : Int) (quick : Bool) (sl : Slot) : ((forwardSlot i v quick sl s).1).openGrant = s.openGrant :=
  (congrArg State.openGrant (forwardSlot_frame s i v quick sl) :)
@[simp] theorem forwardSlot_grantRecs (i : Nat) (v : Int) (quick : Bool) (sl : Slot) : ((forwardSlot i v quick sl s).1).grantRecs = s.grantRecs :=
  (congrArg State.grantRecs (forwardSlot_frame s i v quick sl) :)
@[simp] theorem forwardSlot_watchdog (i : Nat) (v : Int) (quick : Bool) (sl : Slot) : ((forwardSlot i v quick sl s).1).watchdog = s.watchdog :=
  (congrArg State.watchdog (forwardSlot_frame s i v quick sl) :)
@[simp] theorem forwardSlot_watchdogTimer (i : Nat) (v : Int) (quick : Bool) (sl : Slot) : ((forwardSlot i v quick sl s).1).watchdogTimer = s.watchdogTimer :=
  (congrArg State.watchdogTimer (forwardSlot_frame s i v quick sl) :)
@[simp] theorem forwardSlot_olderArrival (i : Nat) (v : Int) (quick : Bool) (sl : Slot) : ((forwardSlot i v quick sl s).1).olderArrival = s.olderArrival :=
  (congrArg State.olderArrival (forwardSlot_frame s i v quick sl) :)
@[simp] theorem forwardSlot_newerArrival (i : Nat) (v : Int) (quick : Bool) (sl : Slot) : ((forwardSlot i v quick sl s).1).newerArrival = s.newerArrival :=
  (congrArg State.newerArrival (forwardSlot_frame s i v quick sl) :)
@[simp] theorem forwardSlot_substituteTimer (i : Nat) (v : Int) (quick : Bool) (sl : Slot) : ((forwardSlot i v quick sl s).1).substituteTimer = s.substituteTimer :=
  (congrArg State.substituteTimer (forwardSlot_frame s i v quick sl) :)
@[simp] theorem forwardSlot_lastCycle (i : Nat) (v : Int) (quick : Bool) (sl : Slot) : ((forwardSlot i v quick sl s).1).lastCycle = s.lastCycle :=
  (congrArg State.lastCycle (forwardSlot_frame s i v quick sl) :)
@[simp] theorem forwardSlot_flags (i : Nat) (v : Int) (quick : Bool) (sl : Slot) : ((forwardSlot i v quick sl s).1).flags = s.flags :=
  (congrArg State.flags (forwardSlot_frame s i v quick sl) :)
@[simp] theorem forwardSlot_events (i : Nat) (v : Int) (quick : Bool) (sl : Slot) : ((forwardSlot i v quick sl s).1).events = s.events :=
  (congrArg State.events (forwardSlot_frame s i v quick sl) :)
@[simp] theorem forwardSlot_due (i : Nat) (v : Int) (quick : Bool) (sl : Slot) : ((forwardSlot i v quick sl s).1).due = s.due :=
  (congrArg State.due (forwardSlot_frame s i v quick sl) :)
@[simp] theorem forwardSlot_frameClass (i : Nat) (v : Int) (quick : Bool) (sl : Slot) : ((forwardSlot i v quick sl s).1).frameClass = s.frameClass :=
  (congrArg State.frameClass (forwardSlot_frame s i v quick sl) :)
@[simp] theorem forwardSlot_inReset (i : Nat) (v : Int) (quick : Bool) (sl : Slot) : ((forwardSlot i v quick sl s).1).inReset = s.inReset :=
  (congrArg State.inReset (forwardSlot_frame s i v quick sl) :)
@[simp] theorem forwardSlot_holdnLow (i : Nat) (v : Int) (quick : Bool) (sl : Slot) : ((forwardSlot i v quick sl s).1).holdnLow = s.holdnLow :=
  (congrArg State.holdnLow (forwardSlot_frame s i v quick sl) :)
@[simp] theorem forwardSlot_sampled (i : Nat) (v : Int) (quick : Bool) (sl : Slot) : ((forwardSlot i v quick sl s).1).sampled = s.sampled :=
  (congrArg State.sampled (forwardSlot_frame s i v quick sl) :)
@[simp] theorem forwardSlot_faultnLow (i : Nat) (v : Int) (quick : Bool) (sl : Slot) : ((forwardSlot i v quick sl s).1).faultnLow = s.faultnLow :=
  (congrArg State.faultnLow (forwardSlot_frame s i v quick sl) :)

/-- An axis slot touches the forwarding records (R47). -/
theorem axisSlot_frame (i : Nat) (sl : Slot) :
    (axisSlot i sl s).1 = { s with
    forwards := ((axisSlot i sl s).1).forwards } := by
  unfold axisSlot
  apply State.ext_fields <;> simp

@[simp] theorem axisSlot_pending (i : Nat) (sl : Slot) : ((axisSlot i sl s).1).pending = s.pending :=
  (congrArg State.pending (axisSlot_frame s i sl) :)
@[simp] theorem axisSlot_now (i : Nat) (sl : Slot) : ((axisSlot i sl s).1).now = s.now :=
  (congrArg State.now (axisSlot_frame s i sl) :)
@[simp] theorem axisSlot_draws (i : Nat) (sl : Slot) : ((axisSlot i sl s).1).draws = s.draws :=
  (congrArg State.draws (axisSlot_frame s i sl) :)
@[simp] theorem axisSlot_up (i : Nat) (sl : Slot) : ((axisSlot i sl s).1).up = s.up :=
  (congrArg State.up (axisSlot_frame s i sl) :)
@[simp] theorem axisSlot_down (i : Nat) (sl : Slot) : ((axisSlot i sl s).1).down = s.down :=
  (congrArg State.down (axisSlot_frame s i sl) :)
@[simp] theorem axisSlot_waiting (i : Nat) (sl : Slot) : ((axisSlot i sl s).1).waiting = s.waiting :=
  (congrArg State.waiting (axisSlot_frame s i sl) :)
@[simp] theorem axisSlot_bankPresent (i : Nat) (sl : Slot) : ((axisSlot i sl s).1).bankPresent = s.bankPresent :=
  (congrArg State.bankPresent (axisSlot_frame s i sl) :)
@[simp] theorem axisSlot_active (i : Nat) (sl : Slot) : ((axisSlot i sl s).1).active = s.active :=
  (congrArg State.active (axisSlot_frame s i sl) :)
@[simp] theorem axisSlot_verifiedCrc (i : Nat) (sl : Slot) : ((axisSlot i sl s).1).verifiedCrc = s.verifiedCrc :=
  (congrArg State.verifiedCrc (axisSlot_frame s i sl) :)
@[simp] theorem axisSlot_pendingBank (i : Nat) (sl : Slot) : ((axisSlot i sl s).1).pendingBank = s.pendingBank :=
  (congrArg State.pendingBank (axisSlot_frame s i sl) :)
@[simp] theorem axisSlot_pendingState (i : Nat) (sl : Slot) : ((axisSlot i sl s).1).pendingState = s.pendingState :=
  (congrArg State.pendingState (axisSlot_frame s i sl) :)
@[simp] theorem axisSlot_expectedCrc (i : Nat) (sl : Slot) : ((axisSlot i sl s).1).expectedCrc = s.expectedCrc :=
  (congrArg State.expectedCrc (axisSlot_frame s i sl) :)
@[simp] theorem axisSlot_pendingCrc (i : Nat) (sl : Slot) : ((axisSlot i sl s).1).pendingCrc = s.pendingCrc :=
  (congrArg State.pendingCrc (axisSlot_frame s i sl) :)
@[simp] theorem axisSlot_refresh (i : Nat) (sl : Slot) : ((axisSlot i sl s).1).refresh = s.refresh :=
  (congrArg State.refresh (axisSlot_frame s i sl) :)
@[simp] theorem axisSlot_axes (i : Nat) (sl : Slot) : ((axisSlot i sl s).1).axes = s.axes :=
  (congrArg State.axes (axisSlot_frame s i sl) :)
@[simp] theorem axisSlot_reportedNodes (i : Nat) (sl : Slot) : ((axisSlot i sl s).1).reportedNodes = s.reportedNodes :=
  (congrArg State.reportedNodes (axisSlot_frame s i sl) :)
@[simp] theorem axisSlot_gangs (i : Nat) (sl : Slot) : ((axisSlot i sl s).1).gangs = s.gangs :=
  (congrArg State.gangs (axisSlot_frame s i sl) :)
@[simp] theorem axisSlot_fences (i : Nat) (sl : Slot) : ((axisSlot i sl s).1).fences = s.fences :=
  (congrArg State.fences (axisSlot_frame s i sl) :)
@[simp] theorem axisSlot_windClass (i : Nat) (sl : Slot) : ((axisSlot i sl s).1).windClass = s.windClass :=
  (congrArg State.windClass (axisSlot_frame s i sl) :)
@[simp] theorem axisSlot_weatherStale (i : Nat) (sl : Slot) : ((axisSlot i sl s).1).weatherStale = s.weatherStale :=
  (congrArg State.weatherStale (axisSlot_frame s i sl) :)
@[simp] theorem axisSlot_weatherTimer (i : Nat) (sl : Slot) : ((axisSlot i sl s).1).weatherTimer = s.weatherTimer :=
  (congrArg State.weatherTimer (axisSlot_frame s i sl) :)
@[simp] theorem axisSlot_press (i : Nat) (sl : Slot) : ((axisSlot i sl s).1).press = s.press :=
  (congrArg State.press (axisSlot_frame s i sl) :)
@[simp] theorem axisSlot_pressTime (i : Nat) (sl : Slot) : ((axisSlot i sl s).1).pressTime = s.pressTime :=
  (congrArg State.pressTime (axisSlot_frame s i sl) :)
@[simp] theorem axisSlot_longTime (i : Nat) (sl : Slot) : ((axisSlot i sl s).1).longTime = s.longTime :=
  (congrArg State.longTime (axisSlot_frame s i sl) :)
@[simp] theorem axisSlot_operatorHold (i : Nat) (sl : Slot) : ((axisSlot i sl s).1).operatorHold = s.operatorHold :=
  (congrArg State.operatorHold (axisSlot_frame s i sl) :)
@[simp] theorem axisSlot_lines (i : Nat) (sl : Slot) : ((axisSlot i sl s).1).lines = s.lines :=
  (congrArg State.lines (axisSlot_frame s i sl) :)
@[simp] theorem axisSlot_deferred (i : Nat) (sl : Slot) : ((axisSlot i sl s).1).deferred = s.deferred :=
  (congrArg State.deferred (axisSlot_frame s i sl) :)
@[simp] theorem axisSlot_backoff (i : Nat) (sl : Slot) : ((axisSlot i sl s).1).backoff = s.backoff :=
  (congrArg State.backoff (axisSlot_frame s i sl) :)
@[simp] theorem axisSlot_highPtr (i : Nat) (sl : Slot) : ((axisSlot i sl s).1).highPtr = s.highPtr :=
  (congrArg State.highPtr (axisSlot_frame s i sl) :)
@[simp] theorem axisSlot_lowPtr (i : Nat) (sl : Slot) : ((axisSlot i sl s).1).lowPtr = s.lowPtr :=
  (congrArg State.lowPtr (axisSlot_frame s i sl) :)
@[simp] theorem axisSlot_openGrant (i : Nat) (sl : Slot) : ((axisSlot i sl s).1).openGrant = s.openGrant :=
  (congrArg State.openGrant (axisSlot_frame s i sl) :)
@[simp] theorem axisSlot_grantRecs (i : Nat) (sl : Slot) : ((axisSlot i sl s).1).grantRecs = s.grantRecs :=
  (congrArg State.grantRecs (axisSlot_frame s i sl) :)
@[simp] theorem axisSlot_watchdog (i : Nat) (sl : Slot) : ((axisSlot i sl s).1).watchdog = s.watchdog :=
  (congrArg State.watchdog (axisSlot_frame s i sl) :)
@[simp] theorem axisSlot_watchdogTimer (i : Nat) (sl : Slot) : ((axisSlot i sl s).1).watchdogTimer = s.watchdogTimer :=
  (congrArg State.watchdogTimer (axisSlot_frame s i sl) :)
@[simp] theorem axisSlot_olderArrival (i : Nat) (sl : Slot) : ((axisSlot i sl s).1).olderArrival = s.olderArrival :=
  (congrArg State.olderArrival (axisSlot_frame s i sl) :)
@[simp] theorem axisSlot_newerArrival (i : Nat) (sl : Slot) : ((axisSlot i sl s).1).newerArrival = s.newerArrival :=
  (congrArg State.newerArrival (axisSlot_frame s i sl) :)
@[simp] theorem axisSlot_substituteTimer (i : Nat) (sl : Slot) : ((axisSlot i sl s).1).substituteTimer = s.substituteTimer :=
  (congrArg State.substituteTimer (axisSlot_frame s i sl) :)
@[simp] theorem axisSlot_lastCycle (i : Nat) (sl : Slot) : ((axisSlot i sl s).1).lastCycle = s.lastCycle :=
  (congrArg State.lastCycle (axisSlot_frame s i sl) :)
@[simp] theorem axisSlot_flags (i : Nat) (sl : Slot) : ((axisSlot i sl s).1).flags = s.flags :=
  (congrArg State.flags (axisSlot_frame s i sl) :)
@[simp] theorem axisSlot_events (i : Nat) (sl : Slot) : ((axisSlot i sl s).1).events = s.events :=
  (congrArg State.events (axisSlot_frame s i sl) :)
@[simp] theorem axisSlot_due (i : Nat) (sl : Slot) : ((axisSlot i sl s).1).due = s.due :=
  (congrArg State.due (axisSlot_frame s i sl) :)
@[simp] theorem axisSlot_frameClass (i : Nat) (sl : Slot) : ((axisSlot i sl s).1).frameClass = s.frameClass :=
  (congrArg State.frameClass (axisSlot_frame s i sl) :)
@[simp] theorem axisSlot_inReset (i : Nat) (sl : Slot) : ((axisSlot i sl s).1).inReset = s.inReset :=
  (congrArg State.inReset (axisSlot_frame s i sl) :)
@[simp] theorem axisSlot_holdnLow (i : Nat) (sl : Slot) : ((axisSlot i sl s).1).holdnLow = s.holdnLow :=
  (congrArg State.holdnLow (axisSlot_frame s i sl) :)
@[simp] theorem axisSlot_sampled (i : Nat) (sl : Slot) : ((axisSlot i sl s).1).sampled = s.sampled :=
  (congrArg State.sampled (axisSlot_frame s i sl) :)
@[simp] theorem axisSlot_faultnLow (i : Nat) (sl : Slot) : ((axisSlot i sl s).1).faultnLow = s.faultnLow :=
  (congrArg State.faultnLow (axisSlot_frame s i sl) :)

/-- A slot touches the forwarding records, and by an unknown axis flags, events and the reported nodes (R31 to R33). -/
theorem rewriteSlot_frame (refreshing : Bool) (seen : List Byte) (sl : Slot) :
    (rewriteSlot refreshing seen sl s).1 = { s with
    forwards := ((rewriteSlot refreshing seen sl s).1).forwards, reportedNodes := ((rewriteSlot refreshing seen sl s).1).reportedNodes,
    flags := ((rewriteSlot refreshing seen sl s).1).flags, events := ((rewriteSlot refreshing seen sl s).1).events } := by
  unfold rewriteSlot refreshSlot unknownSlot
  repeat' split
  all_goals apply State.ext_fields <;> simp

@[simp] theorem rewriteSlot_pending (refreshing : Bool) (seen : List Byte) (sl : Slot) : ((rewriteSlot refreshing seen sl s).1).pending = s.pending :=
  (congrArg State.pending (rewriteSlot_frame s refreshing seen sl) :)
@[simp] theorem rewriteSlot_now (refreshing : Bool) (seen : List Byte) (sl : Slot) : ((rewriteSlot refreshing seen sl s).1).now = s.now :=
  (congrArg State.now (rewriteSlot_frame s refreshing seen sl) :)
@[simp] theorem rewriteSlot_draws (refreshing : Bool) (seen : List Byte) (sl : Slot) : ((rewriteSlot refreshing seen sl s).1).draws = s.draws :=
  (congrArg State.draws (rewriteSlot_frame s refreshing seen sl) :)
@[simp] theorem rewriteSlot_up (refreshing : Bool) (seen : List Byte) (sl : Slot) : ((rewriteSlot refreshing seen sl s).1).up = s.up :=
  (congrArg State.up (rewriteSlot_frame s refreshing seen sl) :)
@[simp] theorem rewriteSlot_down (refreshing : Bool) (seen : List Byte) (sl : Slot) : ((rewriteSlot refreshing seen sl s).1).down = s.down :=
  (congrArg State.down (rewriteSlot_frame s refreshing seen sl) :)
@[simp] theorem rewriteSlot_waiting (refreshing : Bool) (seen : List Byte) (sl : Slot) : ((rewriteSlot refreshing seen sl s).1).waiting = s.waiting :=
  (congrArg State.waiting (rewriteSlot_frame s refreshing seen sl) :)
@[simp] theorem rewriteSlot_bankPresent (refreshing : Bool) (seen : List Byte) (sl : Slot) : ((rewriteSlot refreshing seen sl s).1).bankPresent = s.bankPresent :=
  (congrArg State.bankPresent (rewriteSlot_frame s refreshing seen sl) :)
@[simp] theorem rewriteSlot_active (refreshing : Bool) (seen : List Byte) (sl : Slot) : ((rewriteSlot refreshing seen sl s).1).active = s.active :=
  (congrArg State.active (rewriteSlot_frame s refreshing seen sl) :)
@[simp] theorem rewriteSlot_verifiedCrc (refreshing : Bool) (seen : List Byte) (sl : Slot) : ((rewriteSlot refreshing seen sl s).1).verifiedCrc = s.verifiedCrc :=
  (congrArg State.verifiedCrc (rewriteSlot_frame s refreshing seen sl) :)
@[simp] theorem rewriteSlot_pendingBank (refreshing : Bool) (seen : List Byte) (sl : Slot) : ((rewriteSlot refreshing seen sl s).1).pendingBank = s.pendingBank :=
  (congrArg State.pendingBank (rewriteSlot_frame s refreshing seen sl) :)
@[simp] theorem rewriteSlot_pendingState (refreshing : Bool) (seen : List Byte) (sl : Slot) : ((rewriteSlot refreshing seen sl s).1).pendingState = s.pendingState :=
  (congrArg State.pendingState (rewriteSlot_frame s refreshing seen sl) :)
@[simp] theorem rewriteSlot_expectedCrc (refreshing : Bool) (seen : List Byte) (sl : Slot) : ((rewriteSlot refreshing seen sl s).1).expectedCrc = s.expectedCrc :=
  (congrArg State.expectedCrc (rewriteSlot_frame s refreshing seen sl) :)
@[simp] theorem rewriteSlot_pendingCrc (refreshing : Bool) (seen : List Byte) (sl : Slot) : ((rewriteSlot refreshing seen sl s).1).pendingCrc = s.pendingCrc :=
  (congrArg State.pendingCrc (rewriteSlot_frame s refreshing seen sl) :)
@[simp] theorem rewriteSlot_refresh (refreshing : Bool) (seen : List Byte) (sl : Slot) : ((rewriteSlot refreshing seen sl s).1).refresh = s.refresh :=
  (congrArg State.refresh (rewriteSlot_frame s refreshing seen sl) :)
@[simp] theorem rewriteSlot_axes (refreshing : Bool) (seen : List Byte) (sl : Slot) : ((rewriteSlot refreshing seen sl s).1).axes = s.axes :=
  (congrArg State.axes (rewriteSlot_frame s refreshing seen sl) :)
@[simp] theorem rewriteSlot_gangs (refreshing : Bool) (seen : List Byte) (sl : Slot) : ((rewriteSlot refreshing seen sl s).1).gangs = s.gangs :=
  (congrArg State.gangs (rewriteSlot_frame s refreshing seen sl) :)
@[simp] theorem rewriteSlot_fences (refreshing : Bool) (seen : List Byte) (sl : Slot) : ((rewriteSlot refreshing seen sl s).1).fences = s.fences :=
  (congrArg State.fences (rewriteSlot_frame s refreshing seen sl) :)
@[simp] theorem rewriteSlot_windClass (refreshing : Bool) (seen : List Byte) (sl : Slot) : ((rewriteSlot refreshing seen sl s).1).windClass = s.windClass :=
  (congrArg State.windClass (rewriteSlot_frame s refreshing seen sl) :)
@[simp] theorem rewriteSlot_weatherStale (refreshing : Bool) (seen : List Byte) (sl : Slot) : ((rewriteSlot refreshing seen sl s).1).weatherStale = s.weatherStale :=
  (congrArg State.weatherStale (rewriteSlot_frame s refreshing seen sl) :)
@[simp] theorem rewriteSlot_weatherTimer (refreshing : Bool) (seen : List Byte) (sl : Slot) : ((rewriteSlot refreshing seen sl s).1).weatherTimer = s.weatherTimer :=
  (congrArg State.weatherTimer (rewriteSlot_frame s refreshing seen sl) :)
@[simp] theorem rewriteSlot_press (refreshing : Bool) (seen : List Byte) (sl : Slot) : ((rewriteSlot refreshing seen sl s).1).press = s.press :=
  (congrArg State.press (rewriteSlot_frame s refreshing seen sl) :)
@[simp] theorem rewriteSlot_pressTime (refreshing : Bool) (seen : List Byte) (sl : Slot) : ((rewriteSlot refreshing seen sl s).1).pressTime = s.pressTime :=
  (congrArg State.pressTime (rewriteSlot_frame s refreshing seen sl) :)
@[simp] theorem rewriteSlot_longTime (refreshing : Bool) (seen : List Byte) (sl : Slot) : ((rewriteSlot refreshing seen sl s).1).longTime = s.longTime :=
  (congrArg State.longTime (rewriteSlot_frame s refreshing seen sl) :)
@[simp] theorem rewriteSlot_operatorHold (refreshing : Bool) (seen : List Byte) (sl : Slot) : ((rewriteSlot refreshing seen sl s).1).operatorHold = s.operatorHold :=
  (congrArg State.operatorHold (rewriteSlot_frame s refreshing seen sl) :)
@[simp] theorem rewriteSlot_lines (refreshing : Bool) (seen : List Byte) (sl : Slot) : ((rewriteSlot refreshing seen sl s).1).lines = s.lines :=
  (congrArg State.lines (rewriteSlot_frame s refreshing seen sl) :)
@[simp] theorem rewriteSlot_deferred (refreshing : Bool) (seen : List Byte) (sl : Slot) : ((rewriteSlot refreshing seen sl s).1).deferred = s.deferred :=
  (congrArg State.deferred (rewriteSlot_frame s refreshing seen sl) :)
@[simp] theorem rewriteSlot_backoff (refreshing : Bool) (seen : List Byte) (sl : Slot) : ((rewriteSlot refreshing seen sl s).1).backoff = s.backoff :=
  (congrArg State.backoff (rewriteSlot_frame s refreshing seen sl) :)
@[simp] theorem rewriteSlot_highPtr (refreshing : Bool) (seen : List Byte) (sl : Slot) : ((rewriteSlot refreshing seen sl s).1).highPtr = s.highPtr :=
  (congrArg State.highPtr (rewriteSlot_frame s refreshing seen sl) :)
@[simp] theorem rewriteSlot_lowPtr (refreshing : Bool) (seen : List Byte) (sl : Slot) : ((rewriteSlot refreshing seen sl s).1).lowPtr = s.lowPtr :=
  (congrArg State.lowPtr (rewriteSlot_frame s refreshing seen sl) :)
@[simp] theorem rewriteSlot_openGrant (refreshing : Bool) (seen : List Byte) (sl : Slot) : ((rewriteSlot refreshing seen sl s).1).openGrant = s.openGrant :=
  (congrArg State.openGrant (rewriteSlot_frame s refreshing seen sl) :)
@[simp] theorem rewriteSlot_grantRecs (refreshing : Bool) (seen : List Byte) (sl : Slot) : ((rewriteSlot refreshing seen sl s).1).grantRecs = s.grantRecs :=
  (congrArg State.grantRecs (rewriteSlot_frame s refreshing seen sl) :)
@[simp] theorem rewriteSlot_watchdog (refreshing : Bool) (seen : List Byte) (sl : Slot) : ((rewriteSlot refreshing seen sl s).1).watchdog = s.watchdog :=
  (congrArg State.watchdog (rewriteSlot_frame s refreshing seen sl) :)
@[simp] theorem rewriteSlot_watchdogTimer (refreshing : Bool) (seen : List Byte) (sl : Slot) : ((rewriteSlot refreshing seen sl s).1).watchdogTimer = s.watchdogTimer :=
  (congrArg State.watchdogTimer (rewriteSlot_frame s refreshing seen sl) :)
@[simp] theorem rewriteSlot_olderArrival (refreshing : Bool) (seen : List Byte) (sl : Slot) : ((rewriteSlot refreshing seen sl s).1).olderArrival = s.olderArrival :=
  (congrArg State.olderArrival (rewriteSlot_frame s refreshing seen sl) :)
@[simp] theorem rewriteSlot_newerArrival (refreshing : Bool) (seen : List Byte) (sl : Slot) : ((rewriteSlot refreshing seen sl s).1).newerArrival = s.newerArrival :=
  (congrArg State.newerArrival (rewriteSlot_frame s refreshing seen sl) :)
@[simp] theorem rewriteSlot_substituteTimer (refreshing : Bool) (seen : List Byte) (sl : Slot) : ((rewriteSlot refreshing seen sl s).1).substituteTimer = s.substituteTimer :=
  (congrArg State.substituteTimer (rewriteSlot_frame s refreshing seen sl) :)
@[simp] theorem rewriteSlot_lastCycle (refreshing : Bool) (seen : List Byte) (sl : Slot) : ((rewriteSlot refreshing seen sl s).1).lastCycle = s.lastCycle :=
  (congrArg State.lastCycle (rewriteSlot_frame s refreshing seen sl) :)
@[simp] theorem rewriteSlot_due (refreshing : Bool) (seen : List Byte) (sl : Slot) : ((rewriteSlot refreshing seen sl s).1).due = s.due :=
  (congrArg State.due (rewriteSlot_frame s refreshing seen sl) :)
@[simp] theorem rewriteSlot_frameClass (refreshing : Bool) (seen : List Byte) (sl : Slot) : ((rewriteSlot refreshing seen sl s).1).frameClass = s.frameClass :=
  (congrArg State.frameClass (rewriteSlot_frame s refreshing seen sl) :)
@[simp] theorem rewriteSlot_inReset (refreshing : Bool) (seen : List Byte) (sl : Slot) : ((rewriteSlot refreshing seen sl s).1).inReset = s.inReset :=
  (congrArg State.inReset (rewriteSlot_frame s refreshing seen sl) :)
@[simp] theorem rewriteSlot_holdnLow (refreshing : Bool) (seen : List Byte) (sl : Slot) : ((rewriteSlot refreshing seen sl s).1).holdnLow = s.holdnLow :=
  (congrArg State.holdnLow (rewriteSlot_frame s refreshing seen sl) :)
@[simp] theorem rewriteSlot_sampled (refreshing : Bool) (seen : List Byte) (sl : Slot) : ((rewriteSlot refreshing seen sl s).1).sampled = s.sampled :=
  (congrArg State.sampled (rewriteSlot_frame s refreshing seen sl) :)
@[simp] theorem rewriteSlot_faultnLow (refreshing : Bool) (seen : List Byte) (sl : Slot) : ((rewriteSlot refreshing seen sl s).1).faultnLow = s.faultnLow :=
  (congrArg State.faultnLow (rewriteSlot_frame s refreshing seen sl) :)

/-- The slots of a frame touch what one slot touches (R31 to R33). -/
theorem rewriteSlots_frame (refreshing : Bool) (seen : List Byte) (slots : List Slot) :
    (rewriteSlots refreshing seen slots s).1 = { s with
    forwards := ((rewriteSlots refreshing seen slots s).1).forwards, reportedNodes := ((rewriteSlots refreshing seen slots s).1).reportedNodes,
    flags := ((rewriteSlots refreshing seen slots s).1).flags, events := ((rewriteSlots refreshing seen slots s).1).events } := by
  induction slots generalizing seen s with
  | nil => rfl
  | cons sl rest ih =>
    have := ih (rewriteSlot refreshing seen sl s).1 (sl.node :: seen)
    simp only [rewriteSlots]
    rw [this]
    apply State.ext_fields <;> simp

@[simp] theorem rewriteSlots_pending (refreshing : Bool) (seen : List Byte) (slots : List Slot) : ((rewriteSlots refreshing seen slots s).1).pending = s.pending :=
  (congrArg State.pending (rewriteSlots_frame s refreshing seen slots) :)
@[simp] theorem rewriteSlots_now (refreshing : Bool) (seen : List Byte) (slots : List Slot) : ((rewriteSlots refreshing seen slots s).1).now = s.now :=
  (congrArg State.now (rewriteSlots_frame s refreshing seen slots) :)
@[simp] theorem rewriteSlots_draws (refreshing : Bool) (seen : List Byte) (slots : List Slot) : ((rewriteSlots refreshing seen slots s).1).draws = s.draws :=
  (congrArg State.draws (rewriteSlots_frame s refreshing seen slots) :)
@[simp] theorem rewriteSlots_up (refreshing : Bool) (seen : List Byte) (slots : List Slot) : ((rewriteSlots refreshing seen slots s).1).up = s.up :=
  (congrArg State.up (rewriteSlots_frame s refreshing seen slots) :)
@[simp] theorem rewriteSlots_down (refreshing : Bool) (seen : List Byte) (slots : List Slot) : ((rewriteSlots refreshing seen slots s).1).down = s.down :=
  (congrArg State.down (rewriteSlots_frame s refreshing seen slots) :)
@[simp] theorem rewriteSlots_waiting (refreshing : Bool) (seen : List Byte) (slots : List Slot) : ((rewriteSlots refreshing seen slots s).1).waiting = s.waiting :=
  (congrArg State.waiting (rewriteSlots_frame s refreshing seen slots) :)
@[simp] theorem rewriteSlots_bankPresent (refreshing : Bool) (seen : List Byte) (slots : List Slot) : ((rewriteSlots refreshing seen slots s).1).bankPresent = s.bankPresent :=
  (congrArg State.bankPresent (rewriteSlots_frame s refreshing seen slots) :)
@[simp] theorem rewriteSlots_active (refreshing : Bool) (seen : List Byte) (slots : List Slot) : ((rewriteSlots refreshing seen slots s).1).active = s.active :=
  (congrArg State.active (rewriteSlots_frame s refreshing seen slots) :)
@[simp] theorem rewriteSlots_verifiedCrc (refreshing : Bool) (seen : List Byte) (slots : List Slot) : ((rewriteSlots refreshing seen slots s).1).verifiedCrc = s.verifiedCrc :=
  (congrArg State.verifiedCrc (rewriteSlots_frame s refreshing seen slots) :)
@[simp] theorem rewriteSlots_pendingBank (refreshing : Bool) (seen : List Byte) (slots : List Slot) : ((rewriteSlots refreshing seen slots s).1).pendingBank = s.pendingBank :=
  (congrArg State.pendingBank (rewriteSlots_frame s refreshing seen slots) :)
@[simp] theorem rewriteSlots_pendingState (refreshing : Bool) (seen : List Byte) (slots : List Slot) : ((rewriteSlots refreshing seen slots s).1).pendingState = s.pendingState :=
  (congrArg State.pendingState (rewriteSlots_frame s refreshing seen slots) :)
@[simp] theorem rewriteSlots_expectedCrc (refreshing : Bool) (seen : List Byte) (slots : List Slot) : ((rewriteSlots refreshing seen slots s).1).expectedCrc = s.expectedCrc :=
  (congrArg State.expectedCrc (rewriteSlots_frame s refreshing seen slots) :)
@[simp] theorem rewriteSlots_pendingCrc (refreshing : Bool) (seen : List Byte) (slots : List Slot) : ((rewriteSlots refreshing seen slots s).1).pendingCrc = s.pendingCrc :=
  (congrArg State.pendingCrc (rewriteSlots_frame s refreshing seen slots) :)
@[simp] theorem rewriteSlots_refresh (refreshing : Bool) (seen : List Byte) (slots : List Slot) : ((rewriteSlots refreshing seen slots s).1).refresh = s.refresh :=
  (congrArg State.refresh (rewriteSlots_frame s refreshing seen slots) :)
@[simp] theorem rewriteSlots_axes (refreshing : Bool) (seen : List Byte) (slots : List Slot) : ((rewriteSlots refreshing seen slots s).1).axes = s.axes :=
  (congrArg State.axes (rewriteSlots_frame s refreshing seen slots) :)
@[simp] theorem rewriteSlots_gangs (refreshing : Bool) (seen : List Byte) (slots : List Slot) : ((rewriteSlots refreshing seen slots s).1).gangs = s.gangs :=
  (congrArg State.gangs (rewriteSlots_frame s refreshing seen slots) :)
@[simp] theorem rewriteSlots_fences (refreshing : Bool) (seen : List Byte) (slots : List Slot) : ((rewriteSlots refreshing seen slots s).1).fences = s.fences :=
  (congrArg State.fences (rewriteSlots_frame s refreshing seen slots) :)
@[simp] theorem rewriteSlots_windClass (refreshing : Bool) (seen : List Byte) (slots : List Slot) : ((rewriteSlots refreshing seen slots s).1).windClass = s.windClass :=
  (congrArg State.windClass (rewriteSlots_frame s refreshing seen slots) :)
@[simp] theorem rewriteSlots_weatherStale (refreshing : Bool) (seen : List Byte) (slots : List Slot) : ((rewriteSlots refreshing seen slots s).1).weatherStale = s.weatherStale :=
  (congrArg State.weatherStale (rewriteSlots_frame s refreshing seen slots) :)
@[simp] theorem rewriteSlots_weatherTimer (refreshing : Bool) (seen : List Byte) (slots : List Slot) : ((rewriteSlots refreshing seen slots s).1).weatherTimer = s.weatherTimer :=
  (congrArg State.weatherTimer (rewriteSlots_frame s refreshing seen slots) :)
@[simp] theorem rewriteSlots_press (refreshing : Bool) (seen : List Byte) (slots : List Slot) : ((rewriteSlots refreshing seen slots s).1).press = s.press :=
  (congrArg State.press (rewriteSlots_frame s refreshing seen slots) :)
@[simp] theorem rewriteSlots_pressTime (refreshing : Bool) (seen : List Byte) (slots : List Slot) : ((rewriteSlots refreshing seen slots s).1).pressTime = s.pressTime :=
  (congrArg State.pressTime (rewriteSlots_frame s refreshing seen slots) :)
@[simp] theorem rewriteSlots_longTime (refreshing : Bool) (seen : List Byte) (slots : List Slot) : ((rewriteSlots refreshing seen slots s).1).longTime = s.longTime :=
  (congrArg State.longTime (rewriteSlots_frame s refreshing seen slots) :)
@[simp] theorem rewriteSlots_operatorHold (refreshing : Bool) (seen : List Byte) (slots : List Slot) : ((rewriteSlots refreshing seen slots s).1).operatorHold = s.operatorHold :=
  (congrArg State.operatorHold (rewriteSlots_frame s refreshing seen slots) :)
@[simp] theorem rewriteSlots_lines (refreshing : Bool) (seen : List Byte) (slots : List Slot) : ((rewriteSlots refreshing seen slots s).1).lines = s.lines :=
  (congrArg State.lines (rewriteSlots_frame s refreshing seen slots) :)
@[simp] theorem rewriteSlots_deferred (refreshing : Bool) (seen : List Byte) (slots : List Slot) : ((rewriteSlots refreshing seen slots s).1).deferred = s.deferred :=
  (congrArg State.deferred (rewriteSlots_frame s refreshing seen slots) :)
@[simp] theorem rewriteSlots_backoff (refreshing : Bool) (seen : List Byte) (slots : List Slot) : ((rewriteSlots refreshing seen slots s).1).backoff = s.backoff :=
  (congrArg State.backoff (rewriteSlots_frame s refreshing seen slots) :)
@[simp] theorem rewriteSlots_highPtr (refreshing : Bool) (seen : List Byte) (slots : List Slot) : ((rewriteSlots refreshing seen slots s).1).highPtr = s.highPtr :=
  (congrArg State.highPtr (rewriteSlots_frame s refreshing seen slots) :)
@[simp] theorem rewriteSlots_lowPtr (refreshing : Bool) (seen : List Byte) (slots : List Slot) : ((rewriteSlots refreshing seen slots s).1).lowPtr = s.lowPtr :=
  (congrArg State.lowPtr (rewriteSlots_frame s refreshing seen slots) :)
@[simp] theorem rewriteSlots_openGrant (refreshing : Bool) (seen : List Byte) (slots : List Slot) : ((rewriteSlots refreshing seen slots s).1).openGrant = s.openGrant :=
  (congrArg State.openGrant (rewriteSlots_frame s refreshing seen slots) :)
@[simp] theorem rewriteSlots_grantRecs (refreshing : Bool) (seen : List Byte) (slots : List Slot) : ((rewriteSlots refreshing seen slots s).1).grantRecs = s.grantRecs :=
  (congrArg State.grantRecs (rewriteSlots_frame s refreshing seen slots) :)
@[simp] theorem rewriteSlots_watchdog (refreshing : Bool) (seen : List Byte) (slots : List Slot) : ((rewriteSlots refreshing seen slots s).1).watchdog = s.watchdog :=
  (congrArg State.watchdog (rewriteSlots_frame s refreshing seen slots) :)
@[simp] theorem rewriteSlots_watchdogTimer (refreshing : Bool) (seen : List Byte) (slots : List Slot) : ((rewriteSlots refreshing seen slots s).1).watchdogTimer = s.watchdogTimer :=
  (congrArg State.watchdogTimer (rewriteSlots_frame s refreshing seen slots) :)
@[simp] theorem rewriteSlots_olderArrival (refreshing : Bool) (seen : List Byte) (slots : List Slot) : ((rewriteSlots refreshing seen slots s).1).olderArrival = s.olderArrival :=
  (congrArg State.olderArrival (rewriteSlots_frame s refreshing seen slots) :)
@[simp] theorem rewriteSlots_newerArrival (refreshing : Bool) (seen : List Byte) (slots : List Slot) : ((rewriteSlots refreshing seen slots s).1).newerArrival = s.newerArrival :=
  (congrArg State.newerArrival (rewriteSlots_frame s refreshing seen slots) :)
@[simp] theorem rewriteSlots_substituteTimer (refreshing : Bool) (seen : List Byte) (slots : List Slot) : ((rewriteSlots refreshing seen slots s).1).substituteTimer = s.substituteTimer :=
  (congrArg State.substituteTimer (rewriteSlots_frame s refreshing seen slots) :)
@[simp] theorem rewriteSlots_lastCycle (refreshing : Bool) (seen : List Byte) (slots : List Slot) : ((rewriteSlots refreshing seen slots s).1).lastCycle = s.lastCycle :=
  (congrArg State.lastCycle (rewriteSlots_frame s refreshing seen slots) :)
@[simp] theorem rewriteSlots_due (refreshing : Bool) (seen : List Byte) (slots : List Slot) : ((rewriteSlots refreshing seen slots s).1).due = s.due :=
  (congrArg State.due (rewriteSlots_frame s refreshing seen slots) :)
@[simp] theorem rewriteSlots_frameClass (refreshing : Bool) (seen : List Byte) (slots : List Slot) : ((rewriteSlots refreshing seen slots s).1).frameClass = s.frameClass :=
  (congrArg State.frameClass (rewriteSlots_frame s refreshing seen slots) :)
@[simp] theorem rewriteSlots_inReset (refreshing : Bool) (seen : List Byte) (slots : List Slot) : ((rewriteSlots refreshing seen slots s).1).inReset = s.inReset :=
  (congrArg State.inReset (rewriteSlots_frame s refreshing seen slots) :)
@[simp] theorem rewriteSlots_holdnLow (refreshing : Bool) (seen : List Byte) (slots : List Slot) : ((rewriteSlots refreshing seen slots s).1).holdnLow = s.holdnLow :=
  (congrArg State.holdnLow (rewriteSlots_frame s refreshing seen slots) :)
@[simp] theorem rewriteSlots_sampled (refreshing : Bool) (seen : List Byte) (slots : List Slot) : ((rewriteSlots refreshing seen slots s).1).sampled = s.sampled :=
  (congrArg State.sampled (rewriteSlots_frame s refreshing seen slots) :)
@[simp] theorem rewriteSlots_faultnLow (refreshing : Bool) (seen : List Byte) (slots : List Slot) : ((rewriteSlots refreshing seen slots s).1).faultnLow = s.faultnLow :=
  (congrArg State.faultnLow (rewriteSlots_frame s refreshing seen slots) :)

/-- Current ceilings touch the gang records (R41). -/
theorem writeCeilings_frame :
    writeCeilings s = { s with
    gangs := (writeCeilings s).gangs } := forGangs_gangs_frame s fun t g => t.modifyGang_frame g _

@[simp] theorem writeCeilings_pending : (writeCeilings s).pending = s.pending :=
  (congrArg State.pending (writeCeilings_frame s) :)
@[simp] theorem writeCeilings_now : (writeCeilings s).now = s.now :=
  (congrArg State.now (writeCeilings_frame s) :)
@[simp] theorem writeCeilings_draws : (writeCeilings s).draws = s.draws :=
  (congrArg State.draws (writeCeilings_frame s) :)
@[simp] theorem writeCeilings_up : (writeCeilings s).up = s.up :=
  (congrArg State.up (writeCeilings_frame s) :)
@[simp] theorem writeCeilings_down : (writeCeilings s).down = s.down :=
  (congrArg State.down (writeCeilings_frame s) :)
@[simp] theorem writeCeilings_waiting : (writeCeilings s).waiting = s.waiting :=
  (congrArg State.waiting (writeCeilings_frame s) :)
@[simp] theorem writeCeilings_bankPresent : (writeCeilings s).bankPresent = s.bankPresent :=
  (congrArg State.bankPresent (writeCeilings_frame s) :)
@[simp] theorem writeCeilings_active : (writeCeilings s).active = s.active :=
  (congrArg State.active (writeCeilings_frame s) :)
@[simp] theorem writeCeilings_verifiedCrc : (writeCeilings s).verifiedCrc = s.verifiedCrc :=
  (congrArg State.verifiedCrc (writeCeilings_frame s) :)
@[simp] theorem writeCeilings_pendingBank : (writeCeilings s).pendingBank = s.pendingBank :=
  (congrArg State.pendingBank (writeCeilings_frame s) :)
@[simp] theorem writeCeilings_pendingState : (writeCeilings s).pendingState = s.pendingState :=
  (congrArg State.pendingState (writeCeilings_frame s) :)
@[simp] theorem writeCeilings_expectedCrc : (writeCeilings s).expectedCrc = s.expectedCrc :=
  (congrArg State.expectedCrc (writeCeilings_frame s) :)
@[simp] theorem writeCeilings_pendingCrc : (writeCeilings s).pendingCrc = s.pendingCrc :=
  (congrArg State.pendingCrc (writeCeilings_frame s) :)
@[simp] theorem writeCeilings_refresh : (writeCeilings s).refresh = s.refresh :=
  (congrArg State.refresh (writeCeilings_frame s) :)
@[simp] theorem writeCeilings_axes : (writeCeilings s).axes = s.axes :=
  (congrArg State.axes (writeCeilings_frame s) :)
@[simp] theorem writeCeilings_forwards : (writeCeilings s).forwards = s.forwards :=
  (congrArg State.forwards (writeCeilings_frame s) :)
@[simp] theorem writeCeilings_reportedNodes : (writeCeilings s).reportedNodes = s.reportedNodes :=
  (congrArg State.reportedNodes (writeCeilings_frame s) :)
@[simp] theorem writeCeilings_fences : (writeCeilings s).fences = s.fences :=
  (congrArg State.fences (writeCeilings_frame s) :)
@[simp] theorem writeCeilings_windClass : (writeCeilings s).windClass = s.windClass :=
  (congrArg State.windClass (writeCeilings_frame s) :)
@[simp] theorem writeCeilings_weatherStale : (writeCeilings s).weatherStale = s.weatherStale :=
  (congrArg State.weatherStale (writeCeilings_frame s) :)
@[simp] theorem writeCeilings_weatherTimer : (writeCeilings s).weatherTimer = s.weatherTimer :=
  (congrArg State.weatherTimer (writeCeilings_frame s) :)
@[simp] theorem writeCeilings_press : (writeCeilings s).press = s.press :=
  (congrArg State.press (writeCeilings_frame s) :)
@[simp] theorem writeCeilings_pressTime : (writeCeilings s).pressTime = s.pressTime :=
  (congrArg State.pressTime (writeCeilings_frame s) :)
@[simp] theorem writeCeilings_longTime : (writeCeilings s).longTime = s.longTime :=
  (congrArg State.longTime (writeCeilings_frame s) :)
@[simp] theorem writeCeilings_operatorHold : (writeCeilings s).operatorHold = s.operatorHold :=
  (congrArg State.operatorHold (writeCeilings_frame s) :)
@[simp] theorem writeCeilings_lines : (writeCeilings s).lines = s.lines :=
  (congrArg State.lines (writeCeilings_frame s) :)
@[simp] theorem writeCeilings_deferred : (writeCeilings s).deferred = s.deferred :=
  (congrArg State.deferred (writeCeilings_frame s) :)
@[simp] theorem writeCeilings_backoff : (writeCeilings s).backoff = s.backoff :=
  (congrArg State.backoff (writeCeilings_frame s) :)
@[simp] theorem writeCeilings_highPtr : (writeCeilings s).highPtr = s.highPtr :=
  (congrArg State.highPtr (writeCeilings_frame s) :)
@[simp] theorem writeCeilings_lowPtr : (writeCeilings s).lowPtr = s.lowPtr :=
  (congrArg State.lowPtr (writeCeilings_frame s) :)
@[simp] theorem writeCeilings_openGrant : (writeCeilings s).openGrant = s.openGrant :=
  (congrArg State.openGrant (writeCeilings_frame s) :)
@[simp] theorem writeCeilings_grantRecs : (writeCeilings s).grantRecs = s.grantRecs :=
  (congrArg State.grantRecs (writeCeilings_frame s) :)
@[simp] theorem writeCeilings_watchdog : (writeCeilings s).watchdog = s.watchdog :=
  (congrArg State.watchdog (writeCeilings_frame s) :)
@[simp] theorem writeCeilings_watchdogTimer : (writeCeilings s).watchdogTimer = s.watchdogTimer :=
  (congrArg State.watchdogTimer (writeCeilings_frame s) :)
@[simp] theorem writeCeilings_olderArrival : (writeCeilings s).olderArrival = s.olderArrival :=
  (congrArg State.olderArrival (writeCeilings_frame s) :)
@[simp] theorem writeCeilings_newerArrival : (writeCeilings s).newerArrival = s.newerArrival :=
  (congrArg State.newerArrival (writeCeilings_frame s) :)
@[simp] theorem writeCeilings_substituteTimer : (writeCeilings s).substituteTimer = s.substituteTimer :=
  (congrArg State.substituteTimer (writeCeilings_frame s) :)
@[simp] theorem writeCeilings_lastCycle : (writeCeilings s).lastCycle = s.lastCycle :=
  (congrArg State.lastCycle (writeCeilings_frame s) :)
@[simp] theorem writeCeilings_flags : (writeCeilings s).flags = s.flags :=
  (congrArg State.flags (writeCeilings_frame s) :)
@[simp] theorem writeCeilings_events : (writeCeilings s).events = s.events :=
  (congrArg State.events (writeCeilings_frame s) :)
@[simp] theorem writeCeilings_due : (writeCeilings s).due = s.due :=
  (congrArg State.due (writeCeilings_frame s) :)
@[simp] theorem writeCeilings_frameClass : (writeCeilings s).frameClass = s.frameClass :=
  (congrArg State.frameClass (writeCeilings_frame s) :)
@[simp] theorem writeCeilings_inReset : (writeCeilings s).inReset = s.inReset :=
  (congrArg State.inReset (writeCeilings_frame s) :)
@[simp] theorem writeCeilings_holdnLow : (writeCeilings s).holdnLow = s.holdnLow :=
  (congrArg State.holdnLow (writeCeilings_frame s) :)
@[simp] theorem writeCeilings_sampled : (writeCeilings s).sampled = s.sampled :=
  (congrArg State.sampled (writeCeilings_frame s) :)
@[simp] theorem writeCeilings_faultnLow : (writeCeilings s).faultnLow = s.faultnLow :=
  (congrArg State.faultnLow (writeCeilings_frame s) :)

/-- From freshness to the rewritten slots: records, lines, reported nodes, flags and events (R15, R31, R49). -/
theorem rewriteStages_frame (slots : List Slot) :
    (rewriteStages slots s).1 = { s with
    axes := ((rewriteStages slots s).1).axes, forwards := ((rewriteStages slots s).1).forwards,
    reportedNodes := ((rewriteStages slots s).1).reportedNodes, gangs := ((rewriteStages slots s).1).gangs,
    fences := ((rewriteStages slots s).1).fences, lines := ((rewriteStages slots s).1).lines,
    flags := ((rewriteStages slots s).1).flags, events := ((rewriteStages slots s).1).events } := by
  unfold rewriteStages
  simp only
  split
  all_goals apply State.ext_fields <;> simp

@[simp] theorem rewriteStages_pending (slots : List Slot) : ((rewriteStages slots s).1).pending = s.pending :=
  (congrArg State.pending (rewriteStages_frame s slots) :)
@[simp] theorem rewriteStages_now (slots : List Slot) : ((rewriteStages slots s).1).now = s.now :=
  (congrArg State.now (rewriteStages_frame s slots) :)
@[simp] theorem rewriteStages_draws (slots : List Slot) : ((rewriteStages slots s).1).draws = s.draws :=
  (congrArg State.draws (rewriteStages_frame s slots) :)
@[simp] theorem rewriteStages_up (slots : List Slot) : ((rewriteStages slots s).1).up = s.up :=
  (congrArg State.up (rewriteStages_frame s slots) :)
@[simp] theorem rewriteStages_down (slots : List Slot) : ((rewriteStages slots s).1).down = s.down :=
  (congrArg State.down (rewriteStages_frame s slots) :)
@[simp] theorem rewriteStages_waiting (slots : List Slot) : ((rewriteStages slots s).1).waiting = s.waiting :=
  (congrArg State.waiting (rewriteStages_frame s slots) :)
@[simp] theorem rewriteStages_bankPresent (slots : List Slot) : ((rewriteStages slots s).1).bankPresent = s.bankPresent :=
  (congrArg State.bankPresent (rewriteStages_frame s slots) :)
@[simp] theorem rewriteStages_active (slots : List Slot) : ((rewriteStages slots s).1).active = s.active :=
  (congrArg State.active (rewriteStages_frame s slots) :)
@[simp] theorem rewriteStages_verifiedCrc (slots : List Slot) : ((rewriteStages slots s).1).verifiedCrc = s.verifiedCrc :=
  (congrArg State.verifiedCrc (rewriteStages_frame s slots) :)
@[simp] theorem rewriteStages_pendingBank (slots : List Slot) : ((rewriteStages slots s).1).pendingBank = s.pendingBank :=
  (congrArg State.pendingBank (rewriteStages_frame s slots) :)
@[simp] theorem rewriteStages_pendingState (slots : List Slot) : ((rewriteStages slots s).1).pendingState = s.pendingState :=
  (congrArg State.pendingState (rewriteStages_frame s slots) :)
@[simp] theorem rewriteStages_expectedCrc (slots : List Slot) : ((rewriteStages slots s).1).expectedCrc = s.expectedCrc :=
  (congrArg State.expectedCrc (rewriteStages_frame s slots) :)
@[simp] theorem rewriteStages_pendingCrc (slots : List Slot) : ((rewriteStages slots s).1).pendingCrc = s.pendingCrc :=
  (congrArg State.pendingCrc (rewriteStages_frame s slots) :)
@[simp] theorem rewriteStages_refresh (slots : List Slot) : ((rewriteStages slots s).1).refresh = s.refresh :=
  (congrArg State.refresh (rewriteStages_frame s slots) :)
@[simp] theorem rewriteStages_windClass (slots : List Slot) : ((rewriteStages slots s).1).windClass = s.windClass :=
  (congrArg State.windClass (rewriteStages_frame s slots) :)
@[simp] theorem rewriteStages_weatherStale (slots : List Slot) : ((rewriteStages slots s).1).weatherStale = s.weatherStale :=
  (congrArg State.weatherStale (rewriteStages_frame s slots) :)
@[simp] theorem rewriteStages_weatherTimer (slots : List Slot) : ((rewriteStages slots s).1).weatherTimer = s.weatherTimer :=
  (congrArg State.weatherTimer (rewriteStages_frame s slots) :)
@[simp] theorem rewriteStages_press (slots : List Slot) : ((rewriteStages slots s).1).press = s.press :=
  (congrArg State.press (rewriteStages_frame s slots) :)
@[simp] theorem rewriteStages_pressTime (slots : List Slot) : ((rewriteStages slots s).1).pressTime = s.pressTime :=
  (congrArg State.pressTime (rewriteStages_frame s slots) :)
@[simp] theorem rewriteStages_longTime (slots : List Slot) : ((rewriteStages slots s).1).longTime = s.longTime :=
  (congrArg State.longTime (rewriteStages_frame s slots) :)
@[simp] theorem rewriteStages_operatorHold (slots : List Slot) : ((rewriteStages slots s).1).operatorHold = s.operatorHold :=
  (congrArg State.operatorHold (rewriteStages_frame s slots) :)
@[simp] theorem rewriteStages_deferred (slots : List Slot) : ((rewriteStages slots s).1).deferred = s.deferred :=
  (congrArg State.deferred (rewriteStages_frame s slots) :)
@[simp] theorem rewriteStages_backoff (slots : List Slot) : ((rewriteStages slots s).1).backoff = s.backoff :=
  (congrArg State.backoff (rewriteStages_frame s slots) :)
@[simp] theorem rewriteStages_highPtr (slots : List Slot) : ((rewriteStages slots s).1).highPtr = s.highPtr :=
  (congrArg State.highPtr (rewriteStages_frame s slots) :)
@[simp] theorem rewriteStages_lowPtr (slots : List Slot) : ((rewriteStages slots s).1).lowPtr = s.lowPtr :=
  (congrArg State.lowPtr (rewriteStages_frame s slots) :)
@[simp] theorem rewriteStages_openGrant (slots : List Slot) : ((rewriteStages slots s).1).openGrant = s.openGrant :=
  (congrArg State.openGrant (rewriteStages_frame s slots) :)
@[simp] theorem rewriteStages_grantRecs (slots : List Slot) : ((rewriteStages slots s).1).grantRecs = s.grantRecs :=
  (congrArg State.grantRecs (rewriteStages_frame s slots) :)
@[simp] theorem rewriteStages_watchdog (slots : List Slot) : ((rewriteStages slots s).1).watchdog = s.watchdog :=
  (congrArg State.watchdog (rewriteStages_frame s slots) :)
@[simp] theorem rewriteStages_watchdogTimer (slots : List Slot) : ((rewriteStages slots s).1).watchdogTimer = s.watchdogTimer :=
  (congrArg State.watchdogTimer (rewriteStages_frame s slots) :)
@[simp] theorem rewriteStages_olderArrival (slots : List Slot) : ((rewriteStages slots s).1).olderArrival = s.olderArrival :=
  (congrArg State.olderArrival (rewriteStages_frame s slots) :)
@[simp] theorem rewriteStages_newerArrival (slots : List Slot) : ((rewriteStages slots s).1).newerArrival = s.newerArrival :=
  (congrArg State.newerArrival (rewriteStages_frame s slots) :)
@[simp] theorem rewriteStages_substituteTimer (slots : List Slot) : ((rewriteStages slots s).1).substituteTimer = s.substituteTimer :=
  (congrArg State.substituteTimer (rewriteStages_frame s slots) :)
@[simp] theorem rewriteStages_lastCycle (slots : List Slot) : ((rewriteStages slots s).1).lastCycle = s.lastCycle :=
  (congrArg State.lastCycle (rewriteStages_frame s slots) :)
@[simp] theorem rewriteStages_due (slots : List Slot) : ((rewriteStages slots s).1).due = s.due :=
  (congrArg State.due (rewriteStages_frame s slots) :)
@[simp] theorem rewriteStages_frameClass (slots : List Slot) : ((rewriteStages slots s).1).frameClass = s.frameClass :=
  (congrArg State.frameClass (rewriteStages_frame s slots) :)
@[simp] theorem rewriteStages_inReset (slots : List Slot) : ((rewriteStages slots s).1).inReset = s.inReset :=
  (congrArg State.inReset (rewriteStages_frame s slots) :)
@[simp] theorem rewriteStages_holdnLow (slots : List Slot) : ((rewriteStages slots s).1).holdnLow = s.holdnLow :=
  (congrArg State.holdnLow (rewriteStages_frame s slots) :)
@[simp] theorem rewriteStages_sampled (slots : List Slot) : ((rewriteStages slots s).1).sampled = s.sampled :=
  (congrArg State.sampled (rewriteStages_frame s slots) :)
@[simp] theorem rewriteStages_faultnLow (slots : List Slot) : ((rewriteStages slots s).1).faultnLow = s.faultnLow :=
  (congrArg State.faultnLow (rewriteStages_frame s slots) :)

/-- The discard touches the deferred table, the flags and the event queue (R141). -/
theorem discardExpired_frame :
    discardExpired s = { s with
    deferred := (discardExpired s).deferred, flags := (discardExpired s).flags,
    events := (discardExpired s).events } := by
  unfold discardExpired
  generalize s.deferred.filter DeferredEntry.expired = l
  have : ∀ t : State, t = { s with deferred := t.deferred, flags := t.flags, events := t.events } →
      l.foldl reportDiscard t = { s with
        deferred := (l.foldl reportDiscard t).deferred, flags := (l.foldl reportDiscard t).flags,
        events := (l.foldl reportDiscard t).events } := by
    induction l with
    | nil => intro t h; exact h
    | cons i l ih =>
      intro t h
      exact ih _ (by
        unfold reportDiscard
        rw [State.offerOwn_frame, State.setFlag, h])
  exact this _ rfl

@[simp] theorem discardExpired_pending : (discardExpired s).pending = s.pending :=
  (congrArg State.pending (discardExpired_frame s) :)
@[simp] theorem discardExpired_now : (discardExpired s).now = s.now :=
  (congrArg State.now (discardExpired_frame s) :)
@[simp] theorem discardExpired_draws : (discardExpired s).draws = s.draws :=
  (congrArg State.draws (discardExpired_frame s) :)
@[simp] theorem discardExpired_up : (discardExpired s).up = s.up :=
  (congrArg State.up (discardExpired_frame s) :)
@[simp] theorem discardExpired_down : (discardExpired s).down = s.down :=
  (congrArg State.down (discardExpired_frame s) :)
@[simp] theorem discardExpired_waiting : (discardExpired s).waiting = s.waiting :=
  (congrArg State.waiting (discardExpired_frame s) :)
@[simp] theorem discardExpired_bankPresent : (discardExpired s).bankPresent = s.bankPresent :=
  (congrArg State.bankPresent (discardExpired_frame s) :)
@[simp] theorem discardExpired_active : (discardExpired s).active = s.active :=
  (congrArg State.active (discardExpired_frame s) :)
@[simp] theorem discardExpired_verifiedCrc : (discardExpired s).verifiedCrc = s.verifiedCrc :=
  (congrArg State.verifiedCrc (discardExpired_frame s) :)
@[simp] theorem discardExpired_pendingBank : (discardExpired s).pendingBank = s.pendingBank :=
  (congrArg State.pendingBank (discardExpired_frame s) :)
@[simp] theorem discardExpired_pendingState : (discardExpired s).pendingState = s.pendingState :=
  (congrArg State.pendingState (discardExpired_frame s) :)
@[simp] theorem discardExpired_expectedCrc : (discardExpired s).expectedCrc = s.expectedCrc :=
  (congrArg State.expectedCrc (discardExpired_frame s) :)
@[simp] theorem discardExpired_pendingCrc : (discardExpired s).pendingCrc = s.pendingCrc :=
  (congrArg State.pendingCrc (discardExpired_frame s) :)
@[simp] theorem discardExpired_refresh : (discardExpired s).refresh = s.refresh :=
  (congrArg State.refresh (discardExpired_frame s) :)
@[simp] theorem discardExpired_axes : (discardExpired s).axes = s.axes :=
  (congrArg State.axes (discardExpired_frame s) :)
@[simp] theorem discardExpired_forwards : (discardExpired s).forwards = s.forwards :=
  (congrArg State.forwards (discardExpired_frame s) :)
@[simp] theorem discardExpired_reportedNodes : (discardExpired s).reportedNodes = s.reportedNodes :=
  (congrArg State.reportedNodes (discardExpired_frame s) :)
@[simp] theorem discardExpired_gangs : (discardExpired s).gangs = s.gangs :=
  (congrArg State.gangs (discardExpired_frame s) :)
@[simp] theorem discardExpired_fences : (discardExpired s).fences = s.fences :=
  (congrArg State.fences (discardExpired_frame s) :)
@[simp] theorem discardExpired_windClass : (discardExpired s).windClass = s.windClass :=
  (congrArg State.windClass (discardExpired_frame s) :)
@[simp] theorem discardExpired_weatherStale : (discardExpired s).weatherStale = s.weatherStale :=
  (congrArg State.weatherStale (discardExpired_frame s) :)
@[simp] theorem discardExpired_weatherTimer : (discardExpired s).weatherTimer = s.weatherTimer :=
  (congrArg State.weatherTimer (discardExpired_frame s) :)
@[simp] theorem discardExpired_press : (discardExpired s).press = s.press :=
  (congrArg State.press (discardExpired_frame s) :)
@[simp] theorem discardExpired_pressTime : (discardExpired s).pressTime = s.pressTime :=
  (congrArg State.pressTime (discardExpired_frame s) :)
@[simp] theorem discardExpired_longTime : (discardExpired s).longTime = s.longTime :=
  (congrArg State.longTime (discardExpired_frame s) :)
@[simp] theorem discardExpired_operatorHold : (discardExpired s).operatorHold = s.operatorHold :=
  (congrArg State.operatorHold (discardExpired_frame s) :)
@[simp] theorem discardExpired_lines : (discardExpired s).lines = s.lines :=
  (congrArg State.lines (discardExpired_frame s) :)
@[simp] theorem discardExpired_backoff : (discardExpired s).backoff = s.backoff :=
  (congrArg State.backoff (discardExpired_frame s) :)
@[simp] theorem discardExpired_highPtr : (discardExpired s).highPtr = s.highPtr :=
  (congrArg State.highPtr (discardExpired_frame s) :)
@[simp] theorem discardExpired_lowPtr : (discardExpired s).lowPtr = s.lowPtr :=
  (congrArg State.lowPtr (discardExpired_frame s) :)
@[simp] theorem discardExpired_openGrant : (discardExpired s).openGrant = s.openGrant :=
  (congrArg State.openGrant (discardExpired_frame s) :)
@[simp] theorem discardExpired_grantRecs : (discardExpired s).grantRecs = s.grantRecs :=
  (congrArg State.grantRecs (discardExpired_frame s) :)
@[simp] theorem discardExpired_watchdog : (discardExpired s).watchdog = s.watchdog :=
  (congrArg State.watchdog (discardExpired_frame s) :)
@[simp] theorem discardExpired_watchdogTimer : (discardExpired s).watchdogTimer = s.watchdogTimer :=
  (congrArg State.watchdogTimer (discardExpired_frame s) :)
@[simp] theorem discardExpired_olderArrival : (discardExpired s).olderArrival = s.olderArrival :=
  (congrArg State.olderArrival (discardExpired_frame s) :)
@[simp] theorem discardExpired_newerArrival : (discardExpired s).newerArrival = s.newerArrival :=
  (congrArg State.newerArrival (discardExpired_frame s) :)
@[simp] theorem discardExpired_substituteTimer : (discardExpired s).substituteTimer = s.substituteTimer :=
  (congrArg State.substituteTimer (discardExpired_frame s) :)
@[simp] theorem discardExpired_lastCycle : (discardExpired s).lastCycle = s.lastCycle :=
  (congrArg State.lastCycle (discardExpired_frame s) :)
@[simp] theorem discardExpired_due : (discardExpired s).due = s.due :=
  (congrArg State.due (discardExpired_frame s) :)
@[simp] theorem discardExpired_frameClass : (discardExpired s).frameClass = s.frameClass :=
  (congrArg State.frameClass (discardExpired_frame s) :)
@[simp] theorem discardExpired_inReset : (discardExpired s).inReset = s.inReset :=
  (congrArg State.inReset (discardExpired_frame s) :)
@[simp] theorem discardExpired_holdnLow : (discardExpired s).holdnLow = s.holdnLow :=
  (congrArg State.holdnLow (discardExpired_frame s) :)
@[simp] theorem discardExpired_sampled : (discardExpired s).sampled = s.sampled :=
  (congrArg State.sampled (discardExpired_frame s) :)
@[simp] theorem discardExpired_faultnLow : (discardExpired s).faultnLow = s.faultnLow :=
  (congrArg State.faultnLow (discardExpired_frame s) :)

/-- The step of the deferred request unit touches its table and backoff, the flags and the event queue (R141). -/
theorem deferredStep_frame :
    deferredStep s = { s with
    deferred := (deferredStep s).deferred, backoff := (deferredStep s).backoff,
    flags := (deferredStep s).flags, events := (deferredStep s).events } := by
  unfold deferredStep
  rw [discardExpired_frame]; rfl

@[simp] theorem deferredStep_pending : (deferredStep s).pending = s.pending :=
  (congrArg State.pending (deferredStep_frame s) :)
@[simp] theorem deferredStep_now : (deferredStep s).now = s.now :=
  (congrArg State.now (deferredStep_frame s) :)
@[simp] theorem deferredStep_draws : (deferredStep s).draws = s.draws :=
  (congrArg State.draws (deferredStep_frame s) :)
@[simp] theorem deferredStep_up : (deferredStep s).up = s.up :=
  (congrArg State.up (deferredStep_frame s) :)
@[simp] theorem deferredStep_down : (deferredStep s).down = s.down :=
  (congrArg State.down (deferredStep_frame s) :)
@[simp] theorem deferredStep_waiting : (deferredStep s).waiting = s.waiting :=
  (congrArg State.waiting (deferredStep_frame s) :)
@[simp] theorem deferredStep_bankPresent : (deferredStep s).bankPresent = s.bankPresent :=
  (congrArg State.bankPresent (deferredStep_frame s) :)
@[simp] theorem deferredStep_active : (deferredStep s).active = s.active :=
  (congrArg State.active (deferredStep_frame s) :)
@[simp] theorem deferredStep_verifiedCrc : (deferredStep s).verifiedCrc = s.verifiedCrc :=
  (congrArg State.verifiedCrc (deferredStep_frame s) :)
@[simp] theorem deferredStep_pendingBank : (deferredStep s).pendingBank = s.pendingBank :=
  (congrArg State.pendingBank (deferredStep_frame s) :)
@[simp] theorem deferredStep_pendingState : (deferredStep s).pendingState = s.pendingState :=
  (congrArg State.pendingState (deferredStep_frame s) :)
@[simp] theorem deferredStep_expectedCrc : (deferredStep s).expectedCrc = s.expectedCrc :=
  (congrArg State.expectedCrc (deferredStep_frame s) :)
@[simp] theorem deferredStep_pendingCrc : (deferredStep s).pendingCrc = s.pendingCrc :=
  (congrArg State.pendingCrc (deferredStep_frame s) :)
@[simp] theorem deferredStep_refresh : (deferredStep s).refresh = s.refresh :=
  (congrArg State.refresh (deferredStep_frame s) :)
@[simp] theorem deferredStep_axes : (deferredStep s).axes = s.axes :=
  (congrArg State.axes (deferredStep_frame s) :)
@[simp] theorem deferredStep_forwards : (deferredStep s).forwards = s.forwards :=
  (congrArg State.forwards (deferredStep_frame s) :)
@[simp] theorem deferredStep_reportedNodes : (deferredStep s).reportedNodes = s.reportedNodes :=
  (congrArg State.reportedNodes (deferredStep_frame s) :)
@[simp] theorem deferredStep_gangs : (deferredStep s).gangs = s.gangs :=
  (congrArg State.gangs (deferredStep_frame s) :)
@[simp] theorem deferredStep_fences : (deferredStep s).fences = s.fences :=
  (congrArg State.fences (deferredStep_frame s) :)
@[simp] theorem deferredStep_windClass : (deferredStep s).windClass = s.windClass :=
  (congrArg State.windClass (deferredStep_frame s) :)
@[simp] theorem deferredStep_weatherStale : (deferredStep s).weatherStale = s.weatherStale :=
  (congrArg State.weatherStale (deferredStep_frame s) :)
@[simp] theorem deferredStep_weatherTimer : (deferredStep s).weatherTimer = s.weatherTimer :=
  (congrArg State.weatherTimer (deferredStep_frame s) :)
@[simp] theorem deferredStep_press : (deferredStep s).press = s.press :=
  (congrArg State.press (deferredStep_frame s) :)
@[simp] theorem deferredStep_pressTime : (deferredStep s).pressTime = s.pressTime :=
  (congrArg State.pressTime (deferredStep_frame s) :)
@[simp] theorem deferredStep_longTime : (deferredStep s).longTime = s.longTime :=
  (congrArg State.longTime (deferredStep_frame s) :)
@[simp] theorem deferredStep_operatorHold : (deferredStep s).operatorHold = s.operatorHold :=
  (congrArg State.operatorHold (deferredStep_frame s) :)
@[simp] theorem deferredStep_lines : (deferredStep s).lines = s.lines :=
  (congrArg State.lines (deferredStep_frame s) :)
@[simp] theorem deferredStep_highPtr : (deferredStep s).highPtr = s.highPtr :=
  (congrArg State.highPtr (deferredStep_frame s) :)
@[simp] theorem deferredStep_lowPtr : (deferredStep s).lowPtr = s.lowPtr :=
  (congrArg State.lowPtr (deferredStep_frame s) :)
@[simp] theorem deferredStep_openGrant : (deferredStep s).openGrant = s.openGrant :=
  (congrArg State.openGrant (deferredStep_frame s) :)
@[simp] theorem deferredStep_grantRecs : (deferredStep s).grantRecs = s.grantRecs :=
  (congrArg State.grantRecs (deferredStep_frame s) :)
@[simp] theorem deferredStep_watchdog : (deferredStep s).watchdog = s.watchdog :=
  (congrArg State.watchdog (deferredStep_frame s) :)
@[simp] theorem deferredStep_watchdogTimer : (deferredStep s).watchdogTimer = s.watchdogTimer :=
  (congrArg State.watchdogTimer (deferredStep_frame s) :)
@[simp] theorem deferredStep_olderArrival : (deferredStep s).olderArrival = s.olderArrival :=
  (congrArg State.olderArrival (deferredStep_frame s) :)
@[simp] theorem deferredStep_newerArrival : (deferredStep s).newerArrival = s.newerArrival :=
  (congrArg State.newerArrival (deferredStep_frame s) :)
@[simp] theorem deferredStep_substituteTimer : (deferredStep s).substituteTimer = s.substituteTimer :=
  (congrArg State.substituteTimer (deferredStep_frame s) :)
@[simp] theorem deferredStep_lastCycle : (deferredStep s).lastCycle = s.lastCycle :=
  (congrArg State.lastCycle (deferredStep_frame s) :)
@[simp] theorem deferredStep_due : (deferredStep s).due = s.due :=
  (congrArg State.due (deferredStep_frame s) :)
@[simp] theorem deferredStep_frameClass : (deferredStep s).frameClass = s.frameClass :=
  (congrArg State.frameClass (deferredStep_frame s) :)
@[simp] theorem deferredStep_inReset : (deferredStep s).inReset = s.inReset :=
  (congrArg State.inReset (deferredStep_frame s) :)
@[simp] theorem deferredStep_holdnLow : (deferredStep s).holdnLow = s.holdnLow :=
  (congrArg State.holdnLow (deferredStep_frame s) :)
@[simp] theorem deferredStep_sampled : (deferredStep s).sampled = s.sampled :=
  (congrArg State.sampled (deferredStep_frame s) :)
@[simp] theorem deferredStep_faultnLow : (deferredStep s).faultnLow = s.faultnLow :=
  (congrArg State.faultnLow (deferredStep_frame s) :)

/-- Closing the grant touches the grant, the arbiter records, the flags and the event queue (R148, R149). -/
theorem closeGrant_frame :
    closeGrant s = { s with
    openGrant := (closeGrant s).openGrant, grantRecs := (closeGrant s).grantRecs,
    flags := (closeGrant s).flags, events := (closeGrant s).events } := by
  unfold closeGrant
  repeat' split
  all_goals apply State.ext_fields <;> simp

@[simp] theorem closeGrant_pending : (closeGrant s).pending = s.pending :=
  (congrArg State.pending (closeGrant_frame s) :)
@[simp] theorem closeGrant_now : (closeGrant s).now = s.now :=
  (congrArg State.now (closeGrant_frame s) :)
@[simp] theorem closeGrant_draws : (closeGrant s).draws = s.draws :=
  (congrArg State.draws (closeGrant_frame s) :)
@[simp] theorem closeGrant_up : (closeGrant s).up = s.up :=
  (congrArg State.up (closeGrant_frame s) :)
@[simp] theorem closeGrant_down : (closeGrant s).down = s.down :=
  (congrArg State.down (closeGrant_frame s) :)
@[simp] theorem closeGrant_waiting : (closeGrant s).waiting = s.waiting :=
  (congrArg State.waiting (closeGrant_frame s) :)
@[simp] theorem closeGrant_bankPresent : (closeGrant s).bankPresent = s.bankPresent :=
  (congrArg State.bankPresent (closeGrant_frame s) :)
@[simp] theorem closeGrant_active : (closeGrant s).active = s.active :=
  (congrArg State.active (closeGrant_frame s) :)
@[simp] theorem closeGrant_verifiedCrc : (closeGrant s).verifiedCrc = s.verifiedCrc :=
  (congrArg State.verifiedCrc (closeGrant_frame s) :)
@[simp] theorem closeGrant_pendingBank : (closeGrant s).pendingBank = s.pendingBank :=
  (congrArg State.pendingBank (closeGrant_frame s) :)
@[simp] theorem closeGrant_pendingState : (closeGrant s).pendingState = s.pendingState :=
  (congrArg State.pendingState (closeGrant_frame s) :)
@[simp] theorem closeGrant_expectedCrc : (closeGrant s).expectedCrc = s.expectedCrc :=
  (congrArg State.expectedCrc (closeGrant_frame s) :)
@[simp] theorem closeGrant_pendingCrc : (closeGrant s).pendingCrc = s.pendingCrc :=
  (congrArg State.pendingCrc (closeGrant_frame s) :)
@[simp] theorem closeGrant_refresh : (closeGrant s).refresh = s.refresh :=
  (congrArg State.refresh (closeGrant_frame s) :)
@[simp] theorem closeGrant_axes : (closeGrant s).axes = s.axes :=
  (congrArg State.axes (closeGrant_frame s) :)
@[simp] theorem closeGrant_forwards : (closeGrant s).forwards = s.forwards :=
  (congrArg State.forwards (closeGrant_frame s) :)
@[simp] theorem closeGrant_reportedNodes : (closeGrant s).reportedNodes = s.reportedNodes :=
  (congrArg State.reportedNodes (closeGrant_frame s) :)
@[simp] theorem closeGrant_gangs : (closeGrant s).gangs = s.gangs :=
  (congrArg State.gangs (closeGrant_frame s) :)
@[simp] theorem closeGrant_fences : (closeGrant s).fences = s.fences :=
  (congrArg State.fences (closeGrant_frame s) :)
@[simp] theorem closeGrant_windClass : (closeGrant s).windClass = s.windClass :=
  (congrArg State.windClass (closeGrant_frame s) :)
@[simp] theorem closeGrant_weatherStale : (closeGrant s).weatherStale = s.weatherStale :=
  (congrArg State.weatherStale (closeGrant_frame s) :)
@[simp] theorem closeGrant_weatherTimer : (closeGrant s).weatherTimer = s.weatherTimer :=
  (congrArg State.weatherTimer (closeGrant_frame s) :)
@[simp] theorem closeGrant_press : (closeGrant s).press = s.press :=
  (congrArg State.press (closeGrant_frame s) :)
@[simp] theorem closeGrant_pressTime : (closeGrant s).pressTime = s.pressTime :=
  (congrArg State.pressTime (closeGrant_frame s) :)
@[simp] theorem closeGrant_longTime : (closeGrant s).longTime = s.longTime :=
  (congrArg State.longTime (closeGrant_frame s) :)
@[simp] theorem closeGrant_operatorHold : (closeGrant s).operatorHold = s.operatorHold :=
  (congrArg State.operatorHold (closeGrant_frame s) :)
@[simp] theorem closeGrant_lines : (closeGrant s).lines = s.lines :=
  (congrArg State.lines (closeGrant_frame s) :)
@[simp] theorem closeGrant_deferred : (closeGrant s).deferred = s.deferred :=
  (congrArg State.deferred (closeGrant_frame s) :)
@[simp] theorem closeGrant_backoff : (closeGrant s).backoff = s.backoff :=
  (congrArg State.backoff (closeGrant_frame s) :)
@[simp] theorem closeGrant_highPtr : (closeGrant s).highPtr = s.highPtr :=
  (congrArg State.highPtr (closeGrant_frame s) :)
@[simp] theorem closeGrant_lowPtr : (closeGrant s).lowPtr = s.lowPtr :=
  (congrArg State.lowPtr (closeGrant_frame s) :)
@[simp] theorem closeGrant_watchdog : (closeGrant s).watchdog = s.watchdog :=
  (congrArg State.watchdog (closeGrant_frame s) :)
@[simp] theorem closeGrant_watchdogTimer : (closeGrant s).watchdogTimer = s.watchdogTimer :=
  (congrArg State.watchdogTimer (closeGrant_frame s) :)
@[simp] theorem closeGrant_olderArrival : (closeGrant s).olderArrival = s.olderArrival :=
  (congrArg State.olderArrival (closeGrant_frame s) :)
@[simp] theorem closeGrant_newerArrival : (closeGrant s).newerArrival = s.newerArrival :=
  (congrArg State.newerArrival (closeGrant_frame s) :)
@[simp] theorem closeGrant_substituteTimer : (closeGrant s).substituteTimer = s.substituteTimer :=
  (congrArg State.substituteTimer (closeGrant_frame s) :)
@[simp] theorem closeGrant_lastCycle : (closeGrant s).lastCycle = s.lastCycle :=
  (congrArg State.lastCycle (closeGrant_frame s) :)
@[simp] theorem closeGrant_due : (closeGrant s).due = s.due :=
  (congrArg State.due (closeGrant_frame s) :)
@[simp] theorem closeGrant_frameClass : (closeGrant s).frameClass = s.frameClass :=
  (congrArg State.frameClass (closeGrant_frame s) :)
@[simp] theorem closeGrant_inReset : (closeGrant s).inReset = s.inReset :=
  (congrArg State.inReset (closeGrant_frame s) :)
@[simp] theorem closeGrant_holdnLow : (closeGrant s).holdnLow = s.holdnLow :=
  (congrArg State.holdnLow (closeGrant_frame s) :)
@[simp] theorem closeGrant_sampled : (closeGrant s).sampled = s.sampled :=
  (congrArg State.sampled (closeGrant_frame s) :)
@[simp] theorem closeGrant_faultnLow : (closeGrant s).faultnLow = s.faultnLow :=
  (congrArg State.faultnLow (closeGrant_frame s) :)

/-- The choice moves the pointers alone (R146). -/
theorem choose_frame :
    (choose s).1 = { s with
    highPtr := ((choose s).1).highPtr, lowPtr := ((choose s).1).lowPtr } := by
  unfold choose
  repeat' split
  all_goals rfl

@[simp] theorem choose_pending : ((choose s).1).pending = s.pending :=
  (congrArg State.pending (choose_frame s) :)
@[simp] theorem choose_now : ((choose s).1).now = s.now :=
  (congrArg State.now (choose_frame s) :)
@[simp] theorem choose_draws : ((choose s).1).draws = s.draws :=
  (congrArg State.draws (choose_frame s) :)
@[simp] theorem choose_up : ((choose s).1).up = s.up :=
  (congrArg State.up (choose_frame s) :)
@[simp] theorem choose_down : ((choose s).1).down = s.down :=
  (congrArg State.down (choose_frame s) :)
@[simp] theorem choose_waiting : ((choose s).1).waiting = s.waiting :=
  (congrArg State.waiting (choose_frame s) :)
@[simp] theorem choose_bankPresent : ((choose s).1).bankPresent = s.bankPresent :=
  (congrArg State.bankPresent (choose_frame s) :)
@[simp] theorem choose_active : ((choose s).1).active = s.active :=
  (congrArg State.active (choose_frame s) :)
@[simp] theorem choose_verifiedCrc : ((choose s).1).verifiedCrc = s.verifiedCrc :=
  (congrArg State.verifiedCrc (choose_frame s) :)
@[simp] theorem choose_pendingBank : ((choose s).1).pendingBank = s.pendingBank :=
  (congrArg State.pendingBank (choose_frame s) :)
@[simp] theorem choose_pendingState : ((choose s).1).pendingState = s.pendingState :=
  (congrArg State.pendingState (choose_frame s) :)
@[simp] theorem choose_expectedCrc : ((choose s).1).expectedCrc = s.expectedCrc :=
  (congrArg State.expectedCrc (choose_frame s) :)
@[simp] theorem choose_pendingCrc : ((choose s).1).pendingCrc = s.pendingCrc :=
  (congrArg State.pendingCrc (choose_frame s) :)
@[simp] theorem choose_refresh : ((choose s).1).refresh = s.refresh :=
  (congrArg State.refresh (choose_frame s) :)
@[simp] theorem choose_axes : ((choose s).1).axes = s.axes :=
  (congrArg State.axes (choose_frame s) :)
@[simp] theorem choose_forwards : ((choose s).1).forwards = s.forwards :=
  (congrArg State.forwards (choose_frame s) :)
@[simp] theorem choose_reportedNodes : ((choose s).1).reportedNodes = s.reportedNodes :=
  (congrArg State.reportedNodes (choose_frame s) :)
@[simp] theorem choose_gangs : ((choose s).1).gangs = s.gangs :=
  (congrArg State.gangs (choose_frame s) :)
@[simp] theorem choose_fences : ((choose s).1).fences = s.fences :=
  (congrArg State.fences (choose_frame s) :)
@[simp] theorem choose_windClass : ((choose s).1).windClass = s.windClass :=
  (congrArg State.windClass (choose_frame s) :)
@[simp] theorem choose_weatherStale : ((choose s).1).weatherStale = s.weatherStale :=
  (congrArg State.weatherStale (choose_frame s) :)
@[simp] theorem choose_weatherTimer : ((choose s).1).weatherTimer = s.weatherTimer :=
  (congrArg State.weatherTimer (choose_frame s) :)
@[simp] theorem choose_press : ((choose s).1).press = s.press :=
  (congrArg State.press (choose_frame s) :)
@[simp] theorem choose_pressTime : ((choose s).1).pressTime = s.pressTime :=
  (congrArg State.pressTime (choose_frame s) :)
@[simp] theorem choose_longTime : ((choose s).1).longTime = s.longTime :=
  (congrArg State.longTime (choose_frame s) :)
@[simp] theorem choose_operatorHold : ((choose s).1).operatorHold = s.operatorHold :=
  (congrArg State.operatorHold (choose_frame s) :)
@[simp] theorem choose_lines : ((choose s).1).lines = s.lines :=
  (congrArg State.lines (choose_frame s) :)
@[simp] theorem choose_deferred : ((choose s).1).deferred = s.deferred :=
  (congrArg State.deferred (choose_frame s) :)
@[simp] theorem choose_backoff : ((choose s).1).backoff = s.backoff :=
  (congrArg State.backoff (choose_frame s) :)
@[simp] theorem choose_openGrant : ((choose s).1).openGrant = s.openGrant :=
  (congrArg State.openGrant (choose_frame s) :)
@[simp] theorem choose_grantRecs : ((choose s).1).grantRecs = s.grantRecs :=
  (congrArg State.grantRecs (choose_frame s) :)
@[simp] theorem choose_watchdog : ((choose s).1).watchdog = s.watchdog :=
  (congrArg State.watchdog (choose_frame s) :)
@[simp] theorem choose_watchdogTimer : ((choose s).1).watchdogTimer = s.watchdogTimer :=
  (congrArg State.watchdogTimer (choose_frame s) :)
@[simp] theorem choose_olderArrival : ((choose s).1).olderArrival = s.olderArrival :=
  (congrArg State.olderArrival (choose_frame s) :)
@[simp] theorem choose_newerArrival : ((choose s).1).newerArrival = s.newerArrival :=
  (congrArg State.newerArrival (choose_frame s) :)
@[simp] theorem choose_substituteTimer : ((choose s).1).substituteTimer = s.substituteTimer :=
  (congrArg State.substituteTimer (choose_frame s) :)
@[simp] theorem choose_lastCycle : ((choose s).1).lastCycle = s.lastCycle :=
  (congrArg State.lastCycle (choose_frame s) :)
@[simp] theorem choose_flags : ((choose s).1).flags = s.flags :=
  (congrArg State.flags (choose_frame s) :)
@[simp] theorem choose_events : ((choose s).1).events = s.events :=
  (congrArg State.events (choose_frame s) :)
@[simp] theorem choose_due : ((choose s).1).due = s.due :=
  (congrArg State.due (choose_frame s) :)
@[simp] theorem choose_frameClass : ((choose s).1).frameClass = s.frameClass :=
  (congrArg State.frameClass (choose_frame s) :)
@[simp] theorem choose_inReset : ((choose s).1).inReset = s.inReset :=
  (congrArg State.inReset (choose_frame s) :)
@[simp] theorem choose_holdnLow : ((choose s).1).holdnLow = s.holdnLow :=
  (congrArg State.holdnLow (choose_frame s) :)
@[simp] theorem choose_sampled : ((choose s).1).sampled = s.sampled :=
  (congrArg State.sampled (choose_frame s) :)
@[simp] theorem choose_faultnLow : ((choose s).1).faultnLow = s.faultnLow :=
  (congrArg State.faultnLow (choose_frame s) :)

/-- The choice applied touches the grant and, for the bridge, the deferred table (R146 to R148). -/
theorem applyChoice_frame (w : Winner) :
    (applyChoice w s).1 = { s with
    openGrant := ((applyChoice w s).1).openGrant, deferred := ((applyChoice w s).1).deferred } := by
  unfold applyChoice issueRequest State.replaceEntry
  repeat' split
  all_goals rfl

@[simp] theorem applyChoice_pending (w : Winner) : ((applyChoice w s).1).pending = s.pending :=
  (congrArg State.pending (applyChoice_frame s w) :)
@[simp] theorem applyChoice_now (w : Winner) : ((applyChoice w s).1).now = s.now :=
  (congrArg State.now (applyChoice_frame s w) :)
@[simp] theorem applyChoice_draws (w : Winner) : ((applyChoice w s).1).draws = s.draws :=
  (congrArg State.draws (applyChoice_frame s w) :)
@[simp] theorem applyChoice_up (w : Winner) : ((applyChoice w s).1).up = s.up :=
  (congrArg State.up (applyChoice_frame s w) :)
@[simp] theorem applyChoice_down (w : Winner) : ((applyChoice w s).1).down = s.down :=
  (congrArg State.down (applyChoice_frame s w) :)
@[simp] theorem applyChoice_waiting (w : Winner) : ((applyChoice w s).1).waiting = s.waiting :=
  (congrArg State.waiting (applyChoice_frame s w) :)
@[simp] theorem applyChoice_bankPresent (w : Winner) : ((applyChoice w s).1).bankPresent = s.bankPresent :=
  (congrArg State.bankPresent (applyChoice_frame s w) :)
@[simp] theorem applyChoice_active (w : Winner) : ((applyChoice w s).1).active = s.active :=
  (congrArg State.active (applyChoice_frame s w) :)
@[simp] theorem applyChoice_verifiedCrc (w : Winner) : ((applyChoice w s).1).verifiedCrc = s.verifiedCrc :=
  (congrArg State.verifiedCrc (applyChoice_frame s w) :)
@[simp] theorem applyChoice_pendingBank (w : Winner) : ((applyChoice w s).1).pendingBank = s.pendingBank :=
  (congrArg State.pendingBank (applyChoice_frame s w) :)
@[simp] theorem applyChoice_pendingState (w : Winner) : ((applyChoice w s).1).pendingState = s.pendingState :=
  (congrArg State.pendingState (applyChoice_frame s w) :)
@[simp] theorem applyChoice_expectedCrc (w : Winner) : ((applyChoice w s).1).expectedCrc = s.expectedCrc :=
  (congrArg State.expectedCrc (applyChoice_frame s w) :)
@[simp] theorem applyChoice_pendingCrc (w : Winner) : ((applyChoice w s).1).pendingCrc = s.pendingCrc :=
  (congrArg State.pendingCrc (applyChoice_frame s w) :)
@[simp] theorem applyChoice_refresh (w : Winner) : ((applyChoice w s).1).refresh = s.refresh :=
  (congrArg State.refresh (applyChoice_frame s w) :)
@[simp] theorem applyChoice_axes (w : Winner) : ((applyChoice w s).1).axes = s.axes :=
  (congrArg State.axes (applyChoice_frame s w) :)
@[simp] theorem applyChoice_forwards (w : Winner) : ((applyChoice w s).1).forwards = s.forwards :=
  (congrArg State.forwards (applyChoice_frame s w) :)
@[simp] theorem applyChoice_reportedNodes (w : Winner) : ((applyChoice w s).1).reportedNodes = s.reportedNodes :=
  (congrArg State.reportedNodes (applyChoice_frame s w) :)
@[simp] theorem applyChoice_gangs (w : Winner) : ((applyChoice w s).1).gangs = s.gangs :=
  (congrArg State.gangs (applyChoice_frame s w) :)
@[simp] theorem applyChoice_fences (w : Winner) : ((applyChoice w s).1).fences = s.fences :=
  (congrArg State.fences (applyChoice_frame s w) :)
@[simp] theorem applyChoice_windClass (w : Winner) : ((applyChoice w s).1).windClass = s.windClass :=
  (congrArg State.windClass (applyChoice_frame s w) :)
@[simp] theorem applyChoice_weatherStale (w : Winner) : ((applyChoice w s).1).weatherStale = s.weatherStale :=
  (congrArg State.weatherStale (applyChoice_frame s w) :)
@[simp] theorem applyChoice_weatherTimer (w : Winner) : ((applyChoice w s).1).weatherTimer = s.weatherTimer :=
  (congrArg State.weatherTimer (applyChoice_frame s w) :)
@[simp] theorem applyChoice_press (w : Winner) : ((applyChoice w s).1).press = s.press :=
  (congrArg State.press (applyChoice_frame s w) :)
@[simp] theorem applyChoice_pressTime (w : Winner) : ((applyChoice w s).1).pressTime = s.pressTime :=
  (congrArg State.pressTime (applyChoice_frame s w) :)
@[simp] theorem applyChoice_longTime (w : Winner) : ((applyChoice w s).1).longTime = s.longTime :=
  (congrArg State.longTime (applyChoice_frame s w) :)
@[simp] theorem applyChoice_operatorHold (w : Winner) : ((applyChoice w s).1).operatorHold = s.operatorHold :=
  (congrArg State.operatorHold (applyChoice_frame s w) :)
@[simp] theorem applyChoice_lines (w : Winner) : ((applyChoice w s).1).lines = s.lines :=
  (congrArg State.lines (applyChoice_frame s w) :)
@[simp] theorem applyChoice_backoff (w : Winner) : ((applyChoice w s).1).backoff = s.backoff :=
  (congrArg State.backoff (applyChoice_frame s w) :)
@[simp] theorem applyChoice_highPtr (w : Winner) : ((applyChoice w s).1).highPtr = s.highPtr :=
  (congrArg State.highPtr (applyChoice_frame s w) :)
@[simp] theorem applyChoice_lowPtr (w : Winner) : ((applyChoice w s).1).lowPtr = s.lowPtr :=
  (congrArg State.lowPtr (applyChoice_frame s w) :)
@[simp] theorem applyChoice_grantRecs (w : Winner) : ((applyChoice w s).1).grantRecs = s.grantRecs :=
  (congrArg State.grantRecs (applyChoice_frame s w) :)
@[simp] theorem applyChoice_watchdog (w : Winner) : ((applyChoice w s).1).watchdog = s.watchdog :=
  (congrArg State.watchdog (applyChoice_frame s w) :)
@[simp] theorem applyChoice_watchdogTimer (w : Winner) : ((applyChoice w s).1).watchdogTimer = s.watchdogTimer :=
  (congrArg State.watchdogTimer (applyChoice_frame s w) :)
@[simp] theorem applyChoice_olderArrival (w : Winner) : ((applyChoice w s).1).olderArrival = s.olderArrival :=
  (congrArg State.olderArrival (applyChoice_frame s w) :)
@[simp] theorem applyChoice_newerArrival (w : Winner) : ((applyChoice w s).1).newerArrival = s.newerArrival :=
  (congrArg State.newerArrival (applyChoice_frame s w) :)
@[simp] theorem applyChoice_substituteTimer (w : Winner) : ((applyChoice w s).1).substituteTimer = s.substituteTimer :=
  (congrArg State.substituteTimer (applyChoice_frame s w) :)
@[simp] theorem applyChoice_lastCycle (w : Winner) : ((applyChoice w s).1).lastCycle = s.lastCycle :=
  (congrArg State.lastCycle (applyChoice_frame s w) :)
@[simp] theorem applyChoice_flags (w : Winner) : ((applyChoice w s).1).flags = s.flags :=
  (congrArg State.flags (applyChoice_frame s w) :)
@[simp] theorem applyChoice_events (w : Winner) : ((applyChoice w s).1).events = s.events :=
  (congrArg State.events (applyChoice_frame s w) :)
@[simp] theorem applyChoice_due (w : Winner) : ((applyChoice w s).1).due = s.due :=
  (congrArg State.due (applyChoice_frame s w) :)
@[simp] theorem applyChoice_frameClass (w : Winner) : ((applyChoice w s).1).frameClass = s.frameClass :=
  (congrArg State.frameClass (applyChoice_frame s w) :)
@[simp] theorem applyChoice_inReset (w : Winner) : ((applyChoice w s).1).inReset = s.inReset :=
  (congrArg State.inReset (applyChoice_frame s w) :)
@[simp] theorem applyChoice_holdnLow (w : Winner) : ((applyChoice w s).1).holdnLow = s.holdnLow :=
  (congrArg State.holdnLow (applyChoice_frame s w) :)
@[simp] theorem applyChoice_sampled (w : Winner) : ((applyChoice w s).1).sampled = s.sampled :=
  (congrArg State.sampled (applyChoice_frame s w) :)
@[simp] theorem applyChoice_faultnLow (w : Winner) : ((applyChoice w s).1).faultnLow = s.faultnLow :=
  (congrArg State.faultnLow (applyChoice_frame s w) :)

/-- The arbiter touches its own state, the deferred table, the flags and the event queue (R145 to R148). -/
theorem arbitrate_frame :
    (arbitrate s).1 = { s with
    openGrant := ((arbitrate s).1).openGrant, grantRecs := ((arbitrate s).1).grantRecs,
    highPtr := ((arbitrate s).1).highPtr, lowPtr := ((arbitrate s).1).lowPtr,
    deferred := ((arbitrate s).1).deferred, flags := ((arbitrate s).1).flags,
    events := ((arbitrate s).1).events } := by
  unfold arbitrate
  apply State.ext_fields <;> simp

@[simp] theorem arbitrate_pending : ((arbitrate s).1).pending = s.pending :=
  (congrArg State.pending (arbitrate_frame s) :)
@[simp] theorem arbitrate_now : ((arbitrate s).1).now = s.now :=
  (congrArg State.now (arbitrate_frame s) :)
@[simp] theorem arbitrate_draws : ((arbitrate s).1).draws = s.draws :=
  (congrArg State.draws (arbitrate_frame s) :)
@[simp] theorem arbitrate_up : ((arbitrate s).1).up = s.up :=
  (congrArg State.up (arbitrate_frame s) :)
@[simp] theorem arbitrate_down : ((arbitrate s).1).down = s.down :=
  (congrArg State.down (arbitrate_frame s) :)
@[simp] theorem arbitrate_waiting : ((arbitrate s).1).waiting = s.waiting :=
  (congrArg State.waiting (arbitrate_frame s) :)
@[simp] theorem arbitrate_bankPresent : ((arbitrate s).1).bankPresent = s.bankPresent :=
  (congrArg State.bankPresent (arbitrate_frame s) :)
@[simp] theorem arbitrate_active : ((arbitrate s).1).active = s.active :=
  (congrArg State.active (arbitrate_frame s) :)
@[simp] theorem arbitrate_verifiedCrc : ((arbitrate s).1).verifiedCrc = s.verifiedCrc :=
  (congrArg State.verifiedCrc (arbitrate_frame s) :)
@[simp] theorem arbitrate_pendingBank : ((arbitrate s).1).pendingBank = s.pendingBank :=
  (congrArg State.pendingBank (arbitrate_frame s) :)
@[simp] theorem arbitrate_pendingState : ((arbitrate s).1).pendingState = s.pendingState :=
  (congrArg State.pendingState (arbitrate_frame s) :)
@[simp] theorem arbitrate_expectedCrc : ((arbitrate s).1).expectedCrc = s.expectedCrc :=
  (congrArg State.expectedCrc (arbitrate_frame s) :)
@[simp] theorem arbitrate_pendingCrc : ((arbitrate s).1).pendingCrc = s.pendingCrc :=
  (congrArg State.pendingCrc (arbitrate_frame s) :)
@[simp] theorem arbitrate_refresh : ((arbitrate s).1).refresh = s.refresh :=
  (congrArg State.refresh (arbitrate_frame s) :)
@[simp] theorem arbitrate_axes : ((arbitrate s).1).axes = s.axes :=
  (congrArg State.axes (arbitrate_frame s) :)
@[simp] theorem arbitrate_forwards : ((arbitrate s).1).forwards = s.forwards :=
  (congrArg State.forwards (arbitrate_frame s) :)
@[simp] theorem arbitrate_reportedNodes : ((arbitrate s).1).reportedNodes = s.reportedNodes :=
  (congrArg State.reportedNodes (arbitrate_frame s) :)
@[simp] theorem arbitrate_gangs : ((arbitrate s).1).gangs = s.gangs :=
  (congrArg State.gangs (arbitrate_frame s) :)
@[simp] theorem arbitrate_fences : ((arbitrate s).1).fences = s.fences :=
  (congrArg State.fences (arbitrate_frame s) :)
@[simp] theorem arbitrate_windClass : ((arbitrate s).1).windClass = s.windClass :=
  (congrArg State.windClass (arbitrate_frame s) :)
@[simp] theorem arbitrate_weatherStale : ((arbitrate s).1).weatherStale = s.weatherStale :=
  (congrArg State.weatherStale (arbitrate_frame s) :)
@[simp] theorem arbitrate_weatherTimer : ((arbitrate s).1).weatherTimer = s.weatherTimer :=
  (congrArg State.weatherTimer (arbitrate_frame s) :)
@[simp] theorem arbitrate_press : ((arbitrate s).1).press = s.press :=
  (congrArg State.press (arbitrate_frame s) :)
@[simp] theorem arbitrate_pressTime : ((arbitrate s).1).pressTime = s.pressTime :=
  (congrArg State.pressTime (arbitrate_frame s) :)
@[simp] theorem arbitrate_longTime : ((arbitrate s).1).longTime = s.longTime :=
  (congrArg State.longTime (arbitrate_frame s) :)
@[simp] theorem arbitrate_operatorHold : ((arbitrate s).1).operatorHold = s.operatorHold :=
  (congrArg State.operatorHold (arbitrate_frame s) :)
@[simp] theorem arbitrate_lines : ((arbitrate s).1).lines = s.lines :=
  (congrArg State.lines (arbitrate_frame s) :)
@[simp] theorem arbitrate_backoff : ((arbitrate s).1).backoff = s.backoff :=
  (congrArg State.backoff (arbitrate_frame s) :)
@[simp] theorem arbitrate_watchdog : ((arbitrate s).1).watchdog = s.watchdog :=
  (congrArg State.watchdog (arbitrate_frame s) :)
@[simp] theorem arbitrate_watchdogTimer : ((arbitrate s).1).watchdogTimer = s.watchdogTimer :=
  (congrArg State.watchdogTimer (arbitrate_frame s) :)
@[simp] theorem arbitrate_olderArrival : ((arbitrate s).1).olderArrival = s.olderArrival :=
  (congrArg State.olderArrival (arbitrate_frame s) :)
@[simp] theorem arbitrate_newerArrival : ((arbitrate s).1).newerArrival = s.newerArrival :=
  (congrArg State.newerArrival (arbitrate_frame s) :)
@[simp] theorem arbitrate_substituteTimer : ((arbitrate s).1).substituteTimer = s.substituteTimer :=
  (congrArg State.substituteTimer (arbitrate_frame s) :)
@[simp] theorem arbitrate_lastCycle : ((arbitrate s).1).lastCycle = s.lastCycle :=
  (congrArg State.lastCycle (arbitrate_frame s) :)
@[simp] theorem arbitrate_due : ((arbitrate s).1).due = s.due :=
  (congrArg State.due (arbitrate_frame s) :)
@[simp] theorem arbitrate_frameClass : ((arbitrate s).1).frameClass = s.frameClass :=
  (congrArg State.frameClass (arbitrate_frame s) :)
@[simp] theorem arbitrate_inReset : ((arbitrate s).1).inReset = s.inReset :=
  (congrArg State.inReset (arbitrate_frame s) :)
@[simp] theorem arbitrate_holdnLow : ((arbitrate s).1).holdnLow = s.holdnLow :=
  (congrArg State.holdnLow (arbitrate_frame s) :)
@[simp] theorem arbitrate_sampled : ((arbitrate s).1).sampled = s.sampled :=
  (congrArg State.sampled (arbitrate_frame s) :)
@[simp] theorem arbitrate_faultnLow : ((arbitrate s).1).faultnLow = s.faultnLow :=
  (congrArg State.faultnLow (arbitrate_frame s) :)

/-- A frame handed downstream leaves the upstream port. -/
theorem State.handDown_frame (f : Frame) :
    s.hand .downstream f = { s with
    down := (s.hand .downstream f).down, flags := (s.hand .downstream f).flags,
    events := (s.hand .downstream f).events } := by
  unfold State.hand
  split
  · rfl
  · rw [s.offerOwn_frame]

/-- A frame handed upstream leaves the downstream port. -/
theorem State.handUp_frame (f : Frame) :
    s.hand .upstream f = { s with
    up := (s.hand .upstream f).up, flags := (s.hand .upstream f).flags,
    events := (s.hand .upstream f).events } := by
  unfold State.hand
  split
  · rfl
  · rw [s.offerOwn_frame]

@[simp] theorem State.hand_downstream_up (f : Frame) : (s.hand .downstream f).up = s.up :=
  (congrArg State.up (State.handDown_frame s f) :)
@[simp] theorem State.hand_upstream_down (f : Frame) : (s.hand .upstream f).down = s.down :=
  (congrArg State.down (State.handUp_frame s f) :)

/-- The frames handed downstream touch that port, the flags and the event queue (R157). -/
theorem handDownstream_frame (frame : Frame) (request : Option Frame) :
    handDownstream frame request s = { s with
    down := (handDownstream frame request s).down, flags := (handDownstream frame request s).flags,
    events := (handDownstream frame request s).events } := by
  unfold handDownstream
  split
  all_goals apply State.ext_fields <;> simp

@[simp] theorem handDownstream_pending (frame : Frame) (request : Option Frame) : (handDownstream frame request s).pending = s.pending :=
  (congrArg State.pending (handDownstream_frame s frame request) :)
@[simp] theorem handDownstream_now (frame : Frame) (request : Option Frame) : (handDownstream frame request s).now = s.now :=
  (congrArg State.now (handDownstream_frame s frame request) :)
@[simp] theorem handDownstream_draws (frame : Frame) (request : Option Frame) : (handDownstream frame request s).draws = s.draws :=
  (congrArg State.draws (handDownstream_frame s frame request) :)
@[simp] theorem handDownstream_up (frame : Frame) (request : Option Frame) : (handDownstream frame request s).up = s.up :=
  (congrArg State.up (handDownstream_frame s frame request) :)
@[simp] theorem handDownstream_waiting (frame : Frame) (request : Option Frame) : (handDownstream frame request s).waiting = s.waiting :=
  (congrArg State.waiting (handDownstream_frame s frame request) :)
@[simp] theorem handDownstream_bankPresent (frame : Frame) (request : Option Frame) : (handDownstream frame request s).bankPresent = s.bankPresent :=
  (congrArg State.bankPresent (handDownstream_frame s frame request) :)
@[simp] theorem handDownstream_active (frame : Frame) (request : Option Frame) : (handDownstream frame request s).active = s.active :=
  (congrArg State.active (handDownstream_frame s frame request) :)
@[simp] theorem handDownstream_verifiedCrc (frame : Frame) (request : Option Frame) : (handDownstream frame request s).verifiedCrc = s.verifiedCrc :=
  (congrArg State.verifiedCrc (handDownstream_frame s frame request) :)
@[simp] theorem handDownstream_pendingBank (frame : Frame) (request : Option Frame) : (handDownstream frame request s).pendingBank = s.pendingBank :=
  (congrArg State.pendingBank (handDownstream_frame s frame request) :)
@[simp] theorem handDownstream_pendingState (frame : Frame) (request : Option Frame) : (handDownstream frame request s).pendingState = s.pendingState :=
  (congrArg State.pendingState (handDownstream_frame s frame request) :)
@[simp] theorem handDownstream_expectedCrc (frame : Frame) (request : Option Frame) : (handDownstream frame request s).expectedCrc = s.expectedCrc :=
  (congrArg State.expectedCrc (handDownstream_frame s frame request) :)
@[simp] theorem handDownstream_pendingCrc (frame : Frame) (request : Option Frame) : (handDownstream frame request s).pendingCrc = s.pendingCrc :=
  (congrArg State.pendingCrc (handDownstream_frame s frame request) :)
@[simp] theorem handDownstream_refresh (frame : Frame) (request : Option Frame) : (handDownstream frame request s).refresh = s.refresh :=
  (congrArg State.refresh (handDownstream_frame s frame request) :)
@[simp] theorem handDownstream_axes (frame : Frame) (request : Option Frame) : (handDownstream frame request s).axes = s.axes :=
  (congrArg State.axes (handDownstream_frame s frame request) :)
@[simp] theorem handDownstream_forwards (frame : Frame) (request : Option Frame) : (handDownstream frame request s).forwards = s.forwards :=
  (congrArg State.forwards (handDownstream_frame s frame request) :)
@[simp] theorem handDownstream_reportedNodes (frame : Frame) (request : Option Frame) : (handDownstream frame request s).reportedNodes = s.reportedNodes :=
  (congrArg State.reportedNodes (handDownstream_frame s frame request) :)
@[simp] theorem handDownstream_gangs (frame : Frame) (request : Option Frame) : (handDownstream frame request s).gangs = s.gangs :=
  (congrArg State.gangs (handDownstream_frame s frame request) :)
@[simp] theorem handDownstream_fences (frame : Frame) (request : Option Frame) : (handDownstream frame request s).fences = s.fences :=
  (congrArg State.fences (handDownstream_frame s frame request) :)
@[simp] theorem handDownstream_windClass (frame : Frame) (request : Option Frame) : (handDownstream frame request s).windClass = s.windClass :=
  (congrArg State.windClass (handDownstream_frame s frame request) :)
@[simp] theorem handDownstream_weatherStale (frame : Frame) (request : Option Frame) : (handDownstream frame request s).weatherStale = s.weatherStale :=
  (congrArg State.weatherStale (handDownstream_frame s frame request) :)
@[simp] theorem handDownstream_weatherTimer (frame : Frame) (request : Option Frame) : (handDownstream frame request s).weatherTimer = s.weatherTimer :=
  (congrArg State.weatherTimer (handDownstream_frame s frame request) :)
@[simp] theorem handDownstream_press (frame : Frame) (request : Option Frame) : (handDownstream frame request s).press = s.press :=
  (congrArg State.press (handDownstream_frame s frame request) :)
@[simp] theorem handDownstream_pressTime (frame : Frame) (request : Option Frame) : (handDownstream frame request s).pressTime = s.pressTime :=
  (congrArg State.pressTime (handDownstream_frame s frame request) :)
@[simp] theorem handDownstream_longTime (frame : Frame) (request : Option Frame) : (handDownstream frame request s).longTime = s.longTime :=
  (congrArg State.longTime (handDownstream_frame s frame request) :)
@[simp] theorem handDownstream_operatorHold (frame : Frame) (request : Option Frame) : (handDownstream frame request s).operatorHold = s.operatorHold :=
  (congrArg State.operatorHold (handDownstream_frame s frame request) :)
@[simp] theorem handDownstream_lines (frame : Frame) (request : Option Frame) : (handDownstream frame request s).lines = s.lines :=
  (congrArg State.lines (handDownstream_frame s frame request) :)
@[simp] theorem handDownstream_deferred (frame : Frame) (request : Option Frame) : (handDownstream frame request s).deferred = s.deferred :=
  (congrArg State.deferred (handDownstream_frame s frame request) :)
@[simp] theorem handDownstream_backoff (frame : Frame) (request : Option Frame) : (handDownstream frame request s).backoff = s.backoff :=
  (congrArg State.backoff (handDownstream_frame s frame request) :)
@[simp] theorem handDownstream_highPtr (frame : Frame) (request : Option Frame) : (handDownstream frame request s).highPtr = s.highPtr :=
  (congrArg State.highPtr (handDownstream_frame s frame request) :)
@[simp] theorem handDownstream_lowPtr (frame : Frame) (request : Option Frame) : (handDownstream frame request s).lowPtr = s.lowPtr :=
  (congrArg State.lowPtr (handDownstream_frame s frame request) :)
@[simp] theorem handDownstream_openGrant (frame : Frame) (request : Option Frame) : (handDownstream frame request s).openGrant = s.openGrant :=
  (congrArg State.openGrant (handDownstream_frame s frame request) :)
@[simp] theorem handDownstream_grantRecs (frame : Frame) (request : Option Frame) : (handDownstream frame request s).grantRecs = s.grantRecs :=
  (congrArg State.grantRecs (handDownstream_frame s frame request) :)
@[simp] theorem handDownstream_watchdog (frame : Frame) (request : Option Frame) : (handDownstream frame request s).watchdog = s.watchdog :=
  (congrArg State.watchdog (handDownstream_frame s frame request) :)
@[simp] theorem handDownstream_watchdogTimer (frame : Frame) (request : Option Frame) : (handDownstream frame request s).watchdogTimer = s.watchdogTimer :=
  (congrArg State.watchdogTimer (handDownstream_frame s frame request) :)
@[simp] theorem handDownstream_olderArrival (frame : Frame) (request : Option Frame) : (handDownstream frame request s).olderArrival = s.olderArrival :=
  (congrArg State.olderArrival (handDownstream_frame s frame request) :)
@[simp] theorem handDownstream_newerArrival (frame : Frame) (request : Option Frame) : (handDownstream frame request s).newerArrival = s.newerArrival :=
  (congrArg State.newerArrival (handDownstream_frame s frame request) :)
@[simp] theorem handDownstream_substituteTimer (frame : Frame) (request : Option Frame) : (handDownstream frame request s).substituteTimer = s.substituteTimer :=
  (congrArg State.substituteTimer (handDownstream_frame s frame request) :)
@[simp] theorem handDownstream_lastCycle (frame : Frame) (request : Option Frame) : (handDownstream frame request s).lastCycle = s.lastCycle :=
  (congrArg State.lastCycle (handDownstream_frame s frame request) :)
@[simp] theorem handDownstream_due (frame : Frame) (request : Option Frame) : (handDownstream frame request s).due = s.due :=
  (congrArg State.due (handDownstream_frame s frame request) :)
@[simp] theorem handDownstream_frameClass (frame : Frame) (request : Option Frame) : (handDownstream frame request s).frameClass = s.frameClass :=
  (congrArg State.frameClass (handDownstream_frame s frame request) :)
@[simp] theorem handDownstream_inReset (frame : Frame) (request : Option Frame) : (handDownstream frame request s).inReset = s.inReset :=
  (congrArg State.inReset (handDownstream_frame s frame request) :)
@[simp] theorem handDownstream_holdnLow (frame : Frame) (request : Option Frame) : (handDownstream frame request s).holdnLow = s.holdnLow :=
  (congrArg State.holdnLow (handDownstream_frame s frame request) :)
@[simp] theorem handDownstream_sampled (frame : Frame) (request : Option Frame) : (handDownstream frame request s).sampled = s.sampled :=
  (congrArg State.sampled (handDownstream_frame s frame request) :)
@[simp] theorem handDownstream_faultnLow (frame : Frame) (request : Option Frame) : (handDownstream frame request s).faultnLow = s.faultnLow :=
  (congrArg State.faultnLow (handDownstream_frame s frame request) :)

/-- STATUS touches the upstream port, the flags and the event queue (R181, R182). -/
theorem sendStatus_frame (cycle : Byte) :
    sendStatus cycle s = { s with
    up := (sendStatus cycle s).up, flags := (sendStatus cycle s).flags,
    events := (sendStatus cycle s).events } := by
  unfold sendStatus
  apply State.ext_fields <;> simp

@[simp] theorem sendStatus_pending (cycle : Byte) : (sendStatus cycle s).pending = s.pending :=
  (congrArg State.pending (sendStatus_frame s cycle) :)
@[simp] theorem sendStatus_now (cycle : Byte) : (sendStatus cycle s).now = s.now :=
  (congrArg State.now (sendStatus_frame s cycle) :)
@[simp] theorem sendStatus_draws (cycle : Byte) : (sendStatus cycle s).draws = s.draws :=
  (congrArg State.draws (sendStatus_frame s cycle) :)
@[simp] theorem sendStatus_down (cycle : Byte) : (sendStatus cycle s).down = s.down :=
  (congrArg State.down (sendStatus_frame s cycle) :)
@[simp] theorem sendStatus_waiting (cycle : Byte) : (sendStatus cycle s).waiting = s.waiting :=
  (congrArg State.waiting (sendStatus_frame s cycle) :)
@[simp] theorem sendStatus_bankPresent (cycle : Byte) : (sendStatus cycle s).bankPresent = s.bankPresent :=
  (congrArg State.bankPresent (sendStatus_frame s cycle) :)
@[simp] theorem sendStatus_active (cycle : Byte) : (sendStatus cycle s).active = s.active :=
  (congrArg State.active (sendStatus_frame s cycle) :)
@[simp] theorem sendStatus_verifiedCrc (cycle : Byte) : (sendStatus cycle s).verifiedCrc = s.verifiedCrc :=
  (congrArg State.verifiedCrc (sendStatus_frame s cycle) :)
@[simp] theorem sendStatus_pendingBank (cycle : Byte) : (sendStatus cycle s).pendingBank = s.pendingBank :=
  (congrArg State.pendingBank (sendStatus_frame s cycle) :)
@[simp] theorem sendStatus_pendingState (cycle : Byte) : (sendStatus cycle s).pendingState = s.pendingState :=
  (congrArg State.pendingState (sendStatus_frame s cycle) :)
@[simp] theorem sendStatus_expectedCrc (cycle : Byte) : (sendStatus cycle s).expectedCrc = s.expectedCrc :=
  (congrArg State.expectedCrc (sendStatus_frame s cycle) :)
@[simp] theorem sendStatus_pendingCrc (cycle : Byte) : (sendStatus cycle s).pendingCrc = s.pendingCrc :=
  (congrArg State.pendingCrc (sendStatus_frame s cycle) :)
@[simp] theorem sendStatus_refresh (cycle : Byte) : (sendStatus cycle s).refresh = s.refresh :=
  (congrArg State.refresh (sendStatus_frame s cycle) :)
@[simp] theorem sendStatus_axes (cycle : Byte) : (sendStatus cycle s).axes = s.axes :=
  (congrArg State.axes (sendStatus_frame s cycle) :)
@[simp] theorem sendStatus_forwards (cycle : Byte) : (sendStatus cycle s).forwards = s.forwards :=
  (congrArg State.forwards (sendStatus_frame s cycle) :)
@[simp] theorem sendStatus_reportedNodes (cycle : Byte) : (sendStatus cycle s).reportedNodes = s.reportedNodes :=
  (congrArg State.reportedNodes (sendStatus_frame s cycle) :)
@[simp] theorem sendStatus_gangs (cycle : Byte) : (sendStatus cycle s).gangs = s.gangs :=
  (congrArg State.gangs (sendStatus_frame s cycle) :)
@[simp] theorem sendStatus_fences (cycle : Byte) : (sendStatus cycle s).fences = s.fences :=
  (congrArg State.fences (sendStatus_frame s cycle) :)
@[simp] theorem sendStatus_windClass (cycle : Byte) : (sendStatus cycle s).windClass = s.windClass :=
  (congrArg State.windClass (sendStatus_frame s cycle) :)
@[simp] theorem sendStatus_weatherStale (cycle : Byte) : (sendStatus cycle s).weatherStale = s.weatherStale :=
  (congrArg State.weatherStale (sendStatus_frame s cycle) :)
@[simp] theorem sendStatus_weatherTimer (cycle : Byte) : (sendStatus cycle s).weatherTimer = s.weatherTimer :=
  (congrArg State.weatherTimer (sendStatus_frame s cycle) :)
@[simp] theorem sendStatus_press (cycle : Byte) : (sendStatus cycle s).press = s.press :=
  (congrArg State.press (sendStatus_frame s cycle) :)
@[simp] theorem sendStatus_pressTime (cycle : Byte) : (sendStatus cycle s).pressTime = s.pressTime :=
  (congrArg State.pressTime (sendStatus_frame s cycle) :)
@[simp] theorem sendStatus_longTime (cycle : Byte) : (sendStatus cycle s).longTime = s.longTime :=
  (congrArg State.longTime (sendStatus_frame s cycle) :)
@[simp] theorem sendStatus_operatorHold (cycle : Byte) : (sendStatus cycle s).operatorHold = s.operatorHold :=
  (congrArg State.operatorHold (sendStatus_frame s cycle) :)
@[simp] theorem sendStatus_lines (cycle : Byte) : (sendStatus cycle s).lines = s.lines :=
  (congrArg State.lines (sendStatus_frame s cycle) :)
@[simp] theorem sendStatus_deferred (cycle : Byte) : (sendStatus cycle s).deferred = s.deferred :=
  (congrArg State.deferred (sendStatus_frame s cycle) :)
@[simp] theorem sendStatus_backoff (cycle : Byte) : (sendStatus cycle s).backoff = s.backoff :=
  (congrArg State.backoff (sendStatus_frame s cycle) :)
@[simp] theorem sendStatus_highPtr (cycle : Byte) : (sendStatus cycle s).highPtr = s.highPtr :=
  (congrArg State.highPtr (sendStatus_frame s cycle) :)
@[simp] theorem sendStatus_lowPtr (cycle : Byte) : (sendStatus cycle s).lowPtr = s.lowPtr :=
  (congrArg State.lowPtr (sendStatus_frame s cycle) :)
@[simp] theorem sendStatus_openGrant (cycle : Byte) : (sendStatus cycle s).openGrant = s.openGrant :=
  (congrArg State.openGrant (sendStatus_frame s cycle) :)
@[simp] theorem sendStatus_grantRecs (cycle : Byte) : (sendStatus cycle s).grantRecs = s.grantRecs :=
  (congrArg State.grantRecs (sendStatus_frame s cycle) :)
@[simp] theorem sendStatus_watchdog (cycle : Byte) : (sendStatus cycle s).watchdog = s.watchdog :=
  (congrArg State.watchdog (sendStatus_frame s cycle) :)
@[simp] theorem sendStatus_watchdogTimer (cycle : Byte) : (sendStatus cycle s).watchdogTimer = s.watchdogTimer :=
  (congrArg State.watchdogTimer (sendStatus_frame s cycle) :)
@[simp] theorem sendStatus_olderArrival (cycle : Byte) : (sendStatus cycle s).olderArrival = s.olderArrival :=
  (congrArg State.olderArrival (sendStatus_frame s cycle) :)
@[simp] theorem sendStatus_newerArrival (cycle : Byte) : (sendStatus cycle s).newerArrival = s.newerArrival :=
  (congrArg State.newerArrival (sendStatus_frame s cycle) :)
@[simp] theorem sendStatus_substituteTimer (cycle : Byte) : (sendStatus cycle s).substituteTimer = s.substituteTimer :=
  (congrArg State.substituteTimer (sendStatus_frame s cycle) :)
@[simp] theorem sendStatus_lastCycle (cycle : Byte) : (sendStatus cycle s).lastCycle = s.lastCycle :=
  (congrArg State.lastCycle (sendStatus_frame s cycle) :)
@[simp] theorem sendStatus_due (cycle : Byte) : (sendStatus cycle s).due = s.due :=
  (congrArg State.due (sendStatus_frame s cycle) :)
@[simp] theorem sendStatus_frameClass (cycle : Byte) : (sendStatus cycle s).frameClass = s.frameClass :=
  (congrArg State.frameClass (sendStatus_frame s cycle) :)
@[simp] theorem sendStatus_inReset (cycle : Byte) : (sendStatus cycle s).inReset = s.inReset :=
  (congrArg State.inReset (sendStatus_frame s cycle) :)
@[simp] theorem sendStatus_holdnLow (cycle : Byte) : (sendStatus cycle s).holdnLow = s.holdnLow :=
  (congrArg State.holdnLow (sendStatus_frame s cycle) :)
@[simp] theorem sendStatus_sampled (cycle : Byte) : (sendStatus cycle s).sampled = s.sampled :=
  (congrArg State.sampled (sendStatus_frame s cycle) :)
@[simp] theorem sendStatus_faultnLow (cycle : Byte) : (sendStatus cycle s).faultnLow = s.faultnLow :=
  (congrArg State.faultnLow (sendStatus_frame s cycle) :)

/-- Processing under the active bank leaves banks, weather, press, watchdog and waiting frames (R15). -/
theorem processLocal_frame (bytes : Frame) :
    processLocal bytes s = { s with
    lastCycle := (processLocal bytes s).lastCycle, draws := (processLocal bytes s).draws,
    axes := (processLocal bytes s).axes, forwards := (processLocal bytes s).forwards,
    reportedNodes := (processLocal bytes s).reportedNodes, gangs := (processLocal bytes s).gangs,
    fences := (processLocal bytes s).fences, lines := (processLocal bytes s).lines,
    flags := (processLocal bytes s).flags, events := (processLocal bytes s).events,
    deferred := (processLocal bytes s).deferred, backoff := (processLocal bytes s).backoff,
    openGrant := (processLocal bytes s).openGrant, grantRecs := (processLocal bytes s).grantRecs,
    highPtr := (processLocal bytes s).highPtr, lowPtr := (processLocal bytes s).lowPtr,
    down := (processLocal bytes s).down, up := (processLocal bytes s).up } := by
  unfold processLocal
  apply State.ext_fields <;> simp

@[simp] theorem processLocal_pending (bytes : Frame) : (processLocal bytes s).pending = s.pending :=
  (congrArg State.pending (processLocal_frame s bytes) :)
@[simp] theorem processLocal_now (bytes : Frame) : (processLocal bytes s).now = s.now :=
  (congrArg State.now (processLocal_frame s bytes) :)
@[simp] theorem processLocal_waiting (bytes : Frame) : (processLocal bytes s).waiting = s.waiting :=
  (congrArg State.waiting (processLocal_frame s bytes) :)
@[simp] theorem processLocal_bankPresent (bytes : Frame) : (processLocal bytes s).bankPresent = s.bankPresent :=
  (congrArg State.bankPresent (processLocal_frame s bytes) :)
@[simp] theorem processLocal_active (bytes : Frame) : (processLocal bytes s).active = s.active :=
  (congrArg State.active (processLocal_frame s bytes) :)
@[simp] theorem processLocal_verifiedCrc (bytes : Frame) : (processLocal bytes s).verifiedCrc = s.verifiedCrc :=
  (congrArg State.verifiedCrc (processLocal_frame s bytes) :)
@[simp] theorem processLocal_pendingBank (bytes : Frame) : (processLocal bytes s).pendingBank = s.pendingBank :=
  (congrArg State.pendingBank (processLocal_frame s bytes) :)
@[simp] theorem processLocal_pendingState (bytes : Frame) : (processLocal bytes s).pendingState = s.pendingState :=
  (congrArg State.pendingState (processLocal_frame s bytes) :)
@[simp] theorem processLocal_expectedCrc (bytes : Frame) : (processLocal bytes s).expectedCrc = s.expectedCrc :=
  (congrArg State.expectedCrc (processLocal_frame s bytes) :)
@[simp] theorem processLocal_pendingCrc (bytes : Frame) : (processLocal bytes s).pendingCrc = s.pendingCrc :=
  (congrArg State.pendingCrc (processLocal_frame s bytes) :)
@[simp] theorem processLocal_refresh (bytes : Frame) : (processLocal bytes s).refresh = s.refresh :=
  (congrArg State.refresh (processLocal_frame s bytes) :)
@[simp] theorem processLocal_windClass (bytes : Frame) : (processLocal bytes s).windClass = s.windClass :=
  (congrArg State.windClass (processLocal_frame s bytes) :)
@[simp] theorem processLocal_weatherStale (bytes : Frame) : (processLocal bytes s).weatherStale = s.weatherStale :=
  (congrArg State.weatherStale (processLocal_frame s bytes) :)
@[simp] theorem processLocal_weatherTimer (bytes : Frame) : (processLocal bytes s).weatherTimer = s.weatherTimer :=
  (congrArg State.weatherTimer (processLocal_frame s bytes) :)
@[simp] theorem processLocal_press (bytes : Frame) : (processLocal bytes s).press = s.press :=
  (congrArg State.press (processLocal_frame s bytes) :)
@[simp] theorem processLocal_pressTime (bytes : Frame) : (processLocal bytes s).pressTime = s.pressTime :=
  (congrArg State.pressTime (processLocal_frame s bytes) :)
@[simp] theorem processLocal_longTime (bytes : Frame) : (processLocal bytes s).longTime = s.longTime :=
  (congrArg State.longTime (processLocal_frame s bytes) :)
@[simp] theorem processLocal_operatorHold (bytes : Frame) : (processLocal bytes s).operatorHold = s.operatorHold :=
  (congrArg State.operatorHold (processLocal_frame s bytes) :)
@[simp] theorem processLocal_watchdog (bytes : Frame) : (processLocal bytes s).watchdog = s.watchdog :=
  (congrArg State.watchdog (processLocal_frame s bytes) :)
@[simp] theorem processLocal_watchdogTimer (bytes : Frame) : (processLocal bytes s).watchdogTimer = s.watchdogTimer :=
  (congrArg State.watchdogTimer (processLocal_frame s bytes) :)
@[simp] theorem processLocal_olderArrival (bytes : Frame) : (processLocal bytes s).olderArrival = s.olderArrival :=
  (congrArg State.olderArrival (processLocal_frame s bytes) :)
@[simp] theorem processLocal_newerArrival (bytes : Frame) : (processLocal bytes s).newerArrival = s.newerArrival :=
  (congrArg State.newerArrival (processLocal_frame s bytes) :)
@[simp] theorem processLocal_substituteTimer (bytes : Frame) : (processLocal bytes s).substituteTimer = s.substituteTimer :=
  (congrArg State.substituteTimer (processLocal_frame s bytes) :)
@[simp] theorem processLocal_due (bytes : Frame) : (processLocal bytes s).due = s.due :=
  (congrArg State.due (processLocal_frame s bytes) :)
@[simp] theorem processLocal_frameClass (bytes : Frame) : (processLocal bytes s).frameClass = s.frameClass :=
  (congrArg State.frameClass (processLocal_frame s bytes) :)
@[simp] theorem processLocal_inReset (bytes : Frame) : (processLocal bytes s).inReset = s.inReset :=
  (congrArg State.inReset (processLocal_frame s bytes) :)
@[simp] theorem processLocal_holdnLow (bytes : Frame) : (processLocal bytes s).holdnLow = s.holdnLow :=
  (congrArg State.holdnLow (processLocal_frame s bytes) :)
@[simp] theorem processLocal_sampled (bytes : Frame) : (processLocal bytes s).sampled = s.sampled :=
  (congrArg State.sampled (processLocal_frame s bytes) :)
@[simp] theorem processLocal_faultnLow (bytes : Frame) : (processLocal bytes s).faultnLow = s.faultnLow :=
  (congrArg State.faultnLow (processLocal_frame s bytes) :)

/-- Causes of a new gang touch the gang records (R29). -/
theorem causesOfNewGang_frame (g : Nat) :
    causesOfNewGang s g = { s with
    gangs := (causesOfNewGang s g).gangs } := by
  unfold causesOfNewGang
  simp only
  repeat' split
  all_goals apply State.ext_fields <;> simp

@[simp] theorem causesOfNewGang_pending (g : Nat) : (causesOfNewGang s g).pending = s.pending :=
  (congrArg State.pending (causesOfNewGang_frame s g) :)
@[simp] theorem causesOfNewGang_now (g : Nat) : (causesOfNewGang s g).now = s.now :=
  (congrArg State.now (causesOfNewGang_frame s g) :)
@[simp] theorem causesOfNewGang_draws (g : Nat) : (causesOfNewGang s g).draws = s.draws :=
  (congrArg State.draws (causesOfNewGang_frame s g) :)
@[simp] theorem causesOfNewGang_up (g : Nat) : (causesOfNewGang s g).up = s.up :=
  (congrArg State.up (causesOfNewGang_frame s g) :)
@[simp] theorem causesOfNewGang_down (g : Nat) : (causesOfNewGang s g).down = s.down :=
  (congrArg State.down (causesOfNewGang_frame s g) :)
@[simp] theorem causesOfNewGang_waiting (g : Nat) : (causesOfNewGang s g).waiting = s.waiting :=
  (congrArg State.waiting (causesOfNewGang_frame s g) :)
@[simp] theorem causesOfNewGang_bankPresent (g : Nat) : (causesOfNewGang s g).bankPresent = s.bankPresent :=
  (congrArg State.bankPresent (causesOfNewGang_frame s g) :)
@[simp] theorem causesOfNewGang_active (g : Nat) : (causesOfNewGang s g).active = s.active :=
  (congrArg State.active (causesOfNewGang_frame s g) :)
@[simp] theorem causesOfNewGang_verifiedCrc (g : Nat) : (causesOfNewGang s g).verifiedCrc = s.verifiedCrc :=
  (congrArg State.verifiedCrc (causesOfNewGang_frame s g) :)
@[simp] theorem causesOfNewGang_pendingBank (g : Nat) : (causesOfNewGang s g).pendingBank = s.pendingBank :=
  (congrArg State.pendingBank (causesOfNewGang_frame s g) :)
@[simp] theorem causesOfNewGang_pendingState (g : Nat) : (causesOfNewGang s g).pendingState = s.pendingState :=
  (congrArg State.pendingState (causesOfNewGang_frame s g) :)
@[simp] theorem causesOfNewGang_expectedCrc (g : Nat) : (causesOfNewGang s g).expectedCrc = s.expectedCrc :=
  (congrArg State.expectedCrc (causesOfNewGang_frame s g) :)
@[simp] theorem causesOfNewGang_pendingCrc (g : Nat) : (causesOfNewGang s g).pendingCrc = s.pendingCrc :=
  (congrArg State.pendingCrc (causesOfNewGang_frame s g) :)
@[simp] theorem causesOfNewGang_refresh (g : Nat) : (causesOfNewGang s g).refresh = s.refresh :=
  (congrArg State.refresh (causesOfNewGang_frame s g) :)
@[simp] theorem causesOfNewGang_axes (g : Nat) : (causesOfNewGang s g).axes = s.axes :=
  (congrArg State.axes (causesOfNewGang_frame s g) :)
@[simp] theorem causesOfNewGang_forwards (g : Nat) : (causesOfNewGang s g).forwards = s.forwards :=
  (congrArg State.forwards (causesOfNewGang_frame s g) :)
@[simp] theorem causesOfNewGang_reportedNodes (g : Nat) : (causesOfNewGang s g).reportedNodes = s.reportedNodes :=
  (congrArg State.reportedNodes (causesOfNewGang_frame s g) :)
@[simp] theorem causesOfNewGang_fences (g : Nat) : (causesOfNewGang s g).fences = s.fences :=
  (congrArg State.fences (causesOfNewGang_frame s g) :)
@[simp] theorem causesOfNewGang_windClass (g : Nat) : (causesOfNewGang s g).windClass = s.windClass :=
  (congrArg State.windClass (causesOfNewGang_frame s g) :)
@[simp] theorem causesOfNewGang_weatherStale (g : Nat) : (causesOfNewGang s g).weatherStale = s.weatherStale :=
  (congrArg State.weatherStale (causesOfNewGang_frame s g) :)
@[simp] theorem causesOfNewGang_weatherTimer (g : Nat) : (causesOfNewGang s g).weatherTimer = s.weatherTimer :=
  (congrArg State.weatherTimer (causesOfNewGang_frame s g) :)
@[simp] theorem causesOfNewGang_press (g : Nat) : (causesOfNewGang s g).press = s.press :=
  (congrArg State.press (causesOfNewGang_frame s g) :)
@[simp] theorem causesOfNewGang_pressTime (g : Nat) : (causesOfNewGang s g).pressTime = s.pressTime :=
  (congrArg State.pressTime (causesOfNewGang_frame s g) :)
@[simp] theorem causesOfNewGang_longTime (g : Nat) : (causesOfNewGang s g).longTime = s.longTime :=
  (congrArg State.longTime (causesOfNewGang_frame s g) :)
@[simp] theorem causesOfNewGang_operatorHold (g : Nat) : (causesOfNewGang s g).operatorHold = s.operatorHold :=
  (congrArg State.operatorHold (causesOfNewGang_frame s g) :)
@[simp] theorem causesOfNewGang_lines (g : Nat) : (causesOfNewGang s g).lines = s.lines :=
  (congrArg State.lines (causesOfNewGang_frame s g) :)
@[simp] theorem causesOfNewGang_deferred (g : Nat) : (causesOfNewGang s g).deferred = s.deferred :=
  (congrArg State.deferred (causesOfNewGang_frame s g) :)
@[simp] theorem causesOfNewGang_backoff (g : Nat) : (causesOfNewGang s g).backoff = s.backoff :=
  (congrArg State.backoff (causesOfNewGang_frame s g) :)
@[simp] theorem causesOfNewGang_highPtr (g : Nat) : (causesOfNewGang s g).highPtr = s.highPtr :=
  (congrArg State.highPtr (causesOfNewGang_frame s g) :)
@[simp] theorem causesOfNewGang_lowPtr (g : Nat) : (causesOfNewGang s g).lowPtr = s.lowPtr :=
  (congrArg State.lowPtr (causesOfNewGang_frame s g) :)
@[simp] theorem causesOfNewGang_openGrant (g : Nat) : (causesOfNewGang s g).openGrant = s.openGrant :=
  (congrArg State.openGrant (causesOfNewGang_frame s g) :)
@[simp] theorem causesOfNewGang_grantRecs (g : Nat) : (causesOfNewGang s g).grantRecs = s.grantRecs :=
  (congrArg State.grantRecs (causesOfNewGang_frame s g) :)
@[simp] theorem causesOfNewGang_watchdog (g : Nat) : (causesOfNewGang s g).watchdog = s.watchdog :=
  (congrArg State.watchdog (causesOfNewGang_frame s g) :)
@[simp] theorem causesOfNewGang_watchdogTimer (g : Nat) : (causesOfNewGang s g).watchdogTimer = s.watchdogTimer :=
  (congrArg State.watchdogTimer (causesOfNewGang_frame s g) :)
@[simp] theorem causesOfNewGang_olderArrival (g : Nat) : (causesOfNewGang s g).olderArrival = s.olderArrival :=
  (congrArg State.olderArrival (causesOfNewGang_frame s g) :)
@[simp] theorem causesOfNewGang_newerArrival (g : Nat) : (causesOfNewGang s g).newerArrival = s.newerArrival :=
  (congrArg State.newerArrival (causesOfNewGang_frame s g) :)
@[simp] theorem causesOfNewGang_substituteTimer (g : Nat) : (causesOfNewGang s g).substituteTimer = s.substituteTimer :=
  (congrArg State.substituteTimer (causesOfNewGang_frame s g) :)
@[simp] theorem causesOfNewGang_lastCycle (g : Nat) : (causesOfNewGang s g).lastCycle = s.lastCycle :=
  (congrArg State.lastCycle (causesOfNewGang_frame s g) :)
@[simp] theorem causesOfNewGang_flags (g : Nat) : (causesOfNewGang s g).flags = s.flags :=
  (congrArg State.flags (causesOfNewGang_frame s g) :)
@[simp] theorem causesOfNewGang_events (g : Nat) : (causesOfNewGang s g).events = s.events :=
  (congrArg State.events (causesOfNewGang_frame s g) :)
@[simp] theorem causesOfNewGang_due (g : Nat) : (causesOfNewGang s g).due = s.due :=
  (congrArg State.due (causesOfNewGang_frame s g) :)
@[simp] theorem causesOfNewGang_frameClass (g : Nat) : (causesOfNewGang s g).frameClass = s.frameClass :=
  (congrArg State.frameClass (causesOfNewGang_frame s g) :)
@[simp] theorem causesOfNewGang_inReset (g : Nat) : (causesOfNewGang s g).inReset = s.inReset :=
  (congrArg State.inReset (causesOfNewGang_frame s g) :)
@[simp] theorem causesOfNewGang_holdnLow (g : Nat) : (causesOfNewGang s g).holdnLow = s.holdnLow :=
  (congrArg State.holdnLow (causesOfNewGang_frame s g) :)
@[simp] theorem causesOfNewGang_sampled (g : Nat) : (causesOfNewGang s g).sampled = s.sampled :=
  (congrArg State.sampled (causesOfNewGang_frame s g) :)
@[simp] theorem causesOfNewGang_faultnLow (g : Nat) : (causesOfNewGang s g).faultnLow = s.faultnLow :=
  (congrArg State.faultnLow (causesOfNewGang_frame s g) :)

/-- Causes of a kept gang touch the gang records (R29). -/
theorem causesOfKeptGang_frame (g : Nat) :
    causesOfKeptGang s g = { s with
    gangs := (causesOfKeptGang s g).gangs } := by
  unfold causesOfKeptGang
  simp only
  repeat' split
  all_goals apply State.ext_fields <;> simp

@[simp] theorem causesOfKeptGang_pending (g : Nat) : (causesOfKeptGang s g).pending = s.pending :=
  (congrArg State.pending (causesOfKeptGang_frame s g) :)
@[simp] theorem causesOfKeptGang_now (g : Nat) : (causesOfKeptGang s g).now = s.now :=
  (congrArg State.now (causesOfKeptGang_frame s g) :)
@[simp] theorem causesOfKeptGang_draws (g : Nat) : (causesOfKeptGang s g).draws = s.draws :=
  (congrArg State.draws (causesOfKeptGang_frame s g) :)
@[simp] theorem causesOfKeptGang_up (g : Nat) : (causesOfKeptGang s g).up = s.up :=
  (congrArg State.up (causesOfKeptGang_frame s g) :)
@[simp] theorem causesOfKeptGang_down (g : Nat) : (causesOfKeptGang s g).down = s.down :=
  (congrArg State.down (causesOfKeptGang_frame s g) :)
@[simp] theorem causesOfKeptGang_waiting (g : Nat) : (causesOfKeptGang s g).waiting = s.waiting :=
  (congrArg State.waiting (causesOfKeptGang_frame s g) :)
@[simp] theorem causesOfKeptGang_bankPresent (g : Nat) : (causesOfKeptGang s g).bankPresent = s.bankPresent :=
  (congrArg State.bankPresent (causesOfKeptGang_frame s g) :)
@[simp] theorem causesOfKeptGang_active (g : Nat) : (causesOfKeptGang s g).active = s.active :=
  (congrArg State.active (causesOfKeptGang_frame s g) :)
@[simp] theorem causesOfKeptGang_verifiedCrc (g : Nat) : (causesOfKeptGang s g).verifiedCrc = s.verifiedCrc :=
  (congrArg State.verifiedCrc (causesOfKeptGang_frame s g) :)
@[simp] theorem causesOfKeptGang_pendingBank (g : Nat) : (causesOfKeptGang s g).pendingBank = s.pendingBank :=
  (congrArg State.pendingBank (causesOfKeptGang_frame s g) :)
@[simp] theorem causesOfKeptGang_pendingState (g : Nat) : (causesOfKeptGang s g).pendingState = s.pendingState :=
  (congrArg State.pendingState (causesOfKeptGang_frame s g) :)
@[simp] theorem causesOfKeptGang_expectedCrc (g : Nat) : (causesOfKeptGang s g).expectedCrc = s.expectedCrc :=
  (congrArg State.expectedCrc (causesOfKeptGang_frame s g) :)
@[simp] theorem causesOfKeptGang_pendingCrc (g : Nat) : (causesOfKeptGang s g).pendingCrc = s.pendingCrc :=
  (congrArg State.pendingCrc (causesOfKeptGang_frame s g) :)
@[simp] theorem causesOfKeptGang_refresh (g : Nat) : (causesOfKeptGang s g).refresh = s.refresh :=
  (congrArg State.refresh (causesOfKeptGang_frame s g) :)
@[simp] theorem causesOfKeptGang_axes (g : Nat) : (causesOfKeptGang s g).axes = s.axes :=
  (congrArg State.axes (causesOfKeptGang_frame s g) :)
@[simp] theorem causesOfKeptGang_forwards (g : Nat) : (causesOfKeptGang s g).forwards = s.forwards :=
  (congrArg State.forwards (causesOfKeptGang_frame s g) :)
@[simp] theorem causesOfKeptGang_reportedNodes (g : Nat) : (causesOfKeptGang s g).reportedNodes = s.reportedNodes :=
  (congrArg State.reportedNodes (causesOfKeptGang_frame s g) :)
@[simp] theorem causesOfKeptGang_fences (g : Nat) : (causesOfKeptGang s g).fences = s.fences :=
  (congrArg State.fences (causesOfKeptGang_frame s g) :)
@[simp] theorem causesOfKeptGang_windClass (g : Nat) : (causesOfKeptGang s g).windClass = s.windClass :=
  (congrArg State.windClass (causesOfKeptGang_frame s g) :)
@[simp] theorem causesOfKeptGang_weatherStale (g : Nat) : (causesOfKeptGang s g).weatherStale = s.weatherStale :=
  (congrArg State.weatherStale (causesOfKeptGang_frame s g) :)
@[simp] theorem causesOfKeptGang_weatherTimer (g : Nat) : (causesOfKeptGang s g).weatherTimer = s.weatherTimer :=
  (congrArg State.weatherTimer (causesOfKeptGang_frame s g) :)
@[simp] theorem causesOfKeptGang_press (g : Nat) : (causesOfKeptGang s g).press = s.press :=
  (congrArg State.press (causesOfKeptGang_frame s g) :)
@[simp] theorem causesOfKeptGang_pressTime (g : Nat) : (causesOfKeptGang s g).pressTime = s.pressTime :=
  (congrArg State.pressTime (causesOfKeptGang_frame s g) :)
@[simp] theorem causesOfKeptGang_longTime (g : Nat) : (causesOfKeptGang s g).longTime = s.longTime :=
  (congrArg State.longTime (causesOfKeptGang_frame s g) :)
@[simp] theorem causesOfKeptGang_operatorHold (g : Nat) : (causesOfKeptGang s g).operatorHold = s.operatorHold :=
  (congrArg State.operatorHold (causesOfKeptGang_frame s g) :)
@[simp] theorem causesOfKeptGang_lines (g : Nat) : (causesOfKeptGang s g).lines = s.lines :=
  (congrArg State.lines (causesOfKeptGang_frame s g) :)
@[simp] theorem causesOfKeptGang_deferred (g : Nat) : (causesOfKeptGang s g).deferred = s.deferred :=
  (congrArg State.deferred (causesOfKeptGang_frame s g) :)
@[simp] theorem causesOfKeptGang_backoff (g : Nat) : (causesOfKeptGang s g).backoff = s.backoff :=
  (congrArg State.backoff (causesOfKeptGang_frame s g) :)
@[simp] theorem causesOfKeptGang_highPtr (g : Nat) : (causesOfKeptGang s g).highPtr = s.highPtr :=
  (congrArg State.highPtr (causesOfKeptGang_frame s g) :)
@[simp] theorem causesOfKeptGang_lowPtr (g : Nat) : (causesOfKeptGang s g).lowPtr = s.lowPtr :=
  (congrArg State.lowPtr (causesOfKeptGang_frame s g) :)
@[simp] theorem causesOfKeptGang_openGrant (g : Nat) : (causesOfKeptGang s g).openGrant = s.openGrant :=
  (congrArg State.openGrant (causesOfKeptGang_frame s g) :)
@[simp] theorem causesOfKeptGang_grantRecs (g : Nat) : (causesOfKeptGang s g).grantRecs = s.grantRecs :=
  (congrArg State.grantRecs (causesOfKeptGang_frame s g) :)
@[simp] theorem causesOfKeptGang_watchdog (g : Nat) : (causesOfKeptGang s g).watchdog = s.watchdog :=
  (congrArg State.watchdog (causesOfKeptGang_frame s g) :)
@[simp] theorem causesOfKeptGang_watchdogTimer (g : Nat) : (causesOfKeptGang s g).watchdogTimer = s.watchdogTimer :=
  (congrArg State.watchdogTimer (causesOfKeptGang_frame s g) :)
@[simp] theorem causesOfKeptGang_olderArrival (g : Nat) : (causesOfKeptGang s g).olderArrival = s.olderArrival :=
  (congrArg State.olderArrival (causesOfKeptGang_frame s g) :)
@[simp] theorem causesOfKeptGang_newerArrival (g : Nat) : (causesOfKeptGang s g).newerArrival = s.newerArrival :=
  (congrArg State.newerArrival (causesOfKeptGang_frame s g) :)
@[simp] theorem causesOfKeptGang_substituteTimer (g : Nat) : (causesOfKeptGang s g).substituteTimer = s.substituteTimer :=
  (congrArg State.substituteTimer (causesOfKeptGang_frame s g) :)
@[simp] theorem causesOfKeptGang_lastCycle (g : Nat) : (causesOfKeptGang s g).lastCycle = s.lastCycle :=
  (congrArg State.lastCycle (causesOfKeptGang_frame s g) :)
@[simp] theorem causesOfKeptGang_flags (g : Nat) : (causesOfKeptGang s g).flags = s.flags :=
  (congrArg State.flags (causesOfKeptGang_frame s g) :)
@[simp] theorem causesOfKeptGang_events (g : Nat) : (causesOfKeptGang s g).events = s.events :=
  (congrArg State.events (causesOfKeptGang_frame s g) :)
@[simp] theorem causesOfKeptGang_due (g : Nat) : (causesOfKeptGang s g).due = s.due :=
  (congrArg State.due (causesOfKeptGang_frame s g) :)
@[simp] theorem causesOfKeptGang_frameClass (g : Nat) : (causesOfKeptGang s g).frameClass = s.frameClass :=
  (congrArg State.frameClass (causesOfKeptGang_frame s g) :)
@[simp] theorem causesOfKeptGang_inReset (g : Nat) : (causesOfKeptGang s g).inReset = s.inReset :=
  (congrArg State.inReset (causesOfKeptGang_frame s g) :)
@[simp] theorem causesOfKeptGang_holdnLow (g : Nat) : (causesOfKeptGang s g).holdnLow = s.holdnLow :=
  (congrArg State.holdnLow (causesOfKeptGang_frame s g) :)
@[simp] theorem causesOfKeptGang_sampled (g : Nat) : (causesOfKeptGang s g).sampled = s.sampled :=
  (congrArg State.sampled (causesOfKeptGang_frame s g) :)
@[simp] theorem causesOfKeptGang_faultnLow (g : Nat) : (causesOfKeptGang s g).faultnLow = s.faultnLow :=
  (congrArg State.faultnLow (causesOfKeptGang_frame s g) :)

/-- The causes of a swap touch the gang records (R29). -/
theorem causesAtSwap_frame (had : Nat → Bool) :
    causesAtSwap had s = { s with
    gangs := (causesAtSwap had s).gangs } := forGangs_gangs_frame s fun t g => by
    split
    · exact causesOfKeptGang_frame t g
    · exact causesOfNewGang_frame t g

@[simp] theorem causesAtSwap_pending (had : Nat → Bool) : (causesAtSwap had s).pending = s.pending :=
  (congrArg State.pending (causesAtSwap_frame s had) :)
@[simp] theorem causesAtSwap_now (had : Nat → Bool) : (causesAtSwap had s).now = s.now :=
  (congrArg State.now (causesAtSwap_frame s had) :)
@[simp] theorem causesAtSwap_draws (had : Nat → Bool) : (causesAtSwap had s).draws = s.draws :=
  (congrArg State.draws (causesAtSwap_frame s had) :)
@[simp] theorem causesAtSwap_up (had : Nat → Bool) : (causesAtSwap had s).up = s.up :=
  (congrArg State.up (causesAtSwap_frame s had) :)
@[simp] theorem causesAtSwap_down (had : Nat → Bool) : (causesAtSwap had s).down = s.down :=
  (congrArg State.down (causesAtSwap_frame s had) :)
@[simp] theorem causesAtSwap_waiting (had : Nat → Bool) : (causesAtSwap had s).waiting = s.waiting :=
  (congrArg State.waiting (causesAtSwap_frame s had) :)
@[simp] theorem causesAtSwap_bankPresent (had : Nat → Bool) : (causesAtSwap had s).bankPresent = s.bankPresent :=
  (congrArg State.bankPresent (causesAtSwap_frame s had) :)
@[simp] theorem causesAtSwap_active (had : Nat → Bool) : (causesAtSwap had s).active = s.active :=
  (congrArg State.active (causesAtSwap_frame s had) :)
@[simp] theorem causesAtSwap_verifiedCrc (had : Nat → Bool) : (causesAtSwap had s).verifiedCrc = s.verifiedCrc :=
  (congrArg State.verifiedCrc (causesAtSwap_frame s had) :)
@[simp] theorem causesAtSwap_pendingBank (had : Nat → Bool) : (causesAtSwap had s).pendingBank = s.pendingBank :=
  (congrArg State.pendingBank (causesAtSwap_frame s had) :)
@[simp] theorem causesAtSwap_pendingState (had : Nat → Bool) : (causesAtSwap had s).pendingState = s.pendingState :=
  (congrArg State.pendingState (causesAtSwap_frame s had) :)
@[simp] theorem causesAtSwap_expectedCrc (had : Nat → Bool) : (causesAtSwap had s).expectedCrc = s.expectedCrc :=
  (congrArg State.expectedCrc (causesAtSwap_frame s had) :)
@[simp] theorem causesAtSwap_pendingCrc (had : Nat → Bool) : (causesAtSwap had s).pendingCrc = s.pendingCrc :=
  (congrArg State.pendingCrc (causesAtSwap_frame s had) :)
@[simp] theorem causesAtSwap_refresh (had : Nat → Bool) : (causesAtSwap had s).refresh = s.refresh :=
  (congrArg State.refresh (causesAtSwap_frame s had) :)
@[simp] theorem causesAtSwap_axes (had : Nat → Bool) : (causesAtSwap had s).axes = s.axes :=
  (congrArg State.axes (causesAtSwap_frame s had) :)
@[simp] theorem causesAtSwap_forwards (had : Nat → Bool) : (causesAtSwap had s).forwards = s.forwards :=
  (congrArg State.forwards (causesAtSwap_frame s had) :)
@[simp] theorem causesAtSwap_reportedNodes (had : Nat → Bool) : (causesAtSwap had s).reportedNodes = s.reportedNodes :=
  (congrArg State.reportedNodes (causesAtSwap_frame s had) :)
@[simp] theorem causesAtSwap_fences (had : Nat → Bool) : (causesAtSwap had s).fences = s.fences :=
  (congrArg State.fences (causesAtSwap_frame s had) :)
@[simp] theorem causesAtSwap_windClass (had : Nat → Bool) : (causesAtSwap had s).windClass = s.windClass :=
  (congrArg State.windClass (causesAtSwap_frame s had) :)
@[simp] theorem causesAtSwap_weatherStale (had : Nat → Bool) : (causesAtSwap had s).weatherStale = s.weatherStale :=
  (congrArg State.weatherStale (causesAtSwap_frame s had) :)
@[simp] theorem causesAtSwap_weatherTimer (had : Nat → Bool) : (causesAtSwap had s).weatherTimer = s.weatherTimer :=
  (congrArg State.weatherTimer (causesAtSwap_frame s had) :)
@[simp] theorem causesAtSwap_press (had : Nat → Bool) : (causesAtSwap had s).press = s.press :=
  (congrArg State.press (causesAtSwap_frame s had) :)
@[simp] theorem causesAtSwap_pressTime (had : Nat → Bool) : (causesAtSwap had s).pressTime = s.pressTime :=
  (congrArg State.pressTime (causesAtSwap_frame s had) :)
@[simp] theorem causesAtSwap_longTime (had : Nat → Bool) : (causesAtSwap had s).longTime = s.longTime :=
  (congrArg State.longTime (causesAtSwap_frame s had) :)
@[simp] theorem causesAtSwap_operatorHold (had : Nat → Bool) : (causesAtSwap had s).operatorHold = s.operatorHold :=
  (congrArg State.operatorHold (causesAtSwap_frame s had) :)
@[simp] theorem causesAtSwap_lines (had : Nat → Bool) : (causesAtSwap had s).lines = s.lines :=
  (congrArg State.lines (causesAtSwap_frame s had) :)
@[simp] theorem causesAtSwap_deferred (had : Nat → Bool) : (causesAtSwap had s).deferred = s.deferred :=
  (congrArg State.deferred (causesAtSwap_frame s had) :)
@[simp] theorem causesAtSwap_backoff (had : Nat → Bool) : (causesAtSwap had s).backoff = s.backoff :=
  (congrArg State.backoff (causesAtSwap_frame s had) :)
@[simp] theorem causesAtSwap_highPtr (had : Nat → Bool) : (causesAtSwap had s).highPtr = s.highPtr :=
  (congrArg State.highPtr (causesAtSwap_frame s had) :)
@[simp] theorem causesAtSwap_lowPtr (had : Nat → Bool) : (causesAtSwap had s).lowPtr = s.lowPtr :=
  (congrArg State.lowPtr (causesAtSwap_frame s had) :)
@[simp] theorem causesAtSwap_openGrant (had : Nat → Bool) : (causesAtSwap had s).openGrant = s.openGrant :=
  (congrArg State.openGrant (causesAtSwap_frame s had) :)
@[simp] theorem causesAtSwap_grantRecs (had : Nat → Bool) : (causesAtSwap had s).grantRecs = s.grantRecs :=
  (congrArg State.grantRecs (causesAtSwap_frame s had) :)
@[simp] theorem causesAtSwap_watchdog (had : Nat → Bool) : (causesAtSwap had s).watchdog = s.watchdog :=
  (congrArg State.watchdog (causesAtSwap_frame s had) :)
@[simp] theorem causesAtSwap_watchdogTimer (had : Nat → Bool) : (causesAtSwap had s).watchdogTimer = s.watchdogTimer :=
  (congrArg State.watchdogTimer (causesAtSwap_frame s had) :)
@[simp] theorem causesAtSwap_olderArrival (had : Nat → Bool) : (causesAtSwap had s).olderArrival = s.olderArrival :=
  (congrArg State.olderArrival (causesAtSwap_frame s had) :)
@[simp] theorem causesAtSwap_newerArrival (had : Nat → Bool) : (causesAtSwap had s).newerArrival = s.newerArrival :=
  (congrArg State.newerArrival (causesAtSwap_frame s had) :)
@[simp] theorem causesAtSwap_substituteTimer (had : Nat → Bool) : (causesAtSwap had s).substituteTimer = s.substituteTimer :=
  (congrArg State.substituteTimer (causesAtSwap_frame s had) :)
@[simp] theorem causesAtSwap_lastCycle (had : Nat → Bool) : (causesAtSwap had s).lastCycle = s.lastCycle :=
  (congrArg State.lastCycle (causesAtSwap_frame s had) :)
@[simp] theorem causesAtSwap_flags (had : Nat → Bool) : (causesAtSwap had s).flags = s.flags :=
  (congrArg State.flags (causesAtSwap_frame s had) :)
@[simp] theorem causesAtSwap_events (had : Nat → Bool) : (causesAtSwap had s).events = s.events :=
  (congrArg State.events (causesAtSwap_frame s had) :)
@[simp] theorem causesAtSwap_due (had : Nat → Bool) : (causesAtSwap had s).due = s.due :=
  (congrArg State.due (causesAtSwap_frame s had) :)
@[simp] theorem causesAtSwap_frameClass (had : Nat → Bool) : (causesAtSwap had s).frameClass = s.frameClass :=
  (congrArg State.frameClass (causesAtSwap_frame s had) :)
@[simp] theorem causesAtSwap_inReset (had : Nat → Bool) : (causesAtSwap had s).inReset = s.inReset :=
  (congrArg State.inReset (causesAtSwap_frame s had) :)
@[simp] theorem causesAtSwap_holdnLow (had : Nat → Bool) : (causesAtSwap had s).holdnLow = s.holdnLow :=
  (congrArg State.holdnLow (causesAtSwap_frame s had) :)
@[simp] theorem causesAtSwap_sampled (had : Nat → Bool) : (causesAtSwap had s).sampled = s.sampled :=
  (congrArg State.sampled (causesAtSwap_frame s had) :)
@[simp] theorem causesAtSwap_faultnLow (had : Nat → Bool) : (causesAtSwap had s).faultnLow = s.faultnLow :=
  (congrArg State.faultnLow (causesAtSwap_frame s had) :)

/-- The weather of a swap touches the wind state, the flags and the event queue (R95). -/
theorem weatherAtSwap_frame :
    weatherAtSwap s = { s with
    windClass := (weatherAtSwap s).windClass, frameClass := none,
    weatherStale := (weatherAtSwap s).weatherStale,
    weatherTimer := (weatherAtSwap s).weatherTimer, flags := (weatherAtSwap s).flags,
    events := (weatherAtSwap s).events } := by
  unfold weatherAtSwap
  rw [State.setWindClass_frame]; rfl

@[simp] theorem weatherAtSwap_pending : (weatherAtSwap s).pending = s.pending :=
  (congrArg State.pending (weatherAtSwap_frame s) :)
@[simp] theorem weatherAtSwap_now : (weatherAtSwap s).now = s.now :=
  (congrArg State.now (weatherAtSwap_frame s) :)
@[simp] theorem weatherAtSwap_draws : (weatherAtSwap s).draws = s.draws :=
  (congrArg State.draws (weatherAtSwap_frame s) :)
@[simp] theorem weatherAtSwap_up : (weatherAtSwap s).up = s.up :=
  (congrArg State.up (weatherAtSwap_frame s) :)
@[simp] theorem weatherAtSwap_down : (weatherAtSwap s).down = s.down :=
  (congrArg State.down (weatherAtSwap_frame s) :)
@[simp] theorem weatherAtSwap_waiting : (weatherAtSwap s).waiting = s.waiting :=
  (congrArg State.waiting (weatherAtSwap_frame s) :)
@[simp] theorem weatherAtSwap_bankPresent : (weatherAtSwap s).bankPresent = s.bankPresent :=
  (congrArg State.bankPresent (weatherAtSwap_frame s) :)
@[simp] theorem weatherAtSwap_active : (weatherAtSwap s).active = s.active :=
  (congrArg State.active (weatherAtSwap_frame s) :)
@[simp] theorem weatherAtSwap_verifiedCrc : (weatherAtSwap s).verifiedCrc = s.verifiedCrc :=
  (congrArg State.verifiedCrc (weatherAtSwap_frame s) :)
@[simp] theorem weatherAtSwap_pendingBank : (weatherAtSwap s).pendingBank = s.pendingBank :=
  (congrArg State.pendingBank (weatherAtSwap_frame s) :)
@[simp] theorem weatherAtSwap_pendingState : (weatherAtSwap s).pendingState = s.pendingState :=
  (congrArg State.pendingState (weatherAtSwap_frame s) :)
@[simp] theorem weatherAtSwap_expectedCrc : (weatherAtSwap s).expectedCrc = s.expectedCrc :=
  (congrArg State.expectedCrc (weatherAtSwap_frame s) :)
@[simp] theorem weatherAtSwap_pendingCrc : (weatherAtSwap s).pendingCrc = s.pendingCrc :=
  (congrArg State.pendingCrc (weatherAtSwap_frame s) :)
@[simp] theorem weatherAtSwap_refresh : (weatherAtSwap s).refresh = s.refresh :=
  (congrArg State.refresh (weatherAtSwap_frame s) :)
@[simp] theorem weatherAtSwap_axes : (weatherAtSwap s).axes = s.axes :=
  (congrArg State.axes (weatherAtSwap_frame s) :)
@[simp] theorem weatherAtSwap_forwards : (weatherAtSwap s).forwards = s.forwards :=
  (congrArg State.forwards (weatherAtSwap_frame s) :)
@[simp] theorem weatherAtSwap_reportedNodes : (weatherAtSwap s).reportedNodes = s.reportedNodes :=
  (congrArg State.reportedNodes (weatherAtSwap_frame s) :)
@[simp] theorem weatherAtSwap_gangs : (weatherAtSwap s).gangs = s.gangs :=
  (congrArg State.gangs (weatherAtSwap_frame s) :)
@[simp] theorem weatherAtSwap_fences : (weatherAtSwap s).fences = s.fences :=
  (congrArg State.fences (weatherAtSwap_frame s) :)
@[simp] theorem weatherAtSwap_press : (weatherAtSwap s).press = s.press :=
  (congrArg State.press (weatherAtSwap_frame s) :)
@[simp] theorem weatherAtSwap_pressTime : (weatherAtSwap s).pressTime = s.pressTime :=
  (congrArg State.pressTime (weatherAtSwap_frame s) :)
@[simp] theorem weatherAtSwap_longTime : (weatherAtSwap s).longTime = s.longTime :=
  (congrArg State.longTime (weatherAtSwap_frame s) :)
@[simp] theorem weatherAtSwap_operatorHold : (weatherAtSwap s).operatorHold = s.operatorHold :=
  (congrArg State.operatorHold (weatherAtSwap_frame s) :)
@[simp] theorem weatherAtSwap_lines : (weatherAtSwap s).lines = s.lines :=
  (congrArg State.lines (weatherAtSwap_frame s) :)
@[simp] theorem weatherAtSwap_deferred : (weatherAtSwap s).deferred = s.deferred :=
  (congrArg State.deferred (weatherAtSwap_frame s) :)
@[simp] theorem weatherAtSwap_backoff : (weatherAtSwap s).backoff = s.backoff :=
  (congrArg State.backoff (weatherAtSwap_frame s) :)
@[simp] theorem weatherAtSwap_highPtr : (weatherAtSwap s).highPtr = s.highPtr :=
  (congrArg State.highPtr (weatherAtSwap_frame s) :)
@[simp] theorem weatherAtSwap_lowPtr : (weatherAtSwap s).lowPtr = s.lowPtr :=
  (congrArg State.lowPtr (weatherAtSwap_frame s) :)
@[simp] theorem weatherAtSwap_openGrant : (weatherAtSwap s).openGrant = s.openGrant :=
  (congrArg State.openGrant (weatherAtSwap_frame s) :)
@[simp] theorem weatherAtSwap_grantRecs : (weatherAtSwap s).grantRecs = s.grantRecs :=
  (congrArg State.grantRecs (weatherAtSwap_frame s) :)
@[simp] theorem weatherAtSwap_watchdog : (weatherAtSwap s).watchdog = s.watchdog :=
  (congrArg State.watchdog (weatherAtSwap_frame s) :)
@[simp] theorem weatherAtSwap_watchdogTimer : (weatherAtSwap s).watchdogTimer = s.watchdogTimer :=
  (congrArg State.watchdogTimer (weatherAtSwap_frame s) :)
@[simp] theorem weatherAtSwap_olderArrival : (weatherAtSwap s).olderArrival = s.olderArrival :=
  (congrArg State.olderArrival (weatherAtSwap_frame s) :)
@[simp] theorem weatherAtSwap_newerArrival : (weatherAtSwap s).newerArrival = s.newerArrival :=
  (congrArg State.newerArrival (weatherAtSwap_frame s) :)
@[simp] theorem weatherAtSwap_substituteTimer : (weatherAtSwap s).substituteTimer = s.substituteTimer :=
  (congrArg State.substituteTimer (weatherAtSwap_frame s) :)
@[simp] theorem weatherAtSwap_lastCycle : (weatherAtSwap s).lastCycle = s.lastCycle :=
  (congrArg State.lastCycle (weatherAtSwap_frame s) :)
@[simp] theorem weatherAtSwap_due : (weatherAtSwap s).due = s.due :=
  (congrArg State.due (weatherAtSwap_frame s) :)
@[simp] theorem weatherAtSwap_frameClass : (weatherAtSwap s).frameClass = none :=
  (congrArg State.frameClass (weatherAtSwap_frame s) :)
@[simp] theorem weatherAtSwap_inReset : (weatherAtSwap s).inReset = s.inReset :=
  (congrArg State.inReset (weatherAtSwap_frame s) :)
@[simp] theorem weatherAtSwap_holdnLow : (weatherAtSwap s).holdnLow = s.holdnLow :=
  (congrArg State.holdnLow (weatherAtSwap_frame s) :)
@[simp] theorem weatherAtSwap_sampled : (weatherAtSwap s).sampled = s.sampled :=
  (congrArg State.sampled (weatherAtSwap_frame s) :)
@[simp] theorem weatherAtSwap_faultnLow : (weatherAtSwap s).faultnLow = s.faultnLow :=
  (congrArg State.faultnLow (weatherAtSwap_frame s) :)

/-- The watchdog of a swap touches its state, timer and history (R176). -/
theorem watchdogAtSwap_frame (o : Origin) :
    watchdogAtSwap o s = { s with
    olderArrival := (watchdogAtSwap o s).olderArrival, newerArrival := (watchdogAtSwap o s).newerArrival,
    watchdog := (watchdogAtSwap o s).watchdog, watchdogTimer := (watchdogAtSwap o s).watchdogTimer } := by
  unfold watchdogAtSwap
  cases o <;> cases hw : s.watchdog <;> simp only
  all_goals repeat' split
  all_goals rfl

@[simp] theorem watchdogAtSwap_pending (o : Origin) : (watchdogAtSwap o s).pending = s.pending :=
  (congrArg State.pending (watchdogAtSwap_frame s o) :)
@[simp] theorem watchdogAtSwap_now (o : Origin) : (watchdogAtSwap o s).now = s.now :=
  (congrArg State.now (watchdogAtSwap_frame s o) :)
@[simp] theorem watchdogAtSwap_draws (o : Origin) : (watchdogAtSwap o s).draws = s.draws :=
  (congrArg State.draws (watchdogAtSwap_frame s o) :)
@[simp] theorem watchdogAtSwap_up (o : Origin) : (watchdogAtSwap o s).up = s.up :=
  (congrArg State.up (watchdogAtSwap_frame s o) :)
@[simp] theorem watchdogAtSwap_down (o : Origin) : (watchdogAtSwap o s).down = s.down :=
  (congrArg State.down (watchdogAtSwap_frame s o) :)
@[simp] theorem watchdogAtSwap_waiting (o : Origin) : (watchdogAtSwap o s).waiting = s.waiting :=
  (congrArg State.waiting (watchdogAtSwap_frame s o) :)
@[simp] theorem watchdogAtSwap_bankPresent (o : Origin) : (watchdogAtSwap o s).bankPresent = s.bankPresent :=
  (congrArg State.bankPresent (watchdogAtSwap_frame s o) :)
@[simp] theorem watchdogAtSwap_active (o : Origin) : (watchdogAtSwap o s).active = s.active :=
  (congrArg State.active (watchdogAtSwap_frame s o) :)
@[simp] theorem watchdogAtSwap_verifiedCrc (o : Origin) : (watchdogAtSwap o s).verifiedCrc = s.verifiedCrc :=
  (congrArg State.verifiedCrc (watchdogAtSwap_frame s o) :)
@[simp] theorem watchdogAtSwap_pendingBank (o : Origin) : (watchdogAtSwap o s).pendingBank = s.pendingBank :=
  (congrArg State.pendingBank (watchdogAtSwap_frame s o) :)
@[simp] theorem watchdogAtSwap_pendingState (o : Origin) : (watchdogAtSwap o s).pendingState = s.pendingState :=
  (congrArg State.pendingState (watchdogAtSwap_frame s o) :)
@[simp] theorem watchdogAtSwap_expectedCrc (o : Origin) : (watchdogAtSwap o s).expectedCrc = s.expectedCrc :=
  (congrArg State.expectedCrc (watchdogAtSwap_frame s o) :)
@[simp] theorem watchdogAtSwap_pendingCrc (o : Origin) : (watchdogAtSwap o s).pendingCrc = s.pendingCrc :=
  (congrArg State.pendingCrc (watchdogAtSwap_frame s o) :)
@[simp] theorem watchdogAtSwap_refresh (o : Origin) : (watchdogAtSwap o s).refresh = s.refresh :=
  (congrArg State.refresh (watchdogAtSwap_frame s o) :)
@[simp] theorem watchdogAtSwap_axes (o : Origin) : (watchdogAtSwap o s).axes = s.axes :=
  (congrArg State.axes (watchdogAtSwap_frame s o) :)
@[simp] theorem watchdogAtSwap_forwards (o : Origin) : (watchdogAtSwap o s).forwards = s.forwards :=
  (congrArg State.forwards (watchdogAtSwap_frame s o) :)
@[simp] theorem watchdogAtSwap_reportedNodes (o : Origin) : (watchdogAtSwap o s).reportedNodes = s.reportedNodes :=
  (congrArg State.reportedNodes (watchdogAtSwap_frame s o) :)
@[simp] theorem watchdogAtSwap_gangs (o : Origin) : (watchdogAtSwap o s).gangs = s.gangs :=
  (congrArg State.gangs (watchdogAtSwap_frame s o) :)
@[simp] theorem watchdogAtSwap_fences (o : Origin) : (watchdogAtSwap o s).fences = s.fences :=
  (congrArg State.fences (watchdogAtSwap_frame s o) :)
@[simp] theorem watchdogAtSwap_windClass (o : Origin) : (watchdogAtSwap o s).windClass = s.windClass :=
  (congrArg State.windClass (watchdogAtSwap_frame s o) :)
@[simp] theorem watchdogAtSwap_weatherStale (o : Origin) : (watchdogAtSwap o s).weatherStale = s.weatherStale :=
  (congrArg State.weatherStale (watchdogAtSwap_frame s o) :)
@[simp] theorem watchdogAtSwap_weatherTimer (o : Origin) : (watchdogAtSwap o s).weatherTimer = s.weatherTimer :=
  (congrArg State.weatherTimer (watchdogAtSwap_frame s o) :)
@[simp] theorem watchdogAtSwap_press (o : Origin) : (watchdogAtSwap o s).press = s.press :=
  (congrArg State.press (watchdogAtSwap_frame s o) :)
@[simp] theorem watchdogAtSwap_pressTime (o : Origin) : (watchdogAtSwap o s).pressTime = s.pressTime :=
  (congrArg State.pressTime (watchdogAtSwap_frame s o) :)
@[simp] theorem watchdogAtSwap_longTime (o : Origin) : (watchdogAtSwap o s).longTime = s.longTime :=
  (congrArg State.longTime (watchdogAtSwap_frame s o) :)
@[simp] theorem watchdogAtSwap_operatorHold (o : Origin) : (watchdogAtSwap o s).operatorHold = s.operatorHold :=
  (congrArg State.operatorHold (watchdogAtSwap_frame s o) :)
@[simp] theorem watchdogAtSwap_lines (o : Origin) : (watchdogAtSwap o s).lines = s.lines :=
  (congrArg State.lines (watchdogAtSwap_frame s o) :)
@[simp] theorem watchdogAtSwap_deferred (o : Origin) : (watchdogAtSwap o s).deferred = s.deferred :=
  (congrArg State.deferred (watchdogAtSwap_frame s o) :)
@[simp] theorem watchdogAtSwap_backoff (o : Origin) : (watchdogAtSwap o s).backoff = s.backoff :=
  (congrArg State.backoff (watchdogAtSwap_frame s o) :)
@[simp] theorem watchdogAtSwap_highPtr (o : Origin) : (watchdogAtSwap o s).highPtr = s.highPtr :=
  (congrArg State.highPtr (watchdogAtSwap_frame s o) :)
@[simp] theorem watchdogAtSwap_lowPtr (o : Origin) : (watchdogAtSwap o s).lowPtr = s.lowPtr :=
  (congrArg State.lowPtr (watchdogAtSwap_frame s o) :)
@[simp] theorem watchdogAtSwap_openGrant (o : Origin) : (watchdogAtSwap o s).openGrant = s.openGrant :=
  (congrArg State.openGrant (watchdogAtSwap_frame s o) :)
@[simp] theorem watchdogAtSwap_grantRecs (o : Origin) : (watchdogAtSwap o s).grantRecs = s.grantRecs :=
  (congrArg State.grantRecs (watchdogAtSwap_frame s o) :)
@[simp] theorem watchdogAtSwap_substituteTimer (o : Origin) : (watchdogAtSwap o s).substituteTimer = s.substituteTimer :=
  (congrArg State.substituteTimer (watchdogAtSwap_frame s o) :)
@[simp] theorem watchdogAtSwap_lastCycle (o : Origin) : (watchdogAtSwap o s).lastCycle = s.lastCycle :=
  (congrArg State.lastCycle (watchdogAtSwap_frame s o) :)
@[simp] theorem watchdogAtSwap_flags (o : Origin) : (watchdogAtSwap o s).flags = s.flags :=
  (congrArg State.flags (watchdogAtSwap_frame s o) :)
@[simp] theorem watchdogAtSwap_events (o : Origin) : (watchdogAtSwap o s).events = s.events :=
  (congrArg State.events (watchdogAtSwap_frame s o) :)
@[simp] theorem watchdogAtSwap_due (o : Origin) : (watchdogAtSwap o s).due = s.due :=
  (congrArg State.due (watchdogAtSwap_frame s o) :)
@[simp] theorem watchdogAtSwap_frameClass (o : Origin) : (watchdogAtSwap o s).frameClass = s.frameClass :=
  (congrArg State.frameClass (watchdogAtSwap_frame s o) :)
@[simp] theorem watchdogAtSwap_inReset (o : Origin) : (watchdogAtSwap o s).inReset = s.inReset :=
  (congrArg State.inReset (watchdogAtSwap_frame s o) :)
@[simp] theorem watchdogAtSwap_holdnLow (o : Origin) : (watchdogAtSwap o s).holdnLow = s.holdnLow :=
  (congrArg State.holdnLow (watchdogAtSwap_frame s o) :)
@[simp] theorem watchdogAtSwap_sampled (o : Origin) : (watchdogAtSwap o s).sampled = s.sampled :=
  (congrArg State.sampled (watchdogAtSwap_frame s o) :)
@[simp] theorem watchdogAtSwap_faultnLow (o : Origin) : (watchdogAtSwap o s).faultnLow = s.faultnLow :=
  (congrArg State.faultnLow (watchdogAtSwap_frame s o) :)

/-- The deferred request unit of a swap touches its table and backoff (R142). -/
theorem deferredAtSwap_frame (old : Bank) :
    deferredAtSwap old s = { s with
    deferred := (deferredAtSwap old s).deferred, backoff := (deferredAtSwap old s).backoff } := by unfold deferredAtSwap; split <;> rfl

@[simp] theorem deferredAtSwap_pending (old : Bank) : (deferredAtSwap old s).pending = s.pending :=
  (congrArg State.pending (deferredAtSwap_frame s old) :)
@[simp] theorem deferredAtSwap_now (old : Bank) : (deferredAtSwap old s).now = s.now :=
  (congrArg State.now (deferredAtSwap_frame s old) :)
@[simp] theorem deferredAtSwap_draws (old : Bank) : (deferredAtSwap old s).draws = s.draws :=
  (congrArg State.draws (deferredAtSwap_frame s old) :)
@[simp] theorem deferredAtSwap_up (old : Bank) : (deferredAtSwap old s).up = s.up :=
  (congrArg State.up (deferredAtSwap_frame s old) :)
@[simp] theorem deferredAtSwap_down (old : Bank) : (deferredAtSwap old s).down = s.down :=
  (congrArg State.down (deferredAtSwap_frame s old) :)
@[simp] theorem deferredAtSwap_waiting (old : Bank) : (deferredAtSwap old s).waiting = s.waiting :=
  (congrArg State.waiting (deferredAtSwap_frame s old) :)
@[simp] theorem deferredAtSwap_bankPresent (old : Bank) : (deferredAtSwap old s).bankPresent = s.bankPresent :=
  (congrArg State.bankPresent (deferredAtSwap_frame s old) :)
@[simp] theorem deferredAtSwap_active (old : Bank) : (deferredAtSwap old s).active = s.active :=
  (congrArg State.active (deferredAtSwap_frame s old) :)
@[simp] theorem deferredAtSwap_verifiedCrc (old : Bank) : (deferredAtSwap old s).verifiedCrc = s.verifiedCrc :=
  (congrArg State.verifiedCrc (deferredAtSwap_frame s old) :)
@[simp] theorem deferredAtSwap_pendingBank (old : Bank) : (deferredAtSwap old s).pendingBank = s.pendingBank :=
  (congrArg State.pendingBank (deferredAtSwap_frame s old) :)
@[simp] theorem deferredAtSwap_pendingState (old : Bank) : (deferredAtSwap old s).pendingState = s.pendingState :=
  (congrArg State.pendingState (deferredAtSwap_frame s old) :)
@[simp] theorem deferredAtSwap_expectedCrc (old : Bank) : (deferredAtSwap old s).expectedCrc = s.expectedCrc :=
  (congrArg State.expectedCrc (deferredAtSwap_frame s old) :)
@[simp] theorem deferredAtSwap_pendingCrc (old : Bank) : (deferredAtSwap old s).pendingCrc = s.pendingCrc :=
  (congrArg State.pendingCrc (deferredAtSwap_frame s old) :)
@[simp] theorem deferredAtSwap_refresh (old : Bank) : (deferredAtSwap old s).refresh = s.refresh :=
  (congrArg State.refresh (deferredAtSwap_frame s old) :)
@[simp] theorem deferredAtSwap_axes (old : Bank) : (deferredAtSwap old s).axes = s.axes :=
  (congrArg State.axes (deferredAtSwap_frame s old) :)
@[simp] theorem deferredAtSwap_forwards (old : Bank) : (deferredAtSwap old s).forwards = s.forwards :=
  (congrArg State.forwards (deferredAtSwap_frame s old) :)
@[simp] theorem deferredAtSwap_reportedNodes (old : Bank) : (deferredAtSwap old s).reportedNodes = s.reportedNodes :=
  (congrArg State.reportedNodes (deferredAtSwap_frame s old) :)
@[simp] theorem deferredAtSwap_gangs (old : Bank) : (deferredAtSwap old s).gangs = s.gangs :=
  (congrArg State.gangs (deferredAtSwap_frame s old) :)
@[simp] theorem deferredAtSwap_fences (old : Bank) : (deferredAtSwap old s).fences = s.fences :=
  (congrArg State.fences (deferredAtSwap_frame s old) :)
@[simp] theorem deferredAtSwap_windClass (old : Bank) : (deferredAtSwap old s).windClass = s.windClass :=
  (congrArg State.windClass (deferredAtSwap_frame s old) :)
@[simp] theorem deferredAtSwap_weatherStale (old : Bank) : (deferredAtSwap old s).weatherStale = s.weatherStale :=
  (congrArg State.weatherStale (deferredAtSwap_frame s old) :)
@[simp] theorem deferredAtSwap_weatherTimer (old : Bank) : (deferredAtSwap old s).weatherTimer = s.weatherTimer :=
  (congrArg State.weatherTimer (deferredAtSwap_frame s old) :)
@[simp] theorem deferredAtSwap_press (old : Bank) : (deferredAtSwap old s).press = s.press :=
  (congrArg State.press (deferredAtSwap_frame s old) :)
@[simp] theorem deferredAtSwap_pressTime (old : Bank) : (deferredAtSwap old s).pressTime = s.pressTime :=
  (congrArg State.pressTime (deferredAtSwap_frame s old) :)
@[simp] theorem deferredAtSwap_longTime (old : Bank) : (deferredAtSwap old s).longTime = s.longTime :=
  (congrArg State.longTime (deferredAtSwap_frame s old) :)
@[simp] theorem deferredAtSwap_operatorHold (old : Bank) : (deferredAtSwap old s).operatorHold = s.operatorHold :=
  (congrArg State.operatorHold (deferredAtSwap_frame s old) :)
@[simp] theorem deferredAtSwap_lines (old : Bank) : (deferredAtSwap old s).lines = s.lines :=
  (congrArg State.lines (deferredAtSwap_frame s old) :)
@[simp] theorem deferredAtSwap_highPtr (old : Bank) : (deferredAtSwap old s).highPtr = s.highPtr :=
  (congrArg State.highPtr (deferredAtSwap_frame s old) :)
@[simp] theorem deferredAtSwap_lowPtr (old : Bank) : (deferredAtSwap old s).lowPtr = s.lowPtr :=
  (congrArg State.lowPtr (deferredAtSwap_frame s old) :)
@[simp] theorem deferredAtSwap_openGrant (old : Bank) : (deferredAtSwap old s).openGrant = s.openGrant :=
  (congrArg State.openGrant (deferredAtSwap_frame s old) :)
@[simp] theorem deferredAtSwap_grantRecs (old : Bank) : (deferredAtSwap old s).grantRecs = s.grantRecs :=
  (congrArg State.grantRecs (deferredAtSwap_frame s old) :)
@[simp] theorem deferredAtSwap_watchdog (old : Bank) : (deferredAtSwap old s).watchdog = s.watchdog :=
  (congrArg State.watchdog (deferredAtSwap_frame s old) :)
@[simp] theorem deferredAtSwap_watchdogTimer (old : Bank) : (deferredAtSwap old s).watchdogTimer = s.watchdogTimer :=
  (congrArg State.watchdogTimer (deferredAtSwap_frame s old) :)
@[simp] theorem deferredAtSwap_olderArrival (old : Bank) : (deferredAtSwap old s).olderArrival = s.olderArrival :=
  (congrArg State.olderArrival (deferredAtSwap_frame s old) :)
@[simp] theorem deferredAtSwap_newerArrival (old : Bank) : (deferredAtSwap old s).newerArrival = s.newerArrival :=
  (congrArg State.newerArrival (deferredAtSwap_frame s old) :)
@[simp] theorem deferredAtSwap_substituteTimer (old : Bank) : (deferredAtSwap old s).substituteTimer = s.substituteTimer :=
  (congrArg State.substituteTimer (deferredAtSwap_frame s old) :)
@[simp] theorem deferredAtSwap_lastCycle (old : Bank) : (deferredAtSwap old s).lastCycle = s.lastCycle :=
  (congrArg State.lastCycle (deferredAtSwap_frame s old) :)
@[simp] theorem deferredAtSwap_flags (old : Bank) : (deferredAtSwap old s).flags = s.flags :=
  (congrArg State.flags (deferredAtSwap_frame s old) :)
@[simp] theorem deferredAtSwap_events (old : Bank) : (deferredAtSwap old s).events = s.events :=
  (congrArg State.events (deferredAtSwap_frame s old) :)
@[simp] theorem deferredAtSwap_due (old : Bank) : (deferredAtSwap old s).due = s.due :=
  (congrArg State.due (deferredAtSwap_frame s old) :)
@[simp] theorem deferredAtSwap_frameClass (old : Bank) : (deferredAtSwap old s).frameClass = s.frameClass :=
  (congrArg State.frameClass (deferredAtSwap_frame s old) :)
@[simp] theorem deferredAtSwap_inReset (old : Bank) : (deferredAtSwap old s).inReset = s.inReset :=
  (congrArg State.inReset (deferredAtSwap_frame s old) :)
@[simp] theorem deferredAtSwap_holdnLow (old : Bank) : (deferredAtSwap old s).holdnLow = s.holdnLow :=
  (congrArg State.holdnLow (deferredAtSwap_frame s old) :)
@[simp] theorem deferredAtSwap_sampled (old : Bank) : (deferredAtSwap old s).sampled = s.sampled :=
  (congrArg State.sampled (deferredAtSwap_frame s old) :)
@[simp] theorem deferredAtSwap_faultnLow (old : Bank) : (deferredAtSwap old s).faultnLow = s.faultnLow :=
  (congrArg State.faultnLow (deferredAtSwap_frame s old) :)

/-- The swap (R124). -/
theorem swapBanks_frame (o : Origin) :
    swapBanks o s = { s with
    active := (swapBanks o s).active, bankPresent := (swapBanks o s).bankPresent,
    verifiedCrc := (swapBanks o s).verifiedCrc, pendingBank := (swapBanks o s).pendingBank,
    pendingState := (swapBanks o s).pendingState, pendingCrc := (swapBanks o s).pendingCrc,
    expectedCrc := (swapBanks o s).expectedCrc, axes := (swapBanks o s).axes,
    forwards := (swapBanks o s).forwards, gangs := (swapBanks o s).gangs,
    fences := (swapBanks o s).fences, windClass := (swapBanks o s).windClass, frameClass := none,
    weatherStale := (swapBanks o s).weatherStale, weatherTimer := (swapBanks o s).weatherTimer,
    flags := (swapBanks o s).flags, events := (swapBanks o s).events,
    openGrant := (swapBanks o s).openGrant, grantRecs := (swapBanks o s).grantRecs,
    deferred := (swapBanks o s).deferred, backoff := (swapBanks o s).backoff,
    olderArrival := (swapBanks o s).olderArrival, newerArrival := (swapBanks o s).newerArrival,
    watchdog := (swapBanks o s).watchdog, watchdogTimer := (swapBanks o s).watchdogTimer,
    lines := (swapBanks o s).lines } := by
  unfold swapBanks linesAtSwap
  apply State.ext_fields <;> simp [arbiterAtSwap, gangsAtSwap, axesAtSwap, exchangeBanks]

@[simp] theorem swapBanks_pending (o : Origin) : (swapBanks o s).pending = s.pending :=
  (congrArg State.pending (swapBanks_frame s o) :)
@[simp] theorem swapBanks_now (o : Origin) : (swapBanks o s).now = s.now :=
  (congrArg State.now (swapBanks_frame s o) :)
@[simp] theorem swapBanks_draws (o : Origin) : (swapBanks o s).draws = s.draws :=
  (congrArg State.draws (swapBanks_frame s o) :)
@[simp] theorem swapBanks_up (o : Origin) : (swapBanks o s).up = s.up :=
  (congrArg State.up (swapBanks_frame s o) :)
@[simp] theorem swapBanks_down (o : Origin) : (swapBanks o s).down = s.down :=
  (congrArg State.down (swapBanks_frame s o) :)
@[simp] theorem swapBanks_waiting (o : Origin) : (swapBanks o s).waiting = s.waiting :=
  (congrArg State.waiting (swapBanks_frame s o) :)
@[simp] theorem swapBanks_refresh (o : Origin) : (swapBanks o s).refresh = s.refresh :=
  (congrArg State.refresh (swapBanks_frame s o) :)
@[simp] theorem swapBanks_reportedNodes (o : Origin) : (swapBanks o s).reportedNodes = s.reportedNodes :=
  (congrArg State.reportedNodes (swapBanks_frame s o) :)
@[simp] theorem swapBanks_press (o : Origin) : (swapBanks o s).press = s.press :=
  (congrArg State.press (swapBanks_frame s o) :)
@[simp] theorem swapBanks_pressTime (o : Origin) : (swapBanks o s).pressTime = s.pressTime :=
  (congrArg State.pressTime (swapBanks_frame s o) :)
@[simp] theorem swapBanks_longTime (o : Origin) : (swapBanks o s).longTime = s.longTime :=
  (congrArg State.longTime (swapBanks_frame s o) :)
@[simp] theorem swapBanks_operatorHold (o : Origin) : (swapBanks o s).operatorHold = s.operatorHold :=
  (congrArg State.operatorHold (swapBanks_frame s o) :)
@[simp] theorem swapBanks_highPtr (o : Origin) : (swapBanks o s).highPtr = s.highPtr :=
  (congrArg State.highPtr (swapBanks_frame s o) :)
@[simp] theorem swapBanks_lowPtr (o : Origin) : (swapBanks o s).lowPtr = s.lowPtr :=
  (congrArg State.lowPtr (swapBanks_frame s o) :)
@[simp] theorem swapBanks_substituteTimer (o : Origin) : (swapBanks o s).substituteTimer = s.substituteTimer :=
  (congrArg State.substituteTimer (swapBanks_frame s o) :)
@[simp] theorem swapBanks_lastCycle (o : Origin) : (swapBanks o s).lastCycle = s.lastCycle :=
  (congrArg State.lastCycle (swapBanks_frame s o) :)
@[simp] theorem swapBanks_due (o : Origin) : (swapBanks o s).due = s.due :=
  (congrArg State.due (swapBanks_frame s o) :)
@[simp] theorem swapBanks_frameClass (o : Origin) : (swapBanks o s).frameClass = none :=
  (congrArg State.frameClass (swapBanks_frame s o) :)
@[simp] theorem swapBanks_inReset (o : Origin) : (swapBanks o s).inReset = s.inReset :=
  (congrArg State.inReset (swapBanks_frame s o) :)
@[simp] theorem swapBanks_holdnLow (o : Origin) : (swapBanks o s).holdnLow = s.holdnLow :=
  (congrArg State.holdnLow (swapBanks_frame s o) :)
@[simp] theorem swapBanks_sampled (o : Origin) : (swapBanks o s).sampled = s.sampled :=
  (congrArg State.sampled (swapBanks_frame s o) :)
@[simp] theorem swapBanks_faultnLow (o : Origin) : (swapBanks o s).faultnLow = s.faultnLow :=
  (congrArg State.faultnLow (swapBanks_frame s o) :)

/-- Figures of a report touch the axis and gang records (R56). -/
theorem feedbackFigures_frame (f : Feedback) (i : Nat) :
    feedbackFigures f i s = { s with
    axes := (feedbackFigures f i s).axes, gangs := (feedbackFigures f i s).gangs } := by
  unfold feedbackFigures State.onGangOf
  split
  all_goals (try dsimp only)
  all_goals repeat' split
  all_goals apply State.ext_fields <;> simp

@[simp] theorem feedbackFigures_pending (f : Feedback) (i : Nat) : (feedbackFigures f i s).pending = s.pending :=
  (congrArg State.pending (feedbackFigures_frame s f i) :)
@[simp] theorem feedbackFigures_now (f : Feedback) (i : Nat) : (feedbackFigures f i s).now = s.now :=
  (congrArg State.now (feedbackFigures_frame s f i) :)
@[simp] theorem feedbackFigures_draws (f : Feedback) (i : Nat) : (feedbackFigures f i s).draws = s.draws :=
  (congrArg State.draws (feedbackFigures_frame s f i) :)
@[simp] theorem feedbackFigures_up (f : Feedback) (i : Nat) : (feedbackFigures f i s).up = s.up :=
  (congrArg State.up (feedbackFigures_frame s f i) :)
@[simp] theorem feedbackFigures_down (f : Feedback) (i : Nat) : (feedbackFigures f i s).down = s.down :=
  (congrArg State.down (feedbackFigures_frame s f i) :)
@[simp] theorem feedbackFigures_waiting (f : Feedback) (i : Nat) : (feedbackFigures f i s).waiting = s.waiting :=
  (congrArg State.waiting (feedbackFigures_frame s f i) :)
@[simp] theorem feedbackFigures_bankPresent (f : Feedback) (i : Nat) : (feedbackFigures f i s).bankPresent = s.bankPresent :=
  (congrArg State.bankPresent (feedbackFigures_frame s f i) :)
@[simp] theorem feedbackFigures_active (f : Feedback) (i : Nat) : (feedbackFigures f i s).active = s.active :=
  (congrArg State.active (feedbackFigures_frame s f i) :)
@[simp] theorem feedbackFigures_verifiedCrc (f : Feedback) (i : Nat) : (feedbackFigures f i s).verifiedCrc = s.verifiedCrc :=
  (congrArg State.verifiedCrc (feedbackFigures_frame s f i) :)
@[simp] theorem feedbackFigures_pendingBank (f : Feedback) (i : Nat) : (feedbackFigures f i s).pendingBank = s.pendingBank :=
  (congrArg State.pendingBank (feedbackFigures_frame s f i) :)
@[simp] theorem feedbackFigures_pendingState (f : Feedback) (i : Nat) : (feedbackFigures f i s).pendingState = s.pendingState :=
  (congrArg State.pendingState (feedbackFigures_frame s f i) :)
@[simp] theorem feedbackFigures_expectedCrc (f : Feedback) (i : Nat) : (feedbackFigures f i s).expectedCrc = s.expectedCrc :=
  (congrArg State.expectedCrc (feedbackFigures_frame s f i) :)
@[simp] theorem feedbackFigures_pendingCrc (f : Feedback) (i : Nat) : (feedbackFigures f i s).pendingCrc = s.pendingCrc :=
  (congrArg State.pendingCrc (feedbackFigures_frame s f i) :)
@[simp] theorem feedbackFigures_refresh (f : Feedback) (i : Nat) : (feedbackFigures f i s).refresh = s.refresh :=
  (congrArg State.refresh (feedbackFigures_frame s f i) :)
@[simp] theorem feedbackFigures_forwards (f : Feedback) (i : Nat) : (feedbackFigures f i s).forwards = s.forwards :=
  (congrArg State.forwards (feedbackFigures_frame s f i) :)
@[simp] theorem feedbackFigures_reportedNodes (f : Feedback) (i : Nat) : (feedbackFigures f i s).reportedNodes = s.reportedNodes :=
  (congrArg State.reportedNodes (feedbackFigures_frame s f i) :)
@[simp] theorem feedbackFigures_fences (f : Feedback) (i : Nat) : (feedbackFigures f i s).fences = s.fences :=
  (congrArg State.fences (feedbackFigures_frame s f i) :)
@[simp] theorem feedbackFigures_windClass (f : Feedback) (i : Nat) : (feedbackFigures f i s).windClass = s.windClass :=
  (congrArg State.windClass (feedbackFigures_frame s f i) :)
@[simp] theorem feedbackFigures_weatherStale (f : Feedback) (i : Nat) : (feedbackFigures f i s).weatherStale = s.weatherStale :=
  (congrArg State.weatherStale (feedbackFigures_frame s f i) :)
@[simp] theorem feedbackFigures_weatherTimer (f : Feedback) (i : Nat) : (feedbackFigures f i s).weatherTimer = s.weatherTimer :=
  (congrArg State.weatherTimer (feedbackFigures_frame s f i) :)
@[simp] theorem feedbackFigures_press (f : Feedback) (i : Nat) : (feedbackFigures f i s).press = s.press :=
  (congrArg State.press (feedbackFigures_frame s f i) :)
@[simp] theorem feedbackFigures_pressTime (f : Feedback) (i : Nat) : (feedbackFigures f i s).pressTime = s.pressTime :=
  (congrArg State.pressTime (feedbackFigures_frame s f i) :)
@[simp] theorem feedbackFigures_longTime (f : Feedback) (i : Nat) : (feedbackFigures f i s).longTime = s.longTime :=
  (congrArg State.longTime (feedbackFigures_frame s f i) :)
@[simp] theorem feedbackFigures_operatorHold (f : Feedback) (i : Nat) : (feedbackFigures f i s).operatorHold = s.operatorHold :=
  (congrArg State.operatorHold (feedbackFigures_frame s f i) :)
@[simp] theorem feedbackFigures_lines (f : Feedback) (i : Nat) : (feedbackFigures f i s).lines = s.lines :=
  (congrArg State.lines (feedbackFigures_frame s f i) :)
@[simp] theorem feedbackFigures_deferred (f : Feedback) (i : Nat) : (feedbackFigures f i s).deferred = s.deferred :=
  (congrArg State.deferred (feedbackFigures_frame s f i) :)
@[simp] theorem feedbackFigures_backoff (f : Feedback) (i : Nat) : (feedbackFigures f i s).backoff = s.backoff :=
  (congrArg State.backoff (feedbackFigures_frame s f i) :)
@[simp] theorem feedbackFigures_highPtr (f : Feedback) (i : Nat) : (feedbackFigures f i s).highPtr = s.highPtr :=
  (congrArg State.highPtr (feedbackFigures_frame s f i) :)
@[simp] theorem feedbackFigures_lowPtr (f : Feedback) (i : Nat) : (feedbackFigures f i s).lowPtr = s.lowPtr :=
  (congrArg State.lowPtr (feedbackFigures_frame s f i) :)
@[simp] theorem feedbackFigures_openGrant (f : Feedback) (i : Nat) : (feedbackFigures f i s).openGrant = s.openGrant :=
  (congrArg State.openGrant (feedbackFigures_frame s f i) :)
@[simp] theorem feedbackFigures_grantRecs (f : Feedback) (i : Nat) : (feedbackFigures f i s).grantRecs = s.grantRecs :=
  (congrArg State.grantRecs (feedbackFigures_frame s f i) :)
@[simp] theorem feedbackFigures_watchdog (f : Feedback) (i : Nat) : (feedbackFigures f i s).watchdog = s.watchdog :=
  (congrArg State.watchdog (feedbackFigures_frame s f i) :)
@[simp] theorem feedbackFigures_watchdogTimer (f : Feedback) (i : Nat) : (feedbackFigures f i s).watchdogTimer = s.watchdogTimer :=
  (congrArg State.watchdogTimer (feedbackFigures_frame s f i) :)
@[simp] theorem feedbackFigures_olderArrival (f : Feedback) (i : Nat) : (feedbackFigures f i s).olderArrival = s.olderArrival :=
  (congrArg State.olderArrival (feedbackFigures_frame s f i) :)
@[simp] theorem feedbackFigures_newerArrival (f : Feedback) (i : Nat) : (feedbackFigures f i s).newerArrival = s.newerArrival :=
  (congrArg State.newerArrival (feedbackFigures_frame s f i) :)
@[simp] theorem feedbackFigures_substituteTimer (f : Feedback) (i : Nat) : (feedbackFigures f i s).substituteTimer = s.substituteTimer :=
  (congrArg State.substituteTimer (feedbackFigures_frame s f i) :)
@[simp] theorem feedbackFigures_lastCycle (f : Feedback) (i : Nat) : (feedbackFigures f i s).lastCycle = s.lastCycle :=
  (congrArg State.lastCycle (feedbackFigures_frame s f i) :)
@[simp] theorem feedbackFigures_flags (f : Feedback) (i : Nat) : (feedbackFigures f i s).flags = s.flags :=
  (congrArg State.flags (feedbackFigures_frame s f i) :)
@[simp] theorem feedbackFigures_events (f : Feedback) (i : Nat) : (feedbackFigures f i s).events = s.events :=
  (congrArg State.events (feedbackFigures_frame s f i) :)
@[simp] theorem feedbackFigures_due (f : Feedback) (i : Nat) : (feedbackFigures f i s).due = s.due :=
  (congrArg State.due (feedbackFigures_frame s f i) :)
@[simp] theorem feedbackFigures_frameClass (f : Feedback) (i : Nat) : (feedbackFigures f i s).frameClass = s.frameClass :=
  (congrArg State.frameClass (feedbackFigures_frame s f i) :)
@[simp] theorem feedbackFigures_inReset (f : Feedback) (i : Nat) : (feedbackFigures f i s).inReset = s.inReset :=
  (congrArg State.inReset (feedbackFigures_frame s f i) :)
@[simp] theorem feedbackFigures_holdnLow (f : Feedback) (i : Nat) : (feedbackFigures f i s).holdnLow = s.holdnLow :=
  (congrArg State.holdnLow (feedbackFigures_frame s f i) :)
@[simp] theorem feedbackFigures_sampled (f : Feedback) (i : Nat) : (feedbackFigures f i s).sampled = s.sampled :=
  (congrArg State.sampled (feedbackFigures_frame s f i) :)
@[simp] theorem feedbackFigures_faultnLow (f : Feedback) (i : Nat) : (feedbackFigures f i s).faultnLow = s.faultnLow :=
  (congrArg State.faultnLow (feedbackFigures_frame s f i) :)

/-- NOT_READY touches the gang records (R57). -/
theorem readyCause_frame (ready : Bool) (g : Nat) :
    readyCause ready s g = { s with
    gangs := (readyCause ready s g).gangs } := by
  unfold readyCause
  repeat' split
  all_goals apply State.ext_fields <;> simp

@[simp] theorem readyCause_pending (ready : Bool) (g : Nat) : (readyCause ready s g).pending = s.pending :=
  (congrArg State.pending (readyCause_frame s ready g) :)
@[simp] theorem readyCause_now (ready : Bool) (g : Nat) : (readyCause ready s g).now = s.now :=
  (congrArg State.now (readyCause_frame s ready g) :)
@[simp] theorem readyCause_draws (ready : Bool) (g : Nat) : (readyCause ready s g).draws = s.draws :=
  (congrArg State.draws (readyCause_frame s ready g) :)
@[simp] theorem readyCause_up (ready : Bool) (g : Nat) : (readyCause ready s g).up = s.up :=
  (congrArg State.up (readyCause_frame s ready g) :)
@[simp] theorem readyCause_down (ready : Bool) (g : Nat) : (readyCause ready s g).down = s.down :=
  (congrArg State.down (readyCause_frame s ready g) :)
@[simp] theorem readyCause_waiting (ready : Bool) (g : Nat) : (readyCause ready s g).waiting = s.waiting :=
  (congrArg State.waiting (readyCause_frame s ready g) :)
@[simp] theorem readyCause_bankPresent (ready : Bool) (g : Nat) : (readyCause ready s g).bankPresent = s.bankPresent :=
  (congrArg State.bankPresent (readyCause_frame s ready g) :)
@[simp] theorem readyCause_active (ready : Bool) (g : Nat) : (readyCause ready s g).active = s.active :=
  (congrArg State.active (readyCause_frame s ready g) :)
@[simp] theorem readyCause_verifiedCrc (ready : Bool) (g : Nat) : (readyCause ready s g).verifiedCrc = s.verifiedCrc :=
  (congrArg State.verifiedCrc (readyCause_frame s ready g) :)
@[simp] theorem readyCause_pendingBank (ready : Bool) (g : Nat) : (readyCause ready s g).pendingBank = s.pendingBank :=
  (congrArg State.pendingBank (readyCause_frame s ready g) :)
@[simp] theorem readyCause_pendingState (ready : Bool) (g : Nat) : (readyCause ready s g).pendingState = s.pendingState :=
  (congrArg State.pendingState (readyCause_frame s ready g) :)
@[simp] theorem readyCause_expectedCrc (ready : Bool) (g : Nat) : (readyCause ready s g).expectedCrc = s.expectedCrc :=
  (congrArg State.expectedCrc (readyCause_frame s ready g) :)
@[simp] theorem readyCause_pendingCrc (ready : Bool) (g : Nat) : (readyCause ready s g).pendingCrc = s.pendingCrc :=
  (congrArg State.pendingCrc (readyCause_frame s ready g) :)
@[simp] theorem readyCause_refresh (ready : Bool) (g : Nat) : (readyCause ready s g).refresh = s.refresh :=
  (congrArg State.refresh (readyCause_frame s ready g) :)
@[simp] theorem readyCause_axes (ready : Bool) (g : Nat) : (readyCause ready s g).axes = s.axes :=
  (congrArg State.axes (readyCause_frame s ready g) :)
@[simp] theorem readyCause_forwards (ready : Bool) (g : Nat) : (readyCause ready s g).forwards = s.forwards :=
  (congrArg State.forwards (readyCause_frame s ready g) :)
@[simp] theorem readyCause_reportedNodes (ready : Bool) (g : Nat) : (readyCause ready s g).reportedNodes = s.reportedNodes :=
  (congrArg State.reportedNodes (readyCause_frame s ready g) :)
@[simp] theorem readyCause_fences (ready : Bool) (g : Nat) : (readyCause ready s g).fences = s.fences :=
  (congrArg State.fences (readyCause_frame s ready g) :)
@[simp] theorem readyCause_windClass (ready : Bool) (g : Nat) : (readyCause ready s g).windClass = s.windClass :=
  (congrArg State.windClass (readyCause_frame s ready g) :)
@[simp] theorem readyCause_weatherStale (ready : Bool) (g : Nat) : (readyCause ready s g).weatherStale = s.weatherStale :=
  (congrArg State.weatherStale (readyCause_frame s ready g) :)
@[simp] theorem readyCause_weatherTimer (ready : Bool) (g : Nat) : (readyCause ready s g).weatherTimer = s.weatherTimer :=
  (congrArg State.weatherTimer (readyCause_frame s ready g) :)
@[simp] theorem readyCause_press (ready : Bool) (g : Nat) : (readyCause ready s g).press = s.press :=
  (congrArg State.press (readyCause_frame s ready g) :)
@[simp] theorem readyCause_pressTime (ready : Bool) (g : Nat) : (readyCause ready s g).pressTime = s.pressTime :=
  (congrArg State.pressTime (readyCause_frame s ready g) :)
@[simp] theorem readyCause_longTime (ready : Bool) (g : Nat) : (readyCause ready s g).longTime = s.longTime :=
  (congrArg State.longTime (readyCause_frame s ready g) :)
@[simp] theorem readyCause_operatorHold (ready : Bool) (g : Nat) : (readyCause ready s g).operatorHold = s.operatorHold :=
  (congrArg State.operatorHold (readyCause_frame s ready g) :)
@[simp] theorem readyCause_lines (ready : Bool) (g : Nat) : (readyCause ready s g).lines = s.lines :=
  (congrArg State.lines (readyCause_frame s ready g) :)
@[simp] theorem readyCause_deferred (ready : Bool) (g : Nat) : (readyCause ready s g).deferred = s.deferred :=
  (congrArg State.deferred (readyCause_frame s ready g) :)
@[simp] theorem readyCause_backoff (ready : Bool) (g : Nat) : (readyCause ready s g).backoff = s.backoff :=
  (congrArg State.backoff (readyCause_frame s ready g) :)
@[simp] theorem readyCause_highPtr (ready : Bool) (g : Nat) : (readyCause ready s g).highPtr = s.highPtr :=
  (congrArg State.highPtr (readyCause_frame s ready g) :)
@[simp] theorem readyCause_lowPtr (ready : Bool) (g : Nat) : (readyCause ready s g).lowPtr = s.lowPtr :=
  (congrArg State.lowPtr (readyCause_frame s ready g) :)
@[simp] theorem readyCause_openGrant (ready : Bool) (g : Nat) : (readyCause ready s g).openGrant = s.openGrant :=
  (congrArg State.openGrant (readyCause_frame s ready g) :)
@[simp] theorem readyCause_grantRecs (ready : Bool) (g : Nat) : (readyCause ready s g).grantRecs = s.grantRecs :=
  (congrArg State.grantRecs (readyCause_frame s ready g) :)
@[simp] theorem readyCause_watchdog (ready : Bool) (g : Nat) : (readyCause ready s g).watchdog = s.watchdog :=
  (congrArg State.watchdog (readyCause_frame s ready g) :)
@[simp] theorem readyCause_watchdogTimer (ready : Bool) (g : Nat) : (readyCause ready s g).watchdogTimer = s.watchdogTimer :=
  (congrArg State.watchdogTimer (readyCause_frame s ready g) :)
@[simp] theorem readyCause_olderArrival (ready : Bool) (g : Nat) : (readyCause ready s g).olderArrival = s.olderArrival :=
  (congrArg State.olderArrival (readyCause_frame s ready g) :)
@[simp] theorem readyCause_newerArrival (ready : Bool) (g : Nat) : (readyCause ready s g).newerArrival = s.newerArrival :=
  (congrArg State.newerArrival (readyCause_frame s ready g) :)
@[simp] theorem readyCause_substituteTimer (ready : Bool) (g : Nat) : (readyCause ready s g).substituteTimer = s.substituteTimer :=
  (congrArg State.substituteTimer (readyCause_frame s ready g) :)
@[simp] theorem readyCause_lastCycle (ready : Bool) (g : Nat) : (readyCause ready s g).lastCycle = s.lastCycle :=
  (congrArg State.lastCycle (readyCause_frame s ready g) :)
@[simp] theorem readyCause_flags (ready : Bool) (g : Nat) : (readyCause ready s g).flags = s.flags :=
  (congrArg State.flags (readyCause_frame s ready g) :)
@[simp] theorem readyCause_events (ready : Bool) (g : Nat) : (readyCause ready s g).events = s.events :=
  (congrArg State.events (readyCause_frame s ready g) :)
@[simp] theorem readyCause_due (ready : Bool) (g : Nat) : (readyCause ready s g).due = s.due :=
  (congrArg State.due (readyCause_frame s ready g) :)
@[simp] theorem readyCause_frameClass (ready : Bool) (g : Nat) : (readyCause ready s g).frameClass = s.frameClass :=
  (congrArg State.frameClass (readyCause_frame s ready g) :)
@[simp] theorem readyCause_inReset (ready : Bool) (g : Nat) : (readyCause ready s g).inReset = s.inReset :=
  (congrArg State.inReset (readyCause_frame s ready g) :)
@[simp] theorem readyCause_holdnLow (ready : Bool) (g : Nat) : (readyCause ready s g).holdnLow = s.holdnLow :=
  (congrArg State.holdnLow (readyCause_frame s ready g) :)
@[simp] theorem readyCause_sampled (ready : Bool) (g : Nat) : (readyCause ready s g).sampled = s.sampled :=
  (congrArg State.sampled (readyCause_frame s ready g) :)
@[simp] theorem readyCause_faultnLow (ready : Bool) (g : Nat) : (readyCause ready s g).faultnLow = s.faultnLow :=
  (congrArg State.faultnLow (readyCause_frame s ready g) :)

/-- Status bits of a report touch the axis and gang records (R57, R59). -/
theorem feedbackStatus_frame (f : Feedback) (i : Nat) :
    feedbackStatus f i s = { s with
    axes := (feedbackStatus f i s).axes, gangs := (feedbackStatus f i s).gangs } := by
  unfold feedbackStatus State.onGangOf
  split
  all_goals apply State.ext_fields <;> simp

@[simp] theorem feedbackStatus_pending (f : Feedback) (i : Nat) : (feedbackStatus f i s).pending = s.pending :=
  (congrArg State.pending (feedbackStatus_frame s f i) :)
@[simp] theorem feedbackStatus_now (f : Feedback) (i : Nat) : (feedbackStatus f i s).now = s.now :=
  (congrArg State.now (feedbackStatus_frame s f i) :)
@[simp] theorem feedbackStatus_draws (f : Feedback) (i : Nat) : (feedbackStatus f i s).draws = s.draws :=
  (congrArg State.draws (feedbackStatus_frame s f i) :)
@[simp] theorem feedbackStatus_up (f : Feedback) (i : Nat) : (feedbackStatus f i s).up = s.up :=
  (congrArg State.up (feedbackStatus_frame s f i) :)
@[simp] theorem feedbackStatus_down (f : Feedback) (i : Nat) : (feedbackStatus f i s).down = s.down :=
  (congrArg State.down (feedbackStatus_frame s f i) :)
@[simp] theorem feedbackStatus_waiting (f : Feedback) (i : Nat) : (feedbackStatus f i s).waiting = s.waiting :=
  (congrArg State.waiting (feedbackStatus_frame s f i) :)
@[simp] theorem feedbackStatus_bankPresent (f : Feedback) (i : Nat) : (feedbackStatus f i s).bankPresent = s.bankPresent :=
  (congrArg State.bankPresent (feedbackStatus_frame s f i) :)
@[simp] theorem feedbackStatus_active (f : Feedback) (i : Nat) : (feedbackStatus f i s).active = s.active :=
  (congrArg State.active (feedbackStatus_frame s f i) :)
@[simp] theorem feedbackStatus_verifiedCrc (f : Feedback) (i : Nat) : (feedbackStatus f i s).verifiedCrc = s.verifiedCrc :=
  (congrArg State.verifiedCrc (feedbackStatus_frame s f i) :)
@[simp] theorem feedbackStatus_pendingBank (f : Feedback) (i : Nat) : (feedbackStatus f i s).pendingBank = s.pendingBank :=
  (congrArg State.pendingBank (feedbackStatus_frame s f i) :)
@[simp] theorem feedbackStatus_pendingState (f : Feedback) (i : Nat) : (feedbackStatus f i s).pendingState = s.pendingState :=
  (congrArg State.pendingState (feedbackStatus_frame s f i) :)
@[simp] theorem feedbackStatus_expectedCrc (f : Feedback) (i : Nat) : (feedbackStatus f i s).expectedCrc = s.expectedCrc :=
  (congrArg State.expectedCrc (feedbackStatus_frame s f i) :)
@[simp] theorem feedbackStatus_pendingCrc (f : Feedback) (i : Nat) : (feedbackStatus f i s).pendingCrc = s.pendingCrc :=
  (congrArg State.pendingCrc (feedbackStatus_frame s f i) :)
@[simp] theorem feedbackStatus_refresh (f : Feedback) (i : Nat) : (feedbackStatus f i s).refresh = s.refresh :=
  (congrArg State.refresh (feedbackStatus_frame s f i) :)
@[simp] theorem feedbackStatus_forwards (f : Feedback) (i : Nat) : (feedbackStatus f i s).forwards = s.forwards :=
  (congrArg State.forwards (feedbackStatus_frame s f i) :)
@[simp] theorem feedbackStatus_reportedNodes (f : Feedback) (i : Nat) : (feedbackStatus f i s).reportedNodes = s.reportedNodes :=
  (congrArg State.reportedNodes (feedbackStatus_frame s f i) :)
@[simp] theorem feedbackStatus_fences (f : Feedback) (i : Nat) : (feedbackStatus f i s).fences = s.fences :=
  (congrArg State.fences (feedbackStatus_frame s f i) :)
@[simp] theorem feedbackStatus_windClass (f : Feedback) (i : Nat) : (feedbackStatus f i s).windClass = s.windClass :=
  (congrArg State.windClass (feedbackStatus_frame s f i) :)
@[simp] theorem feedbackStatus_weatherStale (f : Feedback) (i : Nat) : (feedbackStatus f i s).weatherStale = s.weatherStale :=
  (congrArg State.weatherStale (feedbackStatus_frame s f i) :)
@[simp] theorem feedbackStatus_weatherTimer (f : Feedback) (i : Nat) : (feedbackStatus f i s).weatherTimer = s.weatherTimer :=
  (congrArg State.weatherTimer (feedbackStatus_frame s f i) :)
@[simp] theorem feedbackStatus_press (f : Feedback) (i : Nat) : (feedbackStatus f i s).press = s.press :=
  (congrArg State.press (feedbackStatus_frame s f i) :)
@[simp] theorem feedbackStatus_pressTime (f : Feedback) (i : Nat) : (feedbackStatus f i s).pressTime = s.pressTime :=
  (congrArg State.pressTime (feedbackStatus_frame s f i) :)
@[simp] theorem feedbackStatus_longTime (f : Feedback) (i : Nat) : (feedbackStatus f i s).longTime = s.longTime :=
  (congrArg State.longTime (feedbackStatus_frame s f i) :)
@[simp] theorem feedbackStatus_operatorHold (f : Feedback) (i : Nat) : (feedbackStatus f i s).operatorHold = s.operatorHold :=
  (congrArg State.operatorHold (feedbackStatus_frame s f i) :)
@[simp] theorem feedbackStatus_lines (f : Feedback) (i : Nat) : (feedbackStatus f i s).lines = s.lines :=
  (congrArg State.lines (feedbackStatus_frame s f i) :)
@[simp] theorem feedbackStatus_deferred (f : Feedback) (i : Nat) : (feedbackStatus f i s).deferred = s.deferred :=
  (congrArg State.deferred (feedbackStatus_frame s f i) :)
@[simp] theorem feedbackStatus_backoff (f : Feedback) (i : Nat) : (feedbackStatus f i s).backoff = s.backoff :=
  (congrArg State.backoff (feedbackStatus_frame s f i) :)
@[simp] theorem feedbackStatus_highPtr (f : Feedback) (i : Nat) : (feedbackStatus f i s).highPtr = s.highPtr :=
  (congrArg State.highPtr (feedbackStatus_frame s f i) :)
@[simp] theorem feedbackStatus_lowPtr (f : Feedback) (i : Nat) : (feedbackStatus f i s).lowPtr = s.lowPtr :=
  (congrArg State.lowPtr (feedbackStatus_frame s f i) :)
@[simp] theorem feedbackStatus_openGrant (f : Feedback) (i : Nat) : (feedbackStatus f i s).openGrant = s.openGrant :=
  (congrArg State.openGrant (feedbackStatus_frame s f i) :)
@[simp] theorem feedbackStatus_grantRecs (f : Feedback) (i : Nat) : (feedbackStatus f i s).grantRecs = s.grantRecs :=
  (congrArg State.grantRecs (feedbackStatus_frame s f i) :)
@[simp] theorem feedbackStatus_watchdog (f : Feedback) (i : Nat) : (feedbackStatus f i s).watchdog = s.watchdog :=
  (congrArg State.watchdog (feedbackStatus_frame s f i) :)
@[simp] theorem feedbackStatus_watchdogTimer (f : Feedback) (i : Nat) : (feedbackStatus f i s).watchdogTimer = s.watchdogTimer :=
  (congrArg State.watchdogTimer (feedbackStatus_frame s f i) :)
@[simp] theorem feedbackStatus_olderArrival (f : Feedback) (i : Nat) : (feedbackStatus f i s).olderArrival = s.olderArrival :=
  (congrArg State.olderArrival (feedbackStatus_frame s f i) :)
@[simp] theorem feedbackStatus_newerArrival (f : Feedback) (i : Nat) : (feedbackStatus f i s).newerArrival = s.newerArrival :=
  (congrArg State.newerArrival (feedbackStatus_frame s f i) :)
@[simp] theorem feedbackStatus_substituteTimer (f : Feedback) (i : Nat) : (feedbackStatus f i s).substituteTimer = s.substituteTimer :=
  (congrArg State.substituteTimer (feedbackStatus_frame s f i) :)
@[simp] theorem feedbackStatus_lastCycle (f : Feedback) (i : Nat) : (feedbackStatus f i s).lastCycle = s.lastCycle :=
  (congrArg State.lastCycle (feedbackStatus_frame s f i) :)
@[simp] theorem feedbackStatus_flags (f : Feedback) (i : Nat) : (feedbackStatus f i s).flags = s.flags :=
  (congrArg State.flags (feedbackStatus_frame s f i) :)
@[simp] theorem feedbackStatus_events (f : Feedback) (i : Nat) : (feedbackStatus f i s).events = s.events :=
  (congrArg State.events (feedbackStatus_frame s f i) :)
@[simp] theorem feedbackStatus_due (f : Feedback) (i : Nat) : (feedbackStatus f i s).due = s.due :=
  (congrArg State.due (feedbackStatus_frame s f i) :)
@[simp] theorem feedbackStatus_frameClass (f : Feedback) (i : Nat) : (feedbackStatus f i s).frameClass = s.frameClass :=
  (congrArg State.frameClass (feedbackStatus_frame s f i) :)
@[simp] theorem feedbackStatus_inReset (f : Feedback) (i : Nat) : (feedbackStatus f i s).inReset = s.inReset :=
  (congrArg State.inReset (feedbackStatus_frame s f i) :)
@[simp] theorem feedbackStatus_holdnLow (f : Feedback) (i : Nat) : (feedbackStatus f i s).holdnLow = s.holdnLow :=
  (congrArg State.holdnLow (feedbackStatus_frame s f i) :)
@[simp] theorem feedbackStatus_sampled (f : Feedback) (i : Nat) : (feedbackStatus f i s).sampled = s.sampled :=
  (congrArg State.sampled (feedbackStatus_frame s f i) :)
@[simp] theorem feedbackStatus_faultnLow (f : Feedback) (i : Nat) : (feedbackStatus f i s).faultnLow = s.faultnLow :=
  (congrArg State.faultnLow (feedbackStatus_frame s f i) :)

/-- FAULT of a report touches the axis and gang records, the flags and the event queue (R58). -/
theorem feedbackFault_frame (f : Feedback) (i : Nat) :
    feedbackFault f i s = { s with
    axes := (feedbackFault f i s).axes, gangs := (feedbackFault f i s).gangs,
    flags := (feedbackFault f i s).flags, events := (feedbackFault f i s).events } := by
  unfold feedbackFault State.onGangOf
  simp only
  repeat' split
  all_goals apply State.ext_fields <;> simp

@[simp] theorem feedbackFault_pending (f : Feedback) (i : Nat) : (feedbackFault f i s).pending = s.pending :=
  (congrArg State.pending (feedbackFault_frame s f i) :)
@[simp] theorem feedbackFault_now (f : Feedback) (i : Nat) : (feedbackFault f i s).now = s.now :=
  (congrArg State.now (feedbackFault_frame s f i) :)
@[simp] theorem feedbackFault_draws (f : Feedback) (i : Nat) : (feedbackFault f i s).draws = s.draws :=
  (congrArg State.draws (feedbackFault_frame s f i) :)
@[simp] theorem feedbackFault_up (f : Feedback) (i : Nat) : (feedbackFault f i s).up = s.up :=
  (congrArg State.up (feedbackFault_frame s f i) :)
@[simp] theorem feedbackFault_down (f : Feedback) (i : Nat) : (feedbackFault f i s).down = s.down :=
  (congrArg State.down (feedbackFault_frame s f i) :)
@[simp] theorem feedbackFault_waiting (f : Feedback) (i : Nat) : (feedbackFault f i s).waiting = s.waiting :=
  (congrArg State.waiting (feedbackFault_frame s f i) :)
@[simp] theorem feedbackFault_bankPresent (f : Feedback) (i : Nat) : (feedbackFault f i s).bankPresent = s.bankPresent :=
  (congrArg State.bankPresent (feedbackFault_frame s f i) :)
@[simp] theorem feedbackFault_active (f : Feedback) (i : Nat) : (feedbackFault f i s).active = s.active :=
  (congrArg State.active (feedbackFault_frame s f i) :)
@[simp] theorem feedbackFault_verifiedCrc (f : Feedback) (i : Nat) : (feedbackFault f i s).verifiedCrc = s.verifiedCrc :=
  (congrArg State.verifiedCrc (feedbackFault_frame s f i) :)
@[simp] theorem feedbackFault_pendingBank (f : Feedback) (i : Nat) : (feedbackFault f i s).pendingBank = s.pendingBank :=
  (congrArg State.pendingBank (feedbackFault_frame s f i) :)
@[simp] theorem feedbackFault_pendingState (f : Feedback) (i : Nat) : (feedbackFault f i s).pendingState = s.pendingState :=
  (congrArg State.pendingState (feedbackFault_frame s f i) :)
@[simp] theorem feedbackFault_expectedCrc (f : Feedback) (i : Nat) : (feedbackFault f i s).expectedCrc = s.expectedCrc :=
  (congrArg State.expectedCrc (feedbackFault_frame s f i) :)
@[simp] theorem feedbackFault_pendingCrc (f : Feedback) (i : Nat) : (feedbackFault f i s).pendingCrc = s.pendingCrc :=
  (congrArg State.pendingCrc (feedbackFault_frame s f i) :)
@[simp] theorem feedbackFault_refresh (f : Feedback) (i : Nat) : (feedbackFault f i s).refresh = s.refresh :=
  (congrArg State.refresh (feedbackFault_frame s f i) :)
@[simp] theorem feedbackFault_forwards (f : Feedback) (i : Nat) : (feedbackFault f i s).forwards = s.forwards :=
  (congrArg State.forwards (feedbackFault_frame s f i) :)
@[simp] theorem feedbackFault_reportedNodes (f : Feedback) (i : Nat) : (feedbackFault f i s).reportedNodes = s.reportedNodes :=
  (congrArg State.reportedNodes (feedbackFault_frame s f i) :)
@[simp] theorem feedbackFault_fences (f : Feedback) (i : Nat) : (feedbackFault f i s).fences = s.fences :=
  (congrArg State.fences (feedbackFault_frame s f i) :)
@[simp] theorem feedbackFault_windClass (f : Feedback) (i : Nat) : (feedbackFault f i s).windClass = s.windClass :=
  (congrArg State.windClass (feedbackFault_frame s f i) :)
@[simp] theorem feedbackFault_weatherStale (f : Feedback) (i : Nat) : (feedbackFault f i s).weatherStale = s.weatherStale :=
  (congrArg State.weatherStale (feedbackFault_frame s f i) :)
@[simp] theorem feedbackFault_weatherTimer (f : Feedback) (i : Nat) : (feedbackFault f i s).weatherTimer = s.weatherTimer :=
  (congrArg State.weatherTimer (feedbackFault_frame s f i) :)
@[simp] theorem feedbackFault_press (f : Feedback) (i : Nat) : (feedbackFault f i s).press = s.press :=
  (congrArg State.press (feedbackFault_frame s f i) :)
@[simp] theorem feedbackFault_pressTime (f : Feedback) (i : Nat) : (feedbackFault f i s).pressTime = s.pressTime :=
  (congrArg State.pressTime (feedbackFault_frame s f i) :)
@[simp] theorem feedbackFault_longTime (f : Feedback) (i : Nat) : (feedbackFault f i s).longTime = s.longTime :=
  (congrArg State.longTime (feedbackFault_frame s f i) :)
@[simp] theorem feedbackFault_operatorHold (f : Feedback) (i : Nat) : (feedbackFault f i s).operatorHold = s.operatorHold :=
  (congrArg State.operatorHold (feedbackFault_frame s f i) :)
@[simp] theorem feedbackFault_lines (f : Feedback) (i : Nat) : (feedbackFault f i s).lines = s.lines :=
  (congrArg State.lines (feedbackFault_frame s f i) :)
@[simp] theorem feedbackFault_deferred (f : Feedback) (i : Nat) : (feedbackFault f i s).deferred = s.deferred :=
  (congrArg State.deferred (feedbackFault_frame s f i) :)
@[simp] theorem feedbackFault_backoff (f : Feedback) (i : Nat) : (feedbackFault f i s).backoff = s.backoff :=
  (congrArg State.backoff (feedbackFault_frame s f i) :)
@[simp] theorem feedbackFault_highPtr (f : Feedback) (i : Nat) : (feedbackFault f i s).highPtr = s.highPtr :=
  (congrArg State.highPtr (feedbackFault_frame s f i) :)
@[simp] theorem feedbackFault_lowPtr (f : Feedback) (i : Nat) : (feedbackFault f i s).lowPtr = s.lowPtr :=
  (congrArg State.lowPtr (feedbackFault_frame s f i) :)
@[simp] theorem feedbackFault_openGrant (f : Feedback) (i : Nat) : (feedbackFault f i s).openGrant = s.openGrant :=
  (congrArg State.openGrant (feedbackFault_frame s f i) :)
@[simp] theorem feedbackFault_grantRecs (f : Feedback) (i : Nat) : (feedbackFault f i s).grantRecs = s.grantRecs :=
  (congrArg State.grantRecs (feedbackFault_frame s f i) :)
@[simp] theorem feedbackFault_watchdog (f : Feedback) (i : Nat) : (feedbackFault f i s).watchdog = s.watchdog :=
  (congrArg State.watchdog (feedbackFault_frame s f i) :)
@[simp] theorem feedbackFault_watchdogTimer (f : Feedback) (i : Nat) : (feedbackFault f i s).watchdogTimer = s.watchdogTimer :=
  (congrArg State.watchdogTimer (feedbackFault_frame s f i) :)
@[simp] theorem feedbackFault_olderArrival (f : Feedback) (i : Nat) : (feedbackFault f i s).olderArrival = s.olderArrival :=
  (congrArg State.olderArrival (feedbackFault_frame s f i) :)
@[simp] theorem feedbackFault_newerArrival (f : Feedback) (i : Nat) : (feedbackFault f i s).newerArrival = s.newerArrival :=
  (congrArg State.newerArrival (feedbackFault_frame s f i) :)
@[simp] theorem feedbackFault_substituteTimer (f : Feedback) (i : Nat) : (feedbackFault f i s).substituteTimer = s.substituteTimer :=
  (congrArg State.substituteTimer (feedbackFault_frame s f i) :)
@[simp] theorem feedbackFault_lastCycle (f : Feedback) (i : Nat) : (feedbackFault f i s).lastCycle = s.lastCycle :=
  (congrArg State.lastCycle (feedbackFault_frame s f i) :)
@[simp] theorem feedbackFault_due (f : Feedback) (i : Nat) : (feedbackFault f i s).due = s.due :=
  (congrArg State.due (feedbackFault_frame s f i) :)
@[simp] theorem feedbackFault_frameClass (f : Feedback) (i : Nat) : (feedbackFault f i s).frameClass = s.frameClass :=
  (congrArg State.frameClass (feedbackFault_frame s f i) :)
@[simp] theorem feedbackFault_inReset (f : Feedback) (i : Nat) : (feedbackFault f i s).inReset = s.inReset :=
  (congrArg State.inReset (feedbackFault_frame s f i) :)
@[simp] theorem feedbackFault_holdnLow (f : Feedback) (i : Nat) : (feedbackFault f i s).holdnLow = s.holdnLow :=
  (congrArg State.holdnLow (feedbackFault_frame s f i) :)
@[simp] theorem feedbackFault_sampled (f : Feedback) (i : Nat) : (feedbackFault f i s).sampled = s.sampled :=
  (congrArg State.sampled (feedbackFault_frame s f i) :)
@[simp] theorem feedbackFault_faultnLow (f : Feedback) (i : Nat) : (feedbackFault f i s).faultnLow = s.faultnLow :=
  (congrArg State.faultnLow (feedbackFault_frame s f i) :)

/-- The echo check touches the axis and gang records, the flags and the event queue (R64 to R66). -/
theorem feedbackEcho_frame (f : Feedback) (i : Nat) :
    feedbackEcho f i s = { s with
    axes := (feedbackEcho f i s).axes, gangs := (feedbackEcho f i s).gangs,
    flags := (feedbackEcho f i s).flags, events := (feedbackEcho f i s).events } := by
  unfold feedbackEcho State.onGangOf
  repeat' split
  all_goals apply State.ext_fields <;> simp
  all_goals repeat' split
  all_goals simp

@[simp] theorem feedbackEcho_pending (f : Feedback) (i : Nat) : (feedbackEcho f i s).pending = s.pending :=
  (congrArg State.pending (feedbackEcho_frame s f i) :)
@[simp] theorem feedbackEcho_now (f : Feedback) (i : Nat) : (feedbackEcho f i s).now = s.now :=
  (congrArg State.now (feedbackEcho_frame s f i) :)
@[simp] theorem feedbackEcho_draws (f : Feedback) (i : Nat) : (feedbackEcho f i s).draws = s.draws :=
  (congrArg State.draws (feedbackEcho_frame s f i) :)
@[simp] theorem feedbackEcho_up (f : Feedback) (i : Nat) : (feedbackEcho f i s).up = s.up :=
  (congrArg State.up (feedbackEcho_frame s f i) :)
@[simp] theorem feedbackEcho_down (f : Feedback) (i : Nat) : (feedbackEcho f i s).down = s.down :=
  (congrArg State.down (feedbackEcho_frame s f i) :)
@[simp] theorem feedbackEcho_waiting (f : Feedback) (i : Nat) : (feedbackEcho f i s).waiting = s.waiting :=
  (congrArg State.waiting (feedbackEcho_frame s f i) :)
@[simp] theorem feedbackEcho_bankPresent (f : Feedback) (i : Nat) : (feedbackEcho f i s).bankPresent = s.bankPresent :=
  (congrArg State.bankPresent (feedbackEcho_frame s f i) :)
@[simp] theorem feedbackEcho_active (f : Feedback) (i : Nat) : (feedbackEcho f i s).active = s.active :=
  (congrArg State.active (feedbackEcho_frame s f i) :)
@[simp] theorem feedbackEcho_verifiedCrc (f : Feedback) (i : Nat) : (feedbackEcho f i s).verifiedCrc = s.verifiedCrc :=
  (congrArg State.verifiedCrc (feedbackEcho_frame s f i) :)
@[simp] theorem feedbackEcho_pendingBank (f : Feedback) (i : Nat) : (feedbackEcho f i s).pendingBank = s.pendingBank :=
  (congrArg State.pendingBank (feedbackEcho_frame s f i) :)
@[simp] theorem feedbackEcho_pendingState (f : Feedback) (i : Nat) : (feedbackEcho f i s).pendingState = s.pendingState :=
  (congrArg State.pendingState (feedbackEcho_frame s f i) :)
@[simp] theorem feedbackEcho_expectedCrc (f : Feedback) (i : Nat) : (feedbackEcho f i s).expectedCrc = s.expectedCrc :=
  (congrArg State.expectedCrc (feedbackEcho_frame s f i) :)
@[simp] theorem feedbackEcho_pendingCrc (f : Feedback) (i : Nat) : (feedbackEcho f i s).pendingCrc = s.pendingCrc :=
  (congrArg State.pendingCrc (feedbackEcho_frame s f i) :)
@[simp] theorem feedbackEcho_refresh (f : Feedback) (i : Nat) : (feedbackEcho f i s).refresh = s.refresh :=
  (congrArg State.refresh (feedbackEcho_frame s f i) :)
@[simp] theorem feedbackEcho_forwards (f : Feedback) (i : Nat) : (feedbackEcho f i s).forwards = s.forwards :=
  (congrArg State.forwards (feedbackEcho_frame s f i) :)
@[simp] theorem feedbackEcho_reportedNodes (f : Feedback) (i : Nat) : (feedbackEcho f i s).reportedNodes = s.reportedNodes :=
  (congrArg State.reportedNodes (feedbackEcho_frame s f i) :)
@[simp] theorem feedbackEcho_fences (f : Feedback) (i : Nat) : (feedbackEcho f i s).fences = s.fences :=
  (congrArg State.fences (feedbackEcho_frame s f i) :)
@[simp] theorem feedbackEcho_windClass (f : Feedback) (i : Nat) : (feedbackEcho f i s).windClass = s.windClass :=
  (congrArg State.windClass (feedbackEcho_frame s f i) :)
@[simp] theorem feedbackEcho_weatherStale (f : Feedback) (i : Nat) : (feedbackEcho f i s).weatherStale = s.weatherStale :=
  (congrArg State.weatherStale (feedbackEcho_frame s f i) :)
@[simp] theorem feedbackEcho_weatherTimer (f : Feedback) (i : Nat) : (feedbackEcho f i s).weatherTimer = s.weatherTimer :=
  (congrArg State.weatherTimer (feedbackEcho_frame s f i) :)
@[simp] theorem feedbackEcho_press (f : Feedback) (i : Nat) : (feedbackEcho f i s).press = s.press :=
  (congrArg State.press (feedbackEcho_frame s f i) :)
@[simp] theorem feedbackEcho_pressTime (f : Feedback) (i : Nat) : (feedbackEcho f i s).pressTime = s.pressTime :=
  (congrArg State.pressTime (feedbackEcho_frame s f i) :)
@[simp] theorem feedbackEcho_longTime (f : Feedback) (i : Nat) : (feedbackEcho f i s).longTime = s.longTime :=
  (congrArg State.longTime (feedbackEcho_frame s f i) :)
@[simp] theorem feedbackEcho_operatorHold (f : Feedback) (i : Nat) : (feedbackEcho f i s).operatorHold = s.operatorHold :=
  (congrArg State.operatorHold (feedbackEcho_frame s f i) :)
@[simp] theorem feedbackEcho_lines (f : Feedback) (i : Nat) : (feedbackEcho f i s).lines = s.lines :=
  (congrArg State.lines (feedbackEcho_frame s f i) :)
@[simp] theorem feedbackEcho_deferred (f : Feedback) (i : Nat) : (feedbackEcho f i s).deferred = s.deferred :=
  (congrArg State.deferred (feedbackEcho_frame s f i) :)
@[simp] theorem feedbackEcho_backoff (f : Feedback) (i : Nat) : (feedbackEcho f i s).backoff = s.backoff :=
  (congrArg State.backoff (feedbackEcho_frame s f i) :)
@[simp] theorem feedbackEcho_highPtr (f : Feedback) (i : Nat) : (feedbackEcho f i s).highPtr = s.highPtr :=
  (congrArg State.highPtr (feedbackEcho_frame s f i) :)
@[simp] theorem feedbackEcho_lowPtr (f : Feedback) (i : Nat) : (feedbackEcho f i s).lowPtr = s.lowPtr :=
  (congrArg State.lowPtr (feedbackEcho_frame s f i) :)
@[simp] theorem feedbackEcho_openGrant (f : Feedback) (i : Nat) : (feedbackEcho f i s).openGrant = s.openGrant :=
  (congrArg State.openGrant (feedbackEcho_frame s f i) :)
@[simp] theorem feedbackEcho_grantRecs (f : Feedback) (i : Nat) : (feedbackEcho f i s).grantRecs = s.grantRecs :=
  (congrArg State.grantRecs (feedbackEcho_frame s f i) :)
@[simp] theorem feedbackEcho_watchdog (f : Feedback) (i : Nat) : (feedbackEcho f i s).watchdog = s.watchdog :=
  (congrArg State.watchdog (feedbackEcho_frame s f i) :)
@[simp] theorem feedbackEcho_watchdogTimer (f : Feedback) (i : Nat) : (feedbackEcho f i s).watchdogTimer = s.watchdogTimer :=
  (congrArg State.watchdogTimer (feedbackEcho_frame s f i) :)
@[simp] theorem feedbackEcho_olderArrival (f : Feedback) (i : Nat) : (feedbackEcho f i s).olderArrival = s.olderArrival :=
  (congrArg State.olderArrival (feedbackEcho_frame s f i) :)
@[simp] theorem feedbackEcho_newerArrival (f : Feedback) (i : Nat) : (feedbackEcho f i s).newerArrival = s.newerArrival :=
  (congrArg State.newerArrival (feedbackEcho_frame s f i) :)
@[simp] theorem feedbackEcho_substituteTimer (f : Feedback) (i : Nat) : (feedbackEcho f i s).substituteTimer = s.substituteTimer :=
  (congrArg State.substituteTimer (feedbackEcho_frame s f i) :)
@[simp] theorem feedbackEcho_lastCycle (f : Feedback) (i : Nat) : (feedbackEcho f i s).lastCycle = s.lastCycle :=
  (congrArg State.lastCycle (feedbackEcho_frame s f i) :)
@[simp] theorem feedbackEcho_due (f : Feedback) (i : Nat) : (feedbackEcho f i s).due = s.due :=
  (congrArg State.due (feedbackEcho_frame s f i) :)
@[simp] theorem feedbackEcho_frameClass (f : Feedback) (i : Nat) : (feedbackEcho f i s).frameClass = s.frameClass :=
  (congrArg State.frameClass (feedbackEcho_frame s f i) :)
@[simp] theorem feedbackEcho_inReset (f : Feedback) (i : Nat) : (feedbackEcho f i s).inReset = s.inReset :=
  (congrArg State.inReset (feedbackEcho_frame s f i) :)
@[simp] theorem feedbackEcho_holdnLow (f : Feedback) (i : Nat) : (feedbackEcho f i s).holdnLow = s.holdnLow :=
  (congrArg State.holdnLow (feedbackEcho_frame s f i) :)
@[simp] theorem feedbackEcho_sampled (f : Feedback) (i : Nat) : (feedbackEcho f i s).sampled = s.sampled :=
  (congrArg State.sampled (feedbackEcho_frame s f i) :)
@[simp] theorem feedbackEcho_faultnLow (f : Feedback) (i : Nat) : (feedbackEcho f i s).faultnLow = s.faultnLow :=
  (congrArg State.faultnLow (feedbackEcho_frame s f i) :)

/-- A report touches the axis and gang records, the flags and the event queue (R55). -/
theorem applyFeedback_frame (f : Feedback) :
    applyFeedback f s = { s with
    axes := (applyFeedback f s).axes, gangs := (applyFeedback f s).gangs,
    flags := (applyFeedback f s).flags, events := (applyFeedback f s).events } := by
  unfold applyFeedback
  repeat' split
  all_goals apply State.ext_fields <;> simp

@[simp] theorem applyFeedback_pending (f : Feedback) : (applyFeedback f s).pending = s.pending :=
  (congrArg State.pending (applyFeedback_frame s f) :)
@[simp] theorem applyFeedback_now (f : Feedback) : (applyFeedback f s).now = s.now :=
  (congrArg State.now (applyFeedback_frame s f) :)
@[simp] theorem applyFeedback_draws (f : Feedback) : (applyFeedback f s).draws = s.draws :=
  (congrArg State.draws (applyFeedback_frame s f) :)
@[simp] theorem applyFeedback_up (f : Feedback) : (applyFeedback f s).up = s.up :=
  (congrArg State.up (applyFeedback_frame s f) :)
@[simp] theorem applyFeedback_down (f : Feedback) : (applyFeedback f s).down = s.down :=
  (congrArg State.down (applyFeedback_frame s f) :)
@[simp] theorem applyFeedback_waiting (f : Feedback) : (applyFeedback f s).waiting = s.waiting :=
  (congrArg State.waiting (applyFeedback_frame s f) :)
@[simp] theorem applyFeedback_bankPresent (f : Feedback) : (applyFeedback f s).bankPresent = s.bankPresent :=
  (congrArg State.bankPresent (applyFeedback_frame s f) :)
@[simp] theorem applyFeedback_active (f : Feedback) : (applyFeedback f s).active = s.active :=
  (congrArg State.active (applyFeedback_frame s f) :)
@[simp] theorem applyFeedback_verifiedCrc (f : Feedback) : (applyFeedback f s).verifiedCrc = s.verifiedCrc :=
  (congrArg State.verifiedCrc (applyFeedback_frame s f) :)
@[simp] theorem applyFeedback_pendingBank (f : Feedback) : (applyFeedback f s).pendingBank = s.pendingBank :=
  (congrArg State.pendingBank (applyFeedback_frame s f) :)
@[simp] theorem applyFeedback_pendingState (f : Feedback) : (applyFeedback f s).pendingState = s.pendingState :=
  (congrArg State.pendingState (applyFeedback_frame s f) :)
@[simp] theorem applyFeedback_expectedCrc (f : Feedback) : (applyFeedback f s).expectedCrc = s.expectedCrc :=
  (congrArg State.expectedCrc (applyFeedback_frame s f) :)
@[simp] theorem applyFeedback_pendingCrc (f : Feedback) : (applyFeedback f s).pendingCrc = s.pendingCrc :=
  (congrArg State.pendingCrc (applyFeedback_frame s f) :)
@[simp] theorem applyFeedback_refresh (f : Feedback) : (applyFeedback f s).refresh = s.refresh :=
  (congrArg State.refresh (applyFeedback_frame s f) :)
@[simp] theorem applyFeedback_forwards (f : Feedback) : (applyFeedback f s).forwards = s.forwards :=
  (congrArg State.forwards (applyFeedback_frame s f) :)
@[simp] theorem applyFeedback_reportedNodes (f : Feedback) : (applyFeedback f s).reportedNodes = s.reportedNodes :=
  (congrArg State.reportedNodes (applyFeedback_frame s f) :)
@[simp] theorem applyFeedback_fences (f : Feedback) : (applyFeedback f s).fences = s.fences :=
  (congrArg State.fences (applyFeedback_frame s f) :)
@[simp] theorem applyFeedback_windClass (f : Feedback) : (applyFeedback f s).windClass = s.windClass :=
  (congrArg State.windClass (applyFeedback_frame s f) :)
@[simp] theorem applyFeedback_weatherStale (f : Feedback) : (applyFeedback f s).weatherStale = s.weatherStale :=
  (congrArg State.weatherStale (applyFeedback_frame s f) :)
@[simp] theorem applyFeedback_weatherTimer (f : Feedback) : (applyFeedback f s).weatherTimer = s.weatherTimer :=
  (congrArg State.weatherTimer (applyFeedback_frame s f) :)
@[simp] theorem applyFeedback_press (f : Feedback) : (applyFeedback f s).press = s.press :=
  (congrArg State.press (applyFeedback_frame s f) :)
@[simp] theorem applyFeedback_pressTime (f : Feedback) : (applyFeedback f s).pressTime = s.pressTime :=
  (congrArg State.pressTime (applyFeedback_frame s f) :)
@[simp] theorem applyFeedback_longTime (f : Feedback) : (applyFeedback f s).longTime = s.longTime :=
  (congrArg State.longTime (applyFeedback_frame s f) :)
@[simp] theorem applyFeedback_operatorHold (f : Feedback) : (applyFeedback f s).operatorHold = s.operatorHold :=
  (congrArg State.operatorHold (applyFeedback_frame s f) :)
@[simp] theorem applyFeedback_lines (f : Feedback) : (applyFeedback f s).lines = s.lines :=
  (congrArg State.lines (applyFeedback_frame s f) :)
@[simp] theorem applyFeedback_deferred (f : Feedback) : (applyFeedback f s).deferred = s.deferred :=
  (congrArg State.deferred (applyFeedback_frame s f) :)
@[simp] theorem applyFeedback_backoff (f : Feedback) : (applyFeedback f s).backoff = s.backoff :=
  (congrArg State.backoff (applyFeedback_frame s f) :)
@[simp] theorem applyFeedback_highPtr (f : Feedback) : (applyFeedback f s).highPtr = s.highPtr :=
  (congrArg State.highPtr (applyFeedback_frame s f) :)
@[simp] theorem applyFeedback_lowPtr (f : Feedback) : (applyFeedback f s).lowPtr = s.lowPtr :=
  (congrArg State.lowPtr (applyFeedback_frame s f) :)
@[simp] theorem applyFeedback_openGrant (f : Feedback) : (applyFeedback f s).openGrant = s.openGrant :=
  (congrArg State.openGrant (applyFeedback_frame s f) :)
@[simp] theorem applyFeedback_grantRecs (f : Feedback) : (applyFeedback f s).grantRecs = s.grantRecs :=
  (congrArg State.grantRecs (applyFeedback_frame s f) :)
@[simp] theorem applyFeedback_watchdog (f : Feedback) : (applyFeedback f s).watchdog = s.watchdog :=
  (congrArg State.watchdog (applyFeedback_frame s f) :)
@[simp] theorem applyFeedback_watchdogTimer (f : Feedback) : (applyFeedback f s).watchdogTimer = s.watchdogTimer :=
  (congrArg State.watchdogTimer (applyFeedback_frame s f) :)
@[simp] theorem applyFeedback_olderArrival (f : Feedback) : (applyFeedback f s).olderArrival = s.olderArrival :=
  (congrArg State.olderArrival (applyFeedback_frame s f) :)
@[simp] theorem applyFeedback_newerArrival (f : Feedback) : (applyFeedback f s).newerArrival = s.newerArrival :=
  (congrArg State.newerArrival (applyFeedback_frame s f) :)
@[simp] theorem applyFeedback_substituteTimer (f : Feedback) : (applyFeedback f s).substituteTimer = s.substituteTimer :=
  (congrArg State.substituteTimer (applyFeedback_frame s f) :)
@[simp] theorem applyFeedback_lastCycle (f : Feedback) : (applyFeedback f s).lastCycle = s.lastCycle :=
  (congrArg State.lastCycle (applyFeedback_frame s f) :)
@[simp] theorem applyFeedback_due (f : Feedback) : (applyFeedback f s).due = s.due :=
  (congrArg State.due (applyFeedback_frame s f) :)
@[simp] theorem applyFeedback_frameClass (f : Feedback) : (applyFeedback f s).frameClass = s.frameClass :=
  (congrArg State.frameClass (applyFeedback_frame s f) :)
@[simp] theorem applyFeedback_inReset (f : Feedback) : (applyFeedback f s).inReset = s.inReset :=
  (congrArg State.inReset (applyFeedback_frame s f) :)
@[simp] theorem applyFeedback_holdnLow (f : Feedback) : (applyFeedback f s).holdnLow = s.holdnLow :=
  (congrArg State.holdnLow (applyFeedback_frame s f) :)
@[simp] theorem applyFeedback_sampled (f : Feedback) : (applyFeedback f s).sampled = s.sampled :=
  (congrArg State.sampled (applyFeedback_frame s f) :)
@[simp] theorem applyFeedback_faultnLow (f : Feedback) : (applyFeedback f s).faultnLow = s.faultnLow :=
  (congrArg State.faultnLow (applyFeedback_frame s f) :)

end Sys2Proof.Machine
end

