-- ==== Sys2Proof/Laws/Events.lean ====
section
/-!
SUPPORT. The frames of what the other events do: arrivals, management commands, completions, timers and presses. For each one
lemma says which fields it can change, the others give the fields it cannot.
-/
namespace Sys2Proof.Machine

variable (s : State)

/-- A kick touches the watchdog timer (R172). -/
theorem kickWatchdog_frame :
    kickWatchdog s = { s with
    watchdogTimer := (kickWatchdog s).watchdogTimer } := by
  unfold kickWatchdog
  repeat' split
  all_goals apply State.ext_fields <;> simp

@[simp] theorem kickWatchdog_pending : (kickWatchdog s).pending = s.pending :=
  (congrArg State.pending (kickWatchdog_frame s) :)
@[simp] theorem kickWatchdog_now : (kickWatchdog s).now = s.now :=
  (congrArg State.now (kickWatchdog_frame s) :)
@[simp] theorem kickWatchdog_draws : (kickWatchdog s).draws = s.draws :=
  (congrArg State.draws (kickWatchdog_frame s) :)
@[simp] theorem kickWatchdog_up : (kickWatchdog s).up = s.up :=
  (congrArg State.up (kickWatchdog_frame s) :)
@[simp] theorem kickWatchdog_down : (kickWatchdog s).down = s.down :=
  (congrArg State.down (kickWatchdog_frame s) :)
@[simp] theorem kickWatchdog_waiting : (kickWatchdog s).waiting = s.waiting :=
  (congrArg State.waiting (kickWatchdog_frame s) :)
@[simp] theorem kickWatchdog_bankPresent : (kickWatchdog s).bankPresent = s.bankPresent :=
  (congrArg State.bankPresent (kickWatchdog_frame s) :)
@[simp] theorem kickWatchdog_active : (kickWatchdog s).active = s.active :=
  (congrArg State.active (kickWatchdog_frame s) :)
@[simp] theorem kickWatchdog_verifiedCrc : (kickWatchdog s).verifiedCrc = s.verifiedCrc :=
  (congrArg State.verifiedCrc (kickWatchdog_frame s) :)
@[simp] theorem kickWatchdog_pendingBank : (kickWatchdog s).pendingBank = s.pendingBank :=
  (congrArg State.pendingBank (kickWatchdog_frame s) :)
@[simp] theorem kickWatchdog_pendingState : (kickWatchdog s).pendingState = s.pendingState :=
  (congrArg State.pendingState (kickWatchdog_frame s) :)
@[simp] theorem kickWatchdog_expectedCrc : (kickWatchdog s).expectedCrc = s.expectedCrc :=
  (congrArg State.expectedCrc (kickWatchdog_frame s) :)
@[simp] theorem kickWatchdog_pendingCrc : (kickWatchdog s).pendingCrc = s.pendingCrc :=
  (congrArg State.pendingCrc (kickWatchdog_frame s) :)
@[simp] theorem kickWatchdog_refresh : (kickWatchdog s).refresh = s.refresh :=
  (congrArg State.refresh (kickWatchdog_frame s) :)
@[simp] theorem kickWatchdog_axes : (kickWatchdog s).axes = s.axes :=
  (congrArg State.axes (kickWatchdog_frame s) :)
@[simp] theorem kickWatchdog_forwards : (kickWatchdog s).forwards = s.forwards :=
  (congrArg State.forwards (kickWatchdog_frame s) :)
@[simp] theorem kickWatchdog_reportedNodes : (kickWatchdog s).reportedNodes = s.reportedNodes :=
  (congrArg State.reportedNodes (kickWatchdog_frame s) :)
@[simp] theorem kickWatchdog_gangs : (kickWatchdog s).gangs = s.gangs :=
  (congrArg State.gangs (kickWatchdog_frame s) :)
@[simp] theorem kickWatchdog_fences : (kickWatchdog s).fences = s.fences :=
  (congrArg State.fences (kickWatchdog_frame s) :)
@[simp] theorem kickWatchdog_windClass : (kickWatchdog s).windClass = s.windClass :=
  (congrArg State.windClass (kickWatchdog_frame s) :)
@[simp] theorem kickWatchdog_weatherStale : (kickWatchdog s).weatherStale = s.weatherStale :=
  (congrArg State.weatherStale (kickWatchdog_frame s) :)
@[simp] theorem kickWatchdog_weatherTimer : (kickWatchdog s).weatherTimer = s.weatherTimer :=
  (congrArg State.weatherTimer (kickWatchdog_frame s) :)
@[simp] theorem kickWatchdog_press : (kickWatchdog s).press = s.press :=
  (congrArg State.press (kickWatchdog_frame s) :)
@[simp] theorem kickWatchdog_pressTime : (kickWatchdog s).pressTime = s.pressTime :=
  (congrArg State.pressTime (kickWatchdog_frame s) :)
@[simp] theorem kickWatchdog_longTime : (kickWatchdog s).longTime = s.longTime :=
  (congrArg State.longTime (kickWatchdog_frame s) :)
@[simp] theorem kickWatchdog_operatorHold : (kickWatchdog s).operatorHold = s.operatorHold :=
  (congrArg State.operatorHold (kickWatchdog_frame s) :)
@[simp] theorem kickWatchdog_lines : (kickWatchdog s).lines = s.lines :=
  (congrArg State.lines (kickWatchdog_frame s) :)
@[simp] theorem kickWatchdog_deferred : (kickWatchdog s).deferred = s.deferred :=
  (congrArg State.deferred (kickWatchdog_frame s) :)
@[simp] theorem kickWatchdog_backoff : (kickWatchdog s).backoff = s.backoff :=
  (congrArg State.backoff (kickWatchdog_frame s) :)
@[simp] theorem kickWatchdog_highPtr : (kickWatchdog s).highPtr = s.highPtr :=
  (congrArg State.highPtr (kickWatchdog_frame s) :)
@[simp] theorem kickWatchdog_lowPtr : (kickWatchdog s).lowPtr = s.lowPtr :=
  (congrArg State.lowPtr (kickWatchdog_frame s) :)
@[simp] theorem kickWatchdog_openGrant : (kickWatchdog s).openGrant = s.openGrant :=
  (congrArg State.openGrant (kickWatchdog_frame s) :)
@[simp] theorem kickWatchdog_grantRecs : (kickWatchdog s).grantRecs = s.grantRecs :=
  (congrArg State.grantRecs (kickWatchdog_frame s) :)
@[simp] theorem kickWatchdog_watchdog : (kickWatchdog s).watchdog = s.watchdog :=
  (congrArg State.watchdog (kickWatchdog_frame s) :)
@[simp] theorem kickWatchdog_olderArrival : (kickWatchdog s).olderArrival = s.olderArrival :=
  (congrArg State.olderArrival (kickWatchdog_frame s) :)
@[simp] theorem kickWatchdog_newerArrival : (kickWatchdog s).newerArrival = s.newerArrival :=
  (congrArg State.newerArrival (kickWatchdog_frame s) :)
@[simp] theorem kickWatchdog_substituteTimer : (kickWatchdog s).substituteTimer = s.substituteTimer :=
  (congrArg State.substituteTimer (kickWatchdog_frame s) :)
@[simp] theorem kickWatchdog_lastCycle : (kickWatchdog s).lastCycle = s.lastCycle :=
  (congrArg State.lastCycle (kickWatchdog_frame s) :)
@[simp] theorem kickWatchdog_flags : (kickWatchdog s).flags = s.flags :=
  (congrArg State.flags (kickWatchdog_frame s) :)
@[simp] theorem kickWatchdog_events : (kickWatchdog s).events = s.events :=
  (congrArg State.events (kickWatchdog_frame s) :)
@[simp] theorem kickWatchdog_due : (kickWatchdog s).due = s.due :=
  (congrArg State.due (kickWatchdog_frame s) :)
@[simp] theorem kickWatchdog_frameClass : (kickWatchdog s).frameClass = s.frameClass :=
  (congrArg State.frameClass (kickWatchdog_frame s) :)
@[simp] theorem kickWatchdog_inReset : (kickWatchdog s).inReset = s.inReset :=
  (congrArg State.inReset (kickWatchdog_frame s) :)
@[simp] theorem kickWatchdog_holdnLow : (kickWatchdog s).holdnLow = s.holdnLow :=
  (congrArg State.holdnLow (kickWatchdog_frame s) :)
@[simp] theorem kickWatchdog_sampled : (kickWatchdog s).sampled = s.sampled :=
  (congrArg State.sampled (kickWatchdog_frame s) :)
@[simp] theorem kickWatchdog_faultnLow : (kickWatchdog s).faultnLow = s.faultnLow :=
  (congrArg State.faultnLow (kickWatchdog_frame s) :)

/-- A reported setpoint frame touches the watchdog and its history (R172, R175). -/
theorem reportSetpoint_frame :
    reportSetpoint s = { s with
    olderArrival := (reportSetpoint s).olderArrival, newerArrival := (reportSetpoint s).newerArrival,
    watchdog := (reportSetpoint s).watchdog, watchdogTimer := (reportSetpoint s).watchdogTimer,
    substituteTimer := (reportSetpoint s).substituteTimer } := by
  unfold reportSetpoint kickWatchdog
  (try dsimp only)
  repeat' split
  all_goals apply State.ext_fields <;> simp

@[simp] theorem reportSetpoint_pending : (reportSetpoint s).pending = s.pending :=
  (congrArg State.pending (reportSetpoint_frame s) :)
@[simp] theorem reportSetpoint_now : (reportSetpoint s).now = s.now :=
  (congrArg State.now (reportSetpoint_frame s) :)
@[simp] theorem reportSetpoint_draws : (reportSetpoint s).draws = s.draws :=
  (congrArg State.draws (reportSetpoint_frame s) :)
@[simp] theorem reportSetpoint_up : (reportSetpoint s).up = s.up :=
  (congrArg State.up (reportSetpoint_frame s) :)
@[simp] theorem reportSetpoint_down : (reportSetpoint s).down = s.down :=
  (congrArg State.down (reportSetpoint_frame s) :)
@[simp] theorem reportSetpoint_waiting : (reportSetpoint s).waiting = s.waiting :=
  (congrArg State.waiting (reportSetpoint_frame s) :)
@[simp] theorem reportSetpoint_bankPresent : (reportSetpoint s).bankPresent = s.bankPresent :=
  (congrArg State.bankPresent (reportSetpoint_frame s) :)
@[simp] theorem reportSetpoint_active : (reportSetpoint s).active = s.active :=
  (congrArg State.active (reportSetpoint_frame s) :)
@[simp] theorem reportSetpoint_verifiedCrc : (reportSetpoint s).verifiedCrc = s.verifiedCrc :=
  (congrArg State.verifiedCrc (reportSetpoint_frame s) :)
@[simp] theorem reportSetpoint_pendingBank : (reportSetpoint s).pendingBank = s.pendingBank :=
  (congrArg State.pendingBank (reportSetpoint_frame s) :)
@[simp] theorem reportSetpoint_pendingState : (reportSetpoint s).pendingState = s.pendingState :=
  (congrArg State.pendingState (reportSetpoint_frame s) :)
@[simp] theorem reportSetpoint_expectedCrc : (reportSetpoint s).expectedCrc = s.expectedCrc :=
  (congrArg State.expectedCrc (reportSetpoint_frame s) :)
@[simp] theorem reportSetpoint_pendingCrc : (reportSetpoint s).pendingCrc = s.pendingCrc :=
  (congrArg State.pendingCrc (reportSetpoint_frame s) :)
@[simp] theorem reportSetpoint_refresh : (reportSetpoint s).refresh = s.refresh :=
  (congrArg State.refresh (reportSetpoint_frame s) :)
@[simp] theorem reportSetpoint_axes : (reportSetpoint s).axes = s.axes :=
  (congrArg State.axes (reportSetpoint_frame s) :)
@[simp] theorem reportSetpoint_forwards : (reportSetpoint s).forwards = s.forwards :=
  (congrArg State.forwards (reportSetpoint_frame s) :)
@[simp] theorem reportSetpoint_reportedNodes : (reportSetpoint s).reportedNodes = s.reportedNodes :=
  (congrArg State.reportedNodes (reportSetpoint_frame s) :)
@[simp] theorem reportSetpoint_gangs : (reportSetpoint s).gangs = s.gangs :=
  (congrArg State.gangs (reportSetpoint_frame s) :)
@[simp] theorem reportSetpoint_fences : (reportSetpoint s).fences = s.fences :=
  (congrArg State.fences (reportSetpoint_frame s) :)
@[simp] theorem reportSetpoint_windClass : (reportSetpoint s).windClass = s.windClass :=
  (congrArg State.windClass (reportSetpoint_frame s) :)
@[simp] theorem reportSetpoint_weatherStale : (reportSetpoint s).weatherStale = s.weatherStale :=
  (congrArg State.weatherStale (reportSetpoint_frame s) :)
@[simp] theorem reportSetpoint_weatherTimer : (reportSetpoint s).weatherTimer = s.weatherTimer :=
  (congrArg State.weatherTimer (reportSetpoint_frame s) :)
@[simp] theorem reportSetpoint_press : (reportSetpoint s).press = s.press :=
  (congrArg State.press (reportSetpoint_frame s) :)
@[simp] theorem reportSetpoint_pressTime : (reportSetpoint s).pressTime = s.pressTime :=
  (congrArg State.pressTime (reportSetpoint_frame s) :)
@[simp] theorem reportSetpoint_longTime : (reportSetpoint s).longTime = s.longTime :=
  (congrArg State.longTime (reportSetpoint_frame s) :)
@[simp] theorem reportSetpoint_operatorHold : (reportSetpoint s).operatorHold = s.operatorHold :=
  (congrArg State.operatorHold (reportSetpoint_frame s) :)
@[simp] theorem reportSetpoint_lines : (reportSetpoint s).lines = s.lines :=
  (congrArg State.lines (reportSetpoint_frame s) :)
@[simp] theorem reportSetpoint_deferred : (reportSetpoint s).deferred = s.deferred :=
  (congrArg State.deferred (reportSetpoint_frame s) :)
@[simp] theorem reportSetpoint_backoff : (reportSetpoint s).backoff = s.backoff :=
  (congrArg State.backoff (reportSetpoint_frame s) :)
@[simp] theorem reportSetpoint_highPtr : (reportSetpoint s).highPtr = s.highPtr :=
  (congrArg State.highPtr (reportSetpoint_frame s) :)
@[simp] theorem reportSetpoint_lowPtr : (reportSetpoint s).lowPtr = s.lowPtr :=
  (congrArg State.lowPtr (reportSetpoint_frame s) :)
@[simp] theorem reportSetpoint_openGrant : (reportSetpoint s).openGrant = s.openGrant :=
  (congrArg State.openGrant (reportSetpoint_frame s) :)
@[simp] theorem reportSetpoint_grantRecs : (reportSetpoint s).grantRecs = s.grantRecs :=
  (congrArg State.grantRecs (reportSetpoint_frame s) :)
@[simp] theorem reportSetpoint_lastCycle : (reportSetpoint s).lastCycle = s.lastCycle :=
  (congrArg State.lastCycle (reportSetpoint_frame s) :)
@[simp] theorem reportSetpoint_flags : (reportSetpoint s).flags = s.flags :=
  (congrArg State.flags (reportSetpoint_frame s) :)
@[simp] theorem reportSetpoint_events : (reportSetpoint s).events = s.events :=
  (congrArg State.events (reportSetpoint_frame s) :)
@[simp] theorem reportSetpoint_due : (reportSetpoint s).due = s.due :=
  (congrArg State.due (reportSetpoint_frame s) :)
@[simp] theorem reportSetpoint_frameClass : (reportSetpoint s).frameClass = s.frameClass :=
  (congrArg State.frameClass (reportSetpoint_frame s) :)
@[simp] theorem reportSetpoint_inReset : (reportSetpoint s).inReset = s.inReset :=
  (congrArg State.inReset (reportSetpoint_frame s) :)
@[simp] theorem reportSetpoint_holdnLow : (reportSetpoint s).holdnLow = s.holdnLow :=
  (congrArg State.holdnLow (reportSetpoint_frame s) :)
@[simp] theorem reportSetpoint_sampled : (reportSetpoint s).sampled = s.sampled :=
  (congrArg State.sampled (reportSetpoint_frame s) :)
@[simp] theorem reportSetpoint_faultnLow : (reportSetpoint s).faultnLow = s.faultnLow :=
  (congrArg State.faultnLow (reportSetpoint_frame s) :)

/-- A controller setpoint frame is reported and waits where there is a place; at an unconfigured bridge with a bank that waits
for the swap, and a place free, the swap comes between the two (R162, R168, R170). -/
theorem takeSetpoint_cases (f : Frame) :
    (s.bankPresent = false ∧ s.pendingState = .readyToSwap ∧ s.waiting.length < 4 ∧
      takeSetpoint f s =
        { swapBanks (.controller s.now) (reportSetpoint s) with
          waiting := s.waiting ++ [{ origin := .controller s.now, bytes := f }] }) ∨
      ((s.bankPresent = true ∨ s.pendingState ≠ .readyToSwap ∨ 4 ≤ s.waiting.length) ∧
        takeSetpoint f s = (reportSetpoint s).enqueueSetpoint { origin := .controller s.now, bytes := f }) := by
  by_cases h : s.swapsAtArrival = true
  · have h' : (s.bankPresent = false ∧ s.pendingState = .readyToSwap) ∧ s.waiting.length < Config.waitingDepth := by
      simpa [State.swapsAtArrival] using h
    refine .inl ⟨h'.1.1, h'.1.2, h'.2, ?_⟩
    simp only [takeSetpoint, h, if_true, State.enqueueSetpoint, swapBanks_waiting, reportSetpoint_waiting, h'.2]
  · refine .inr ⟨?_, by simp only [takeSetpoint, h, if_false, Bool.false_eq_true]⟩
    cases hb : s.bankPresent with
    | true => exact .inl rfl
    | false =>
      by_cases hp : s.pendingState = .readyToSwap
      · have h' : Config.waitingDepth ≤ s.waiting.length := by simpa [State.swapsAtArrival, hb, hp] using h
        exact .inr (.inr h')
      · exact .inr (.inl hp)

/-- A controller setpoint frame touches the watchdog, its history and the waiting frames, and what a swap touches (R162,
R168). -/
theorem takeSetpoint_frame (f : Frame) :
    takeSetpoint f s = { s with
    waiting := (takeSetpoint f s).waiting, bankPresent := (takeSetpoint f s).bankPresent,
    active := (takeSetpoint f s).active, verifiedCrc := (takeSetpoint f s).verifiedCrc,
    pendingBank := (takeSetpoint f s).pendingBank, pendingState := (takeSetpoint f s).pendingState,
    expectedCrc := (takeSetpoint f s).expectedCrc, pendingCrc := (takeSetpoint f s).pendingCrc,
    axes := (takeSetpoint f s).axes, forwards := (takeSetpoint f s).forwards, gangs := (takeSetpoint f s).gangs,
    fences := (takeSetpoint f s).fences, windClass := (takeSetpoint f s).windClass,
    weatherStale := (takeSetpoint f s).weatherStale, weatherTimer := (takeSetpoint f s).weatherTimer,
    lines := (takeSetpoint f s).lines, deferred := (takeSetpoint f s).deferred,
    backoff := (takeSetpoint f s).backoff, openGrant := (takeSetpoint f s).openGrant,
    grantRecs := (takeSetpoint f s).grantRecs, watchdog := (takeSetpoint f s).watchdog,
    watchdogTimer := (takeSetpoint f s).watchdogTimer, olderArrival := (takeSetpoint f s).olderArrival,
    newerArrival := (takeSetpoint f s).newerArrival, substituteTimer := (takeSetpoint f s).substituteTimer,
    flags := (takeSetpoint f s).flags, events := (takeSetpoint f s).events,
    frameClass := (takeSetpoint f s).frameClass } := by
  unfold takeSetpoint
  split <;> apply State.ext_fields <;> simp

@[simp] theorem takeSetpoint_pending (f : Frame) : (takeSetpoint f s).pending = s.pending :=
  (congrArg State.pending (takeSetpoint_frame s f) :)
@[simp] theorem takeSetpoint_now (f : Frame) : (takeSetpoint f s).now = s.now :=
  (congrArg State.now (takeSetpoint_frame s f) :)
@[simp] theorem takeSetpoint_draws (f : Frame) : (takeSetpoint f s).draws = s.draws :=
  (congrArg State.draws (takeSetpoint_frame s f) :)
@[simp] theorem takeSetpoint_up (f : Frame) : (takeSetpoint f s).up = s.up :=
  (congrArg State.up (takeSetpoint_frame s f) :)
@[simp] theorem takeSetpoint_down (f : Frame) : (takeSetpoint f s).down = s.down :=
  (congrArg State.down (takeSetpoint_frame s f) :)
@[simp] theorem takeSetpoint_refresh (f : Frame) : (takeSetpoint f s).refresh = s.refresh :=
  (congrArg State.refresh (takeSetpoint_frame s f) :)
@[simp] theorem takeSetpoint_reportedNodes (f : Frame) : (takeSetpoint f s).reportedNodes = s.reportedNodes :=
  (congrArg State.reportedNodes (takeSetpoint_frame s f) :)
@[simp] theorem takeSetpoint_press (f : Frame) : (takeSetpoint f s).press = s.press :=
  (congrArg State.press (takeSetpoint_frame s f) :)
@[simp] theorem takeSetpoint_pressTime (f : Frame) : (takeSetpoint f s).pressTime = s.pressTime :=
  (congrArg State.pressTime (takeSetpoint_frame s f) :)
@[simp] theorem takeSetpoint_longTime (f : Frame) : (takeSetpoint f s).longTime = s.longTime :=
  (congrArg State.longTime (takeSetpoint_frame s f) :)
@[simp] theorem takeSetpoint_operatorHold (f : Frame) : (takeSetpoint f s).operatorHold = s.operatorHold :=
  (congrArg State.operatorHold (takeSetpoint_frame s f) :)
@[simp] theorem takeSetpoint_highPtr (f : Frame) : (takeSetpoint f s).highPtr = s.highPtr :=
  (congrArg State.highPtr (takeSetpoint_frame s f) :)
@[simp] theorem takeSetpoint_lowPtr (f : Frame) : (takeSetpoint f s).lowPtr = s.lowPtr :=
  (congrArg State.lowPtr (takeSetpoint_frame s f) :)
@[simp] theorem takeSetpoint_lastCycle (f : Frame) : (takeSetpoint f s).lastCycle = s.lastCycle :=
  (congrArg State.lastCycle (takeSetpoint_frame s f) :)
@[simp] theorem takeSetpoint_due (f : Frame) : (takeSetpoint f s).due = s.due :=
  (congrArg State.due (takeSetpoint_frame s f) :)
@[simp] theorem takeSetpoint_inReset (f : Frame) : (takeSetpoint f s).inReset = s.inReset :=
  (congrArg State.inReset (takeSetpoint_frame s f) :)
@[simp] theorem takeSetpoint_holdnLow (f : Frame) : (takeSetpoint f s).holdnLow = s.holdnLow :=
  (congrArg State.holdnLow (takeSetpoint_frame s f) :)
@[simp] theorem takeSetpoint_sampled (f : Frame) : (takeSetpoint f s).sampled = s.sampled :=
  (congrArg State.sampled (takeSetpoint_frame s f) :)
@[simp] theorem takeSetpoint_faultnLow (f : Frame) : (takeSetpoint f s).faultnLow = s.faultnLow :=
  (congrArg State.faultnLow (takeSetpoint_frame s f) :)

/-- A weather arrival touches the wind state, the gangs, the event queue and the flags (R91, R94). -/
theorem weatherArrives_frame (gust : Int) :
    weatherArrives gust s = { s with
    windClass := (weatherArrives gust s).windClass, frameClass := (weatherArrives gust s).frameClass,
    weatherStale := (weatherArrives gust s).weatherStale,
    weatherTimer := (weatherArrives gust s).weatherTimer, gangs := (weatherArrives gust s).gangs,
    events := (weatherArrives gust s).events, flags := (weatherArrives gust s).flags } := by
  unfold weatherArrives
  (try dsimp only)
  all_goals apply State.ext_fields <;> simp

@[simp] theorem weatherArrives_pending (gust : Int) : (weatherArrives gust s).pending = s.pending :=
  (congrArg State.pending (weatherArrives_frame s gust) :)
@[simp] theorem weatherArrives_now (gust : Int) : (weatherArrives gust s).now = s.now :=
  (congrArg State.now (weatherArrives_frame s gust) :)
@[simp] theorem weatherArrives_draws (gust : Int) : (weatherArrives gust s).draws = s.draws :=
  (congrArg State.draws (weatherArrives_frame s gust) :)
@[simp] theorem weatherArrives_up (gust : Int) : (weatherArrives gust s).up = s.up :=
  (congrArg State.up (weatherArrives_frame s gust) :)
@[simp] theorem weatherArrives_down (gust : Int) : (weatherArrives gust s).down = s.down :=
  (congrArg State.down (weatherArrives_frame s gust) :)
@[simp] theorem weatherArrives_waiting (gust : Int) : (weatherArrives gust s).waiting = s.waiting :=
  (congrArg State.waiting (weatherArrives_frame s gust) :)
@[simp] theorem weatherArrives_bankPresent (gust : Int) : (weatherArrives gust s).bankPresent = s.bankPresent :=
  (congrArg State.bankPresent (weatherArrives_frame s gust) :)
@[simp] theorem weatherArrives_active (gust : Int) : (weatherArrives gust s).active = s.active :=
  (congrArg State.active (weatherArrives_frame s gust) :)
@[simp] theorem weatherArrives_verifiedCrc (gust : Int) : (weatherArrives gust s).verifiedCrc = s.verifiedCrc :=
  (congrArg State.verifiedCrc (weatherArrives_frame s gust) :)
@[simp] theorem weatherArrives_pendingBank (gust : Int) : (weatherArrives gust s).pendingBank = s.pendingBank :=
  (congrArg State.pendingBank (weatherArrives_frame s gust) :)
@[simp] theorem weatherArrives_pendingState (gust : Int) : (weatherArrives gust s).pendingState = s.pendingState :=
  (congrArg State.pendingState (weatherArrives_frame s gust) :)
@[simp] theorem weatherArrives_expectedCrc (gust : Int) : (weatherArrives gust s).expectedCrc = s.expectedCrc :=
  (congrArg State.expectedCrc (weatherArrives_frame s gust) :)
@[simp] theorem weatherArrives_pendingCrc (gust : Int) : (weatherArrives gust s).pendingCrc = s.pendingCrc :=
  (congrArg State.pendingCrc (weatherArrives_frame s gust) :)
@[simp] theorem weatherArrives_refresh (gust : Int) : (weatherArrives gust s).refresh = s.refresh :=
  (congrArg State.refresh (weatherArrives_frame s gust) :)
@[simp] theorem weatherArrives_axes (gust : Int) : (weatherArrives gust s).axes = s.axes :=
  (congrArg State.axes (weatherArrives_frame s gust) :)
@[simp] theorem weatherArrives_forwards (gust : Int) : (weatherArrives gust s).forwards = s.forwards :=
  (congrArg State.forwards (weatherArrives_frame s gust) :)
@[simp] theorem weatherArrives_reportedNodes (gust : Int) : (weatherArrives gust s).reportedNodes = s.reportedNodes :=
  (congrArg State.reportedNodes (weatherArrives_frame s gust) :)
@[simp] theorem weatherArrives_fences (gust : Int) : (weatherArrives gust s).fences = s.fences :=
  (congrArg State.fences (weatherArrives_frame s gust) :)
@[simp] theorem weatherArrives_press (gust : Int) : (weatherArrives gust s).press = s.press :=
  (congrArg State.press (weatherArrives_frame s gust) :)
@[simp] theorem weatherArrives_pressTime (gust : Int) : (weatherArrives gust s).pressTime = s.pressTime :=
  (congrArg State.pressTime (weatherArrives_frame s gust) :)
@[simp] theorem weatherArrives_longTime (gust : Int) : (weatherArrives gust s).longTime = s.longTime :=
  (congrArg State.longTime (weatherArrives_frame s gust) :)
@[simp] theorem weatherArrives_operatorHold (gust : Int) : (weatherArrives gust s).operatorHold = s.operatorHold :=
  (congrArg State.operatorHold (weatherArrives_frame s gust) :)
@[simp] theorem weatherArrives_lines (gust : Int) : (weatherArrives gust s).lines = s.lines :=
  (congrArg State.lines (weatherArrives_frame s gust) :)
@[simp] theorem weatherArrives_deferred (gust : Int) : (weatherArrives gust s).deferred = s.deferred :=
  (congrArg State.deferred (weatherArrives_frame s gust) :)
@[simp] theorem weatherArrives_backoff (gust : Int) : (weatherArrives gust s).backoff = s.backoff :=
  (congrArg State.backoff (weatherArrives_frame s gust) :)
@[simp] theorem weatherArrives_highPtr (gust : Int) : (weatherArrives gust s).highPtr = s.highPtr :=
  (congrArg State.highPtr (weatherArrives_frame s gust) :)
@[simp] theorem weatherArrives_lowPtr (gust : Int) : (weatherArrives gust s).lowPtr = s.lowPtr :=
  (congrArg State.lowPtr (weatherArrives_frame s gust) :)
@[simp] theorem weatherArrives_openGrant (gust : Int) : (weatherArrives gust s).openGrant = s.openGrant :=
  (congrArg State.openGrant (weatherArrives_frame s gust) :)
@[simp] theorem weatherArrives_grantRecs (gust : Int) : (weatherArrives gust s).grantRecs = s.grantRecs :=
  (congrArg State.grantRecs (weatherArrives_frame s gust) :)
@[simp] theorem weatherArrives_watchdog (gust : Int) : (weatherArrives gust s).watchdog = s.watchdog :=
  (congrArg State.watchdog (weatherArrives_frame s gust) :)
@[simp] theorem weatherArrives_watchdogTimer (gust : Int) : (weatherArrives gust s).watchdogTimer = s.watchdogTimer :=
  (congrArg State.watchdogTimer (weatherArrives_frame s gust) :)
@[simp] theorem weatherArrives_olderArrival (gust : Int) : (weatherArrives gust s).olderArrival = s.olderArrival :=
  (congrArg State.olderArrival (weatherArrives_frame s gust) :)
@[simp] theorem weatherArrives_newerArrival (gust : Int) : (weatherArrives gust s).newerArrival = s.newerArrival :=
  (congrArg State.newerArrival (weatherArrives_frame s gust) :)
@[simp] theorem weatherArrives_substituteTimer (gust : Int) : (weatherArrives gust s).substituteTimer = s.substituteTimer :=
  (congrArg State.substituteTimer (weatherArrives_frame s gust) :)
@[simp] theorem weatherArrives_lastCycle (gust : Int) : (weatherArrives gust s).lastCycle = s.lastCycle :=
  (congrArg State.lastCycle (weatherArrives_frame s gust) :)
@[simp] theorem weatherArrives_due (gust : Int) : (weatherArrives gust s).due = s.due :=
  (congrArg State.due (weatherArrives_frame s gust) :)
@[simp] theorem weatherArrives_inReset (gust : Int) : (weatherArrives gust s).inReset = s.inReset :=
  (congrArg State.inReset (weatherArrives_frame s gust) :)
@[simp] theorem weatherArrives_holdnLow (gust : Int) : (weatherArrives gust s).holdnLow = s.holdnLow :=
  (congrArg State.holdnLow (weatherArrives_frame s gust) :)
@[simp] theorem weatherArrives_sampled (gust : Int) : (weatherArrives gust s).sampled = s.sampled :=
  (congrArg State.sampled (weatherArrives_frame s gust) :)
@[simp] theorem weatherArrives_faultnLow (gust : Int) : (weatherArrives gust s).faultnLow = s.faultnLow :=
  (congrArg State.faultnLow (weatherArrives_frame s gust) :)

/-- As a weather arrival (R90). -/
theorem applyWeather_frame (p : List Byte) :
    applyWeather p s = { s with
    windClass := (applyWeather p s).windClass, frameClass := (applyWeather p s).frameClass,
    weatherStale := (applyWeather p s).weatherStale,
    weatherTimer := (applyWeather p s).weatherTimer, gangs := (applyWeather p s).gangs,
    events := (applyWeather p s).events, flags := (applyWeather p s).flags } := by
  unfold applyWeather
  repeat' split
  all_goals apply State.ext_fields <;> simp

@[simp] theorem applyWeather_pending (p : List Byte) : (applyWeather p s).pending = s.pending :=
  (congrArg State.pending (applyWeather_frame s p) :)
@[simp] theorem applyWeather_now (p : List Byte) : (applyWeather p s).now = s.now :=
  (congrArg State.now (applyWeather_frame s p) :)
@[simp] theorem applyWeather_draws (p : List Byte) : (applyWeather p s).draws = s.draws :=
  (congrArg State.draws (applyWeather_frame s p) :)
@[simp] theorem applyWeather_up (p : List Byte) : (applyWeather p s).up = s.up :=
  (congrArg State.up (applyWeather_frame s p) :)
@[simp] theorem applyWeather_down (p : List Byte) : (applyWeather p s).down = s.down :=
  (congrArg State.down (applyWeather_frame s p) :)
@[simp] theorem applyWeather_waiting (p : List Byte) : (applyWeather p s).waiting = s.waiting :=
  (congrArg State.waiting (applyWeather_frame s p) :)
@[simp] theorem applyWeather_bankPresent (p : List Byte) : (applyWeather p s).bankPresent = s.bankPresent :=
  (congrArg State.bankPresent (applyWeather_frame s p) :)
@[simp] theorem applyWeather_active (p : List Byte) : (applyWeather p s).active = s.active :=
  (congrArg State.active (applyWeather_frame s p) :)
@[simp] theorem applyWeather_verifiedCrc (p : List Byte) : (applyWeather p s).verifiedCrc = s.verifiedCrc :=
  (congrArg State.verifiedCrc (applyWeather_frame s p) :)
@[simp] theorem applyWeather_pendingBank (p : List Byte) : (applyWeather p s).pendingBank = s.pendingBank :=
  (congrArg State.pendingBank (applyWeather_frame s p) :)
@[simp] theorem applyWeather_pendingState (p : List Byte) : (applyWeather p s).pendingState = s.pendingState :=
  (congrArg State.pendingState (applyWeather_frame s p) :)
@[simp] theorem applyWeather_expectedCrc (p : List Byte) : (applyWeather p s).expectedCrc = s.expectedCrc :=
  (congrArg State.expectedCrc (applyWeather_frame s p) :)
@[simp] theorem applyWeather_pendingCrc (p : List Byte) : (applyWeather p s).pendingCrc = s.pendingCrc :=
  (congrArg State.pendingCrc (applyWeather_frame s p) :)
@[simp] theorem applyWeather_refresh (p : List Byte) : (applyWeather p s).refresh = s.refresh :=
  (congrArg State.refresh (applyWeather_frame s p) :)
@[simp] theorem applyWeather_axes (p : List Byte) : (applyWeather p s).axes = s.axes :=
  (congrArg State.axes (applyWeather_frame s p) :)
@[simp] theorem applyWeather_forwards (p : List Byte) : (applyWeather p s).forwards = s.forwards :=
  (congrArg State.forwards (applyWeather_frame s p) :)
@[simp] theorem applyWeather_reportedNodes (p : List Byte) : (applyWeather p s).reportedNodes = s.reportedNodes :=
  (congrArg State.reportedNodes (applyWeather_frame s p) :)
@[simp] theorem applyWeather_fences (p : List Byte) : (applyWeather p s).fences = s.fences :=
  (congrArg State.fences (applyWeather_frame s p) :)
@[simp] theorem applyWeather_press (p : List Byte) : (applyWeather p s).press = s.press :=
  (congrArg State.press (applyWeather_frame s p) :)
@[simp] theorem applyWeather_pressTime (p : List Byte) : (applyWeather p s).pressTime = s.pressTime :=
  (congrArg State.pressTime (applyWeather_frame s p) :)
@[simp] theorem applyWeather_longTime (p : List Byte) : (applyWeather p s).longTime = s.longTime :=
  (congrArg State.longTime (applyWeather_frame s p) :)
@[simp] theorem applyWeather_operatorHold (p : List Byte) : (applyWeather p s).operatorHold = s.operatorHold :=
  (congrArg State.operatorHold (applyWeather_frame s p) :)
@[simp] theorem applyWeather_lines (p : List Byte) : (applyWeather p s).lines = s.lines :=
  (congrArg State.lines (applyWeather_frame s p) :)
@[simp] theorem applyWeather_deferred (p : List Byte) : (applyWeather p s).deferred = s.deferred :=
  (congrArg State.deferred (applyWeather_frame s p) :)
@[simp] theorem applyWeather_backoff (p : List Byte) : (applyWeather p s).backoff = s.backoff :=
  (congrArg State.backoff (applyWeather_frame s p) :)
@[simp] theorem applyWeather_highPtr (p : List Byte) : (applyWeather p s).highPtr = s.highPtr :=
  (congrArg State.highPtr (applyWeather_frame s p) :)
@[simp] theorem applyWeather_lowPtr (p : List Byte) : (applyWeather p s).lowPtr = s.lowPtr :=
  (congrArg State.lowPtr (applyWeather_frame s p) :)
@[simp] theorem applyWeather_openGrant (p : List Byte) : (applyWeather p s).openGrant = s.openGrant :=
  (congrArg State.openGrant (applyWeather_frame s p) :)
@[simp] theorem applyWeather_grantRecs (p : List Byte) : (applyWeather p s).grantRecs = s.grantRecs :=
  (congrArg State.grantRecs (applyWeather_frame s p) :)
@[simp] theorem applyWeather_watchdog (p : List Byte) : (applyWeather p s).watchdog = s.watchdog :=
  (congrArg State.watchdog (applyWeather_frame s p) :)
@[simp] theorem applyWeather_watchdogTimer (p : List Byte) : (applyWeather p s).watchdogTimer = s.watchdogTimer :=
  (congrArg State.watchdogTimer (applyWeather_frame s p) :)
@[simp] theorem applyWeather_olderArrival (p : List Byte) : (applyWeather p s).olderArrival = s.olderArrival :=
  (congrArg State.olderArrival (applyWeather_frame s p) :)
@[simp] theorem applyWeather_newerArrival (p : List Byte) : (applyWeather p s).newerArrival = s.newerArrival :=
  (congrArg State.newerArrival (applyWeather_frame s p) :)
@[simp] theorem applyWeather_substituteTimer (p : List Byte) : (applyWeather p s).substituteTimer = s.substituteTimer :=
  (congrArg State.substituteTimer (applyWeather_frame s p) :)
@[simp] theorem applyWeather_lastCycle (p : List Byte) : (applyWeather p s).lastCycle = s.lastCycle :=
  (congrArg State.lastCycle (applyWeather_frame s p) :)
@[simp] theorem applyWeather_due (p : List Byte) : (applyWeather p s).due = s.due :=
  (congrArg State.due (applyWeather_frame s p) :)
@[simp] theorem applyWeather_inReset (p : List Byte) : (applyWeather p s).inReset = s.inReset :=
  (congrArg State.inReset (applyWeather_frame s p) :)
@[simp] theorem applyWeather_holdnLow (p : List Byte) : (applyWeather p s).holdnLow = s.holdnLow :=
  (congrArg State.holdnLow (applyWeather_frame s p) :)
@[simp] theorem applyWeather_sampled (p : List Byte) : (applyWeather p s).sampled = s.sampled :=
  (congrArg State.sampled (applyWeather_frame s p) :)
@[simp] theorem applyWeather_faultnLow (p : List Byte) : (applyWeather p s).faultnLow = s.faultnLow :=
  (congrArg State.faultnLow (applyWeather_frame s p) :)

/-- Weather becoming stale touches the wind state, the gangs, the event queue and the flags (R93). -/
theorem weatherExpires_frame :
    weatherExpires s = { s with
    windClass := (weatherExpires s).windClass, frameClass := (weatherExpires s).frameClass,
    weatherStale := (weatherExpires s).weatherStale,
    weatherTimer := (weatherExpires s).weatherTimer, gangs := (weatherExpires s).gangs,
    events := (weatherExpires s).events, flags := (weatherExpires s).flags } := by
  unfold weatherExpires
  all_goals apply State.ext_fields <;> simp

@[simp] theorem weatherExpires_pending : (weatherExpires s).pending = s.pending :=
  (congrArg State.pending (weatherExpires_frame s) :)
@[simp] theorem weatherExpires_now : (weatherExpires s).now = s.now :=
  (congrArg State.now (weatherExpires_frame s) :)
@[simp] theorem weatherExpires_draws : (weatherExpires s).draws = s.draws :=
  (congrArg State.draws (weatherExpires_frame s) :)
@[simp] theorem weatherExpires_up : (weatherExpires s).up = s.up :=
  (congrArg State.up (weatherExpires_frame s) :)
@[simp] theorem weatherExpires_down : (weatherExpires s).down = s.down :=
  (congrArg State.down (weatherExpires_frame s) :)
@[simp] theorem weatherExpires_waiting : (weatherExpires s).waiting = s.waiting :=
  (congrArg State.waiting (weatherExpires_frame s) :)
@[simp] theorem weatherExpires_bankPresent : (weatherExpires s).bankPresent = s.bankPresent :=
  (congrArg State.bankPresent (weatherExpires_frame s) :)
@[simp] theorem weatherExpires_active : (weatherExpires s).active = s.active :=
  (congrArg State.active (weatherExpires_frame s) :)
@[simp] theorem weatherExpires_verifiedCrc : (weatherExpires s).verifiedCrc = s.verifiedCrc :=
  (congrArg State.verifiedCrc (weatherExpires_frame s) :)
@[simp] theorem weatherExpires_pendingBank : (weatherExpires s).pendingBank = s.pendingBank :=
  (congrArg State.pendingBank (weatherExpires_frame s) :)
@[simp] theorem weatherExpires_pendingState : (weatherExpires s).pendingState = s.pendingState :=
  (congrArg State.pendingState (weatherExpires_frame s) :)
@[simp] theorem weatherExpires_expectedCrc : (weatherExpires s).expectedCrc = s.expectedCrc :=
  (congrArg State.expectedCrc (weatherExpires_frame s) :)
@[simp] theorem weatherExpires_pendingCrc : (weatherExpires s).pendingCrc = s.pendingCrc :=
  (congrArg State.pendingCrc (weatherExpires_frame s) :)
@[simp] theorem weatherExpires_refresh : (weatherExpires s).refresh = s.refresh :=
  (congrArg State.refresh (weatherExpires_frame s) :)
@[simp] theorem weatherExpires_axes : (weatherExpires s).axes = s.axes :=
  (congrArg State.axes (weatherExpires_frame s) :)
@[simp] theorem weatherExpires_forwards : (weatherExpires s).forwards = s.forwards :=
  (congrArg State.forwards (weatherExpires_frame s) :)
@[simp] theorem weatherExpires_reportedNodes : (weatherExpires s).reportedNodes = s.reportedNodes :=
  (congrArg State.reportedNodes (weatherExpires_frame s) :)
@[simp] theorem weatherExpires_fences : (weatherExpires s).fences = s.fences :=
  (congrArg State.fences (weatherExpires_frame s) :)
@[simp] theorem weatherExpires_press : (weatherExpires s).press = s.press :=
  (congrArg State.press (weatherExpires_frame s) :)
@[simp] theorem weatherExpires_pressTime : (weatherExpires s).pressTime = s.pressTime :=
  (congrArg State.pressTime (weatherExpires_frame s) :)
@[simp] theorem weatherExpires_longTime : (weatherExpires s).longTime = s.longTime :=
  (congrArg State.longTime (weatherExpires_frame s) :)
@[simp] theorem weatherExpires_operatorHold : (weatherExpires s).operatorHold = s.operatorHold :=
  (congrArg State.operatorHold (weatherExpires_frame s) :)
@[simp] theorem weatherExpires_lines : (weatherExpires s).lines = s.lines :=
  (congrArg State.lines (weatherExpires_frame s) :)
@[simp] theorem weatherExpires_deferred : (weatherExpires s).deferred = s.deferred :=
  (congrArg State.deferred (weatherExpires_frame s) :)
@[simp] theorem weatherExpires_backoff : (weatherExpires s).backoff = s.backoff :=
  (congrArg State.backoff (weatherExpires_frame s) :)
@[simp] theorem weatherExpires_highPtr : (weatherExpires s).highPtr = s.highPtr :=
  (congrArg State.highPtr (weatherExpires_frame s) :)
@[simp] theorem weatherExpires_lowPtr : (weatherExpires s).lowPtr = s.lowPtr :=
  (congrArg State.lowPtr (weatherExpires_frame s) :)
@[simp] theorem weatherExpires_openGrant : (weatherExpires s).openGrant = s.openGrant :=
  (congrArg State.openGrant (weatherExpires_frame s) :)
@[simp] theorem weatherExpires_grantRecs : (weatherExpires s).grantRecs = s.grantRecs :=
  (congrArg State.grantRecs (weatherExpires_frame s) :)
@[simp] theorem weatherExpires_watchdog : (weatherExpires s).watchdog = s.watchdog :=
  (congrArg State.watchdog (weatherExpires_frame s) :)
@[simp] theorem weatherExpires_watchdogTimer : (weatherExpires s).watchdogTimer = s.watchdogTimer :=
  (congrArg State.watchdogTimer (weatherExpires_frame s) :)
@[simp] theorem weatherExpires_olderArrival : (weatherExpires s).olderArrival = s.olderArrival :=
  (congrArg State.olderArrival (weatherExpires_frame s) :)
@[simp] theorem weatherExpires_newerArrival : (weatherExpires s).newerArrival = s.newerArrival :=
  (congrArg State.newerArrival (weatherExpires_frame s) :)
@[simp] theorem weatherExpires_substituteTimer : (weatherExpires s).substituteTimer = s.substituteTimer :=
  (congrArg State.substituteTimer (weatherExpires_frame s) :)
@[simp] theorem weatherExpires_lastCycle : (weatherExpires s).lastCycle = s.lastCycle :=
  (congrArg State.lastCycle (weatherExpires_frame s) :)
@[simp] theorem weatherExpires_due : (weatherExpires s).due = s.due :=
  (congrArg State.due (weatherExpires_frame s) :)
@[simp] theorem weatherExpires_inReset : (weatherExpires s).inReset = s.inReset :=
  (congrArg State.inReset (weatherExpires_frame s) :)
@[simp] theorem weatherExpires_holdnLow : (weatherExpires s).holdnLow = s.holdnLow :=
  (congrArg State.holdnLow (weatherExpires_frame s) :)
@[simp] theorem weatherExpires_sampled : (weatherExpires s).sampled = s.sampled :=
  (congrArg State.sampled (weatherExpires_frame s) :)
@[simp] theorem weatherExpires_faultnLow : (weatherExpires s).faultnLow = s.faultnLow :=
  (congrArg State.faultnLow (weatherExpires_frame s) :)

/-- Marking the open grant touches it alone (R148). -/
theorem markSeen_frame (node : Byte) :
    markSeen node s = { s with
    openGrant := (markSeen node s).openGrant } := by
  unfold markSeen
  repeat' split
  all_goals apply State.ext_fields <;> simp

@[simp] theorem markSeen_pending (node : Byte) : (markSeen node s).pending = s.pending :=
  (congrArg State.pending (markSeen_frame s node) :)
@[simp] theorem markSeen_now (node : Byte) : (markSeen node s).now = s.now :=
  (congrArg State.now (markSeen_frame s node) :)
@[simp] theorem markSeen_draws (node : Byte) : (markSeen node s).draws = s.draws :=
  (congrArg State.draws (markSeen_frame s node) :)
@[simp] theorem markSeen_up (node : Byte) : (markSeen node s).up = s.up :=
  (congrArg State.up (markSeen_frame s node) :)
@[simp] theorem markSeen_down (node : Byte) : (markSeen node s).down = s.down :=
  (congrArg State.down (markSeen_frame s node) :)
@[simp] theorem markSeen_waiting (node : Byte) : (markSeen node s).waiting = s.waiting :=
  (congrArg State.waiting (markSeen_frame s node) :)
@[simp] theorem markSeen_bankPresent (node : Byte) : (markSeen node s).bankPresent = s.bankPresent :=
  (congrArg State.bankPresent (markSeen_frame s node) :)
@[simp] theorem markSeen_active (node : Byte) : (markSeen node s).active = s.active :=
  (congrArg State.active (markSeen_frame s node) :)
@[simp] theorem markSeen_verifiedCrc (node : Byte) : (markSeen node s).verifiedCrc = s.verifiedCrc :=
  (congrArg State.verifiedCrc (markSeen_frame s node) :)
@[simp] theorem markSeen_pendingBank (node : Byte) : (markSeen node s).pendingBank = s.pendingBank :=
  (congrArg State.pendingBank (markSeen_frame s node) :)
@[simp] theorem markSeen_pendingState (node : Byte) : (markSeen node s).pendingState = s.pendingState :=
  (congrArg State.pendingState (markSeen_frame s node) :)
@[simp] theorem markSeen_expectedCrc (node : Byte) : (markSeen node s).expectedCrc = s.expectedCrc :=
  (congrArg State.expectedCrc (markSeen_frame s node) :)
@[simp] theorem markSeen_pendingCrc (node : Byte) : (markSeen node s).pendingCrc = s.pendingCrc :=
  (congrArg State.pendingCrc (markSeen_frame s node) :)
@[simp] theorem markSeen_refresh (node : Byte) : (markSeen node s).refresh = s.refresh :=
  (congrArg State.refresh (markSeen_frame s node) :)
@[simp] theorem markSeen_axes (node : Byte) : (markSeen node s).axes = s.axes :=
  (congrArg State.axes (markSeen_frame s node) :)
@[simp] theorem markSeen_forwards (node : Byte) : (markSeen node s).forwards = s.forwards :=
  (congrArg State.forwards (markSeen_frame s node) :)
@[simp] theorem markSeen_reportedNodes (node : Byte) : (markSeen node s).reportedNodes = s.reportedNodes :=
  (congrArg State.reportedNodes (markSeen_frame s node) :)
@[simp] theorem markSeen_gangs (node : Byte) : (markSeen node s).gangs = s.gangs :=
  (congrArg State.gangs (markSeen_frame s node) :)
@[simp] theorem markSeen_fences (node : Byte) : (markSeen node s).fences = s.fences :=
  (congrArg State.fences (markSeen_frame s node) :)
@[simp] theorem markSeen_windClass (node : Byte) : (markSeen node s).windClass = s.windClass :=
  (congrArg State.windClass (markSeen_frame s node) :)
@[simp] theorem markSeen_weatherStale (node : Byte) : (markSeen node s).weatherStale = s.weatherStale :=
  (congrArg State.weatherStale (markSeen_frame s node) :)
@[simp] theorem markSeen_weatherTimer (node : Byte) : (markSeen node s).weatherTimer = s.weatherTimer :=
  (congrArg State.weatherTimer (markSeen_frame s node) :)
@[simp] theorem markSeen_press (node : Byte) : (markSeen node s).press = s.press :=
  (congrArg State.press (markSeen_frame s node) :)
@[simp] theorem markSeen_pressTime (node : Byte) : (markSeen node s).pressTime = s.pressTime :=
  (congrArg State.pressTime (markSeen_frame s node) :)
@[simp] theorem markSeen_longTime (node : Byte) : (markSeen node s).longTime = s.longTime :=
  (congrArg State.longTime (markSeen_frame s node) :)
@[simp] theorem markSeen_operatorHold (node : Byte) : (markSeen node s).operatorHold = s.operatorHold :=
  (congrArg State.operatorHold (markSeen_frame s node) :)
@[simp] theorem markSeen_lines (node : Byte) : (markSeen node s).lines = s.lines :=
  (congrArg State.lines (markSeen_frame s node) :)
@[simp] theorem markSeen_deferred (node : Byte) : (markSeen node s).deferred = s.deferred :=
  (congrArg State.deferred (markSeen_frame s node) :)
@[simp] theorem markSeen_backoff (node : Byte) : (markSeen node s).backoff = s.backoff :=
  (congrArg State.backoff (markSeen_frame s node) :)
@[simp] theorem markSeen_highPtr (node : Byte) : (markSeen node s).highPtr = s.highPtr :=
  (congrArg State.highPtr (markSeen_frame s node) :)
@[simp] theorem markSeen_lowPtr (node : Byte) : (markSeen node s).lowPtr = s.lowPtr :=
  (congrArg State.lowPtr (markSeen_frame s node) :)
@[simp] theorem markSeen_grantRecs (node : Byte) : (markSeen node s).grantRecs = s.grantRecs :=
  (congrArg State.grantRecs (markSeen_frame s node) :)
@[simp] theorem markSeen_watchdog (node : Byte) : (markSeen node s).watchdog = s.watchdog :=
  (congrArg State.watchdog (markSeen_frame s node) :)
@[simp] theorem markSeen_watchdogTimer (node : Byte) : (markSeen node s).watchdogTimer = s.watchdogTimer :=
  (congrArg State.watchdogTimer (markSeen_frame s node) :)
@[simp] theorem markSeen_olderArrival (node : Byte) : (markSeen node s).olderArrival = s.olderArrival :=
  (congrArg State.olderArrival (markSeen_frame s node) :)
@[simp] theorem markSeen_newerArrival (node : Byte) : (markSeen node s).newerArrival = s.newerArrival :=
  (congrArg State.newerArrival (markSeen_frame s node) :)
@[simp] theorem markSeen_substituteTimer (node : Byte) : (markSeen node s).substituteTimer = s.substituteTimer :=
  (congrArg State.substituteTimer (markSeen_frame s node) :)
@[simp] theorem markSeen_lastCycle (node : Byte) : (markSeen node s).lastCycle = s.lastCycle :=
  (congrArg State.lastCycle (markSeen_frame s node) :)
@[simp] theorem markSeen_flags (node : Byte) : (markSeen node s).flags = s.flags :=
  (congrArg State.flags (markSeen_frame s node) :)
@[simp] theorem markSeen_events (node : Byte) : (markSeen node s).events = s.events :=
  (congrArg State.events (markSeen_frame s node) :)
@[simp] theorem markSeen_due (node : Byte) : (markSeen node s).due = s.due :=
  (congrArg State.due (markSeen_frame s node) :)
@[simp] theorem markSeen_frameClass (node : Byte) : (markSeen node s).frameClass = s.frameClass :=
  (congrArg State.frameClass (markSeen_frame s node) :)
@[simp] theorem markSeen_inReset (node : Byte) : (markSeen node s).inReset = s.inReset :=
  (congrArg State.inReset (markSeen_frame s node) :)
@[simp] theorem markSeen_holdnLow (node : Byte) : (markSeen node s).holdnLow = s.holdnLow :=
  (congrArg State.holdnLow (markSeen_frame s node) :)
@[simp] theorem markSeen_sampled (node : Byte) : (markSeen node s).sampled = s.sampled :=
  (congrArg State.sampled (markSeen_frame s node) :)
@[simp] theorem markSeen_faultnLow (node : Byte) : (markSeen node s).faultnLow = s.faultnLow :=
  (congrArg State.faultnLow (markSeen_frame s node) :)

/-- An EVENT touches the event queue, the flags and the open grant (R148, R166). -/
theorem takeEvent_frame (p : List Byte) :
    takeEvent p s = { s with
    openGrant := (takeEvent p s).openGrant, events := (takeEvent p s).events,
    flags := (takeEvent p s).flags } := by
  unfold takeEvent
  repeat' split
  all_goals apply State.ext_fields <;> simp

@[simp] theorem takeEvent_pending (p : List Byte) : (takeEvent p s).pending = s.pending :=
  (congrArg State.pending (takeEvent_frame s p) :)
@[simp] theorem takeEvent_now (p : List Byte) : (takeEvent p s).now = s.now :=
  (congrArg State.now (takeEvent_frame s p) :)
@[simp] theorem takeEvent_draws (p : List Byte) : (takeEvent p s).draws = s.draws :=
  (congrArg State.draws (takeEvent_frame s p) :)
@[simp] theorem takeEvent_up (p : List Byte) : (takeEvent p s).up = s.up :=
  (congrArg State.up (takeEvent_frame s p) :)
@[simp] theorem takeEvent_down (p : List Byte) : (takeEvent p s).down = s.down :=
  (congrArg State.down (takeEvent_frame s p) :)
@[simp] theorem takeEvent_waiting (p : List Byte) : (takeEvent p s).waiting = s.waiting :=
  (congrArg State.waiting (takeEvent_frame s p) :)
@[simp] theorem takeEvent_bankPresent (p : List Byte) : (takeEvent p s).bankPresent = s.bankPresent :=
  (congrArg State.bankPresent (takeEvent_frame s p) :)
@[simp] theorem takeEvent_active (p : List Byte) : (takeEvent p s).active = s.active :=
  (congrArg State.active (takeEvent_frame s p) :)
@[simp] theorem takeEvent_verifiedCrc (p : List Byte) : (takeEvent p s).verifiedCrc = s.verifiedCrc :=
  (congrArg State.verifiedCrc (takeEvent_frame s p) :)
@[simp] theorem takeEvent_pendingBank (p : List Byte) : (takeEvent p s).pendingBank = s.pendingBank :=
  (congrArg State.pendingBank (takeEvent_frame s p) :)
@[simp] theorem takeEvent_pendingState (p : List Byte) : (takeEvent p s).pendingState = s.pendingState :=
  (congrArg State.pendingState (takeEvent_frame s p) :)
@[simp] theorem takeEvent_expectedCrc (p : List Byte) : (takeEvent p s).expectedCrc = s.expectedCrc :=
  (congrArg State.expectedCrc (takeEvent_frame s p) :)
@[simp] theorem takeEvent_pendingCrc (p : List Byte) : (takeEvent p s).pendingCrc = s.pendingCrc :=
  (congrArg State.pendingCrc (takeEvent_frame s p) :)
@[simp] theorem takeEvent_refresh (p : List Byte) : (takeEvent p s).refresh = s.refresh :=
  (congrArg State.refresh (takeEvent_frame s p) :)
@[simp] theorem takeEvent_axes (p : List Byte) : (takeEvent p s).axes = s.axes :=
  (congrArg State.axes (takeEvent_frame s p) :)
@[simp] theorem takeEvent_forwards (p : List Byte) : (takeEvent p s).forwards = s.forwards :=
  (congrArg State.forwards (takeEvent_frame s p) :)
@[simp] theorem takeEvent_reportedNodes (p : List Byte) : (takeEvent p s).reportedNodes = s.reportedNodes :=
  (congrArg State.reportedNodes (takeEvent_frame s p) :)
@[simp] theorem takeEvent_gangs (p : List Byte) : (takeEvent p s).gangs = s.gangs :=
  (congrArg State.gangs (takeEvent_frame s p) :)
@[simp] theorem takeEvent_fences (p : List Byte) : (takeEvent p s).fences = s.fences :=
  (congrArg State.fences (takeEvent_frame s p) :)
@[simp] theorem takeEvent_windClass (p : List Byte) : (takeEvent p s).windClass = s.windClass :=
  (congrArg State.windClass (takeEvent_frame s p) :)
@[simp] theorem takeEvent_weatherStale (p : List Byte) : (takeEvent p s).weatherStale = s.weatherStale :=
  (congrArg State.weatherStale (takeEvent_frame s p) :)
@[simp] theorem takeEvent_weatherTimer (p : List Byte) : (takeEvent p s).weatherTimer = s.weatherTimer :=
  (congrArg State.weatherTimer (takeEvent_frame s p) :)
@[simp] theorem takeEvent_press (p : List Byte) : (takeEvent p s).press = s.press :=
  (congrArg State.press (takeEvent_frame s p) :)
@[simp] theorem takeEvent_pressTime (p : List Byte) : (takeEvent p s).pressTime = s.pressTime :=
  (congrArg State.pressTime (takeEvent_frame s p) :)
@[simp] theorem takeEvent_longTime (p : List Byte) : (takeEvent p s).longTime = s.longTime :=
  (congrArg State.longTime (takeEvent_frame s p) :)
@[simp] theorem takeEvent_operatorHold (p : List Byte) : (takeEvent p s).operatorHold = s.operatorHold :=
  (congrArg State.operatorHold (takeEvent_frame s p) :)
@[simp] theorem takeEvent_lines (p : List Byte) : (takeEvent p s).lines = s.lines :=
  (congrArg State.lines (takeEvent_frame s p) :)
@[simp] theorem takeEvent_deferred (p : List Byte) : (takeEvent p s).deferred = s.deferred :=
  (congrArg State.deferred (takeEvent_frame s p) :)
@[simp] theorem takeEvent_backoff (p : List Byte) : (takeEvent p s).backoff = s.backoff :=
  (congrArg State.backoff (takeEvent_frame s p) :)
@[simp] theorem takeEvent_highPtr (p : List Byte) : (takeEvent p s).highPtr = s.highPtr :=
  (congrArg State.highPtr (takeEvent_frame s p) :)
@[simp] theorem takeEvent_lowPtr (p : List Byte) : (takeEvent p s).lowPtr = s.lowPtr :=
  (congrArg State.lowPtr (takeEvent_frame s p) :)
@[simp] theorem takeEvent_grantRecs (p : List Byte) : (takeEvent p s).grantRecs = s.grantRecs :=
  (congrArg State.grantRecs (takeEvent_frame s p) :)
@[simp] theorem takeEvent_watchdog (p : List Byte) : (takeEvent p s).watchdog = s.watchdog :=
  (congrArg State.watchdog (takeEvent_frame s p) :)
@[simp] theorem takeEvent_watchdogTimer (p : List Byte) : (takeEvent p s).watchdogTimer = s.watchdogTimer :=
  (congrArg State.watchdogTimer (takeEvent_frame s p) :)
@[simp] theorem takeEvent_olderArrival (p : List Byte) : (takeEvent p s).olderArrival = s.olderArrival :=
  (congrArg State.olderArrival (takeEvent_frame s p) :)
@[simp] theorem takeEvent_newerArrival (p : List Byte) : (takeEvent p s).newerArrival = s.newerArrival :=
  (congrArg State.newerArrival (takeEvent_frame s p) :)
@[simp] theorem takeEvent_substituteTimer (p : List Byte) : (takeEvent p s).substituteTimer = s.substituteTimer :=
  (congrArg State.substituteTimer (takeEvent_frame s p) :)
@[simp] theorem takeEvent_lastCycle (p : List Byte) : (takeEvent p s).lastCycle = s.lastCycle :=
  (congrArg State.lastCycle (takeEvent_frame s p) :)
@[simp] theorem takeEvent_due (p : List Byte) : (takeEvent p s).due = s.due :=
  (congrArg State.due (takeEvent_frame s p) :)
@[simp] theorem takeEvent_frameClass (p : List Byte) : (takeEvent p s).frameClass = s.frameClass :=
  (congrArg State.frameClass (takeEvent_frame s p) :)
@[simp] theorem takeEvent_inReset (p : List Byte) : (takeEvent p s).inReset = s.inReset :=
  (congrArg State.inReset (takeEvent_frame s p) :)
@[simp] theorem takeEvent_holdnLow (p : List Byte) : (takeEvent p s).holdnLow = s.holdnLow :=
  (congrArg State.holdnLow (takeEvent_frame s p) :)
@[simp] theorem takeEvent_sampled (p : List Byte) : (takeEvent p s).sampled = s.sampled :=
  (congrArg State.sampled (takeEvent_frame s p) :)
@[simp] theorem takeEvent_faultnLow (p : List Byte) : (takeEvent p s).faultnLow = s.faultnLow :=
  (congrArg State.faultnLow (takeEvent_frame s p) :)

/-- An OK touches the deferred table (R137, R138). -/
theorem takeOk_frame (e : DeferredEntry) (data : Option Word) :
    takeOk e data s = { s with
    deferred := (takeOk e data s).deferred } := by
  unfold takeOk State.replaceEntry
  (try dsimp only)
  repeat' split
  all_goals apply State.ext_fields <;> simp

@[simp] theorem takeOk_pending (e : DeferredEntry) (data : Option Word) : (takeOk e data s).pending = s.pending :=
  (congrArg State.pending (takeOk_frame s e data) :)
@[simp] theorem takeOk_now (e : DeferredEntry) (data : Option Word) : (takeOk e data s).now = s.now :=
  (congrArg State.now (takeOk_frame s e data) :)
@[simp] theorem takeOk_draws (e : DeferredEntry) (data : Option Word) : (takeOk e data s).draws = s.draws :=
  (congrArg State.draws (takeOk_frame s e data) :)
@[simp] theorem takeOk_up (e : DeferredEntry) (data : Option Word) : (takeOk e data s).up = s.up :=
  (congrArg State.up (takeOk_frame s e data) :)
@[simp] theorem takeOk_down (e : DeferredEntry) (data : Option Word) : (takeOk e data s).down = s.down :=
  (congrArg State.down (takeOk_frame s e data) :)
@[simp] theorem takeOk_waiting (e : DeferredEntry) (data : Option Word) : (takeOk e data s).waiting = s.waiting :=
  (congrArg State.waiting (takeOk_frame s e data) :)
@[simp] theorem takeOk_bankPresent (e : DeferredEntry) (data : Option Word) : (takeOk e data s).bankPresent = s.bankPresent :=
  (congrArg State.bankPresent (takeOk_frame s e data) :)
@[simp] theorem takeOk_active (e : DeferredEntry) (data : Option Word) : (takeOk e data s).active = s.active :=
  (congrArg State.active (takeOk_frame s e data) :)
@[simp] theorem takeOk_verifiedCrc (e : DeferredEntry) (data : Option Word) : (takeOk e data s).verifiedCrc = s.verifiedCrc :=
  (congrArg State.verifiedCrc (takeOk_frame s e data) :)
@[simp] theorem takeOk_pendingBank (e : DeferredEntry) (data : Option Word) : (takeOk e data s).pendingBank = s.pendingBank :=
  (congrArg State.pendingBank (takeOk_frame s e data) :)
@[simp] theorem takeOk_pendingState (e : DeferredEntry) (data : Option Word) : (takeOk e data s).pendingState = s.pendingState :=
  (congrArg State.pendingState (takeOk_frame s e data) :)
@[simp] theorem takeOk_expectedCrc (e : DeferredEntry) (data : Option Word) : (takeOk e data s).expectedCrc = s.expectedCrc :=
  (congrArg State.expectedCrc (takeOk_frame s e data) :)
@[simp] theorem takeOk_pendingCrc (e : DeferredEntry) (data : Option Word) : (takeOk e data s).pendingCrc = s.pendingCrc :=
  (congrArg State.pendingCrc (takeOk_frame s e data) :)
@[simp] theorem takeOk_refresh (e : DeferredEntry) (data : Option Word) : (takeOk e data s).refresh = s.refresh :=
  (congrArg State.refresh (takeOk_frame s e data) :)
@[simp] theorem takeOk_axes (e : DeferredEntry) (data : Option Word) : (takeOk e data s).axes = s.axes :=
  (congrArg State.axes (takeOk_frame s e data) :)
@[simp] theorem takeOk_forwards (e : DeferredEntry) (data : Option Word) : (takeOk e data s).forwards = s.forwards :=
  (congrArg State.forwards (takeOk_frame s e data) :)
@[simp] theorem takeOk_reportedNodes (e : DeferredEntry) (data : Option Word) : (takeOk e data s).reportedNodes = s.reportedNodes :=
  (congrArg State.reportedNodes (takeOk_frame s e data) :)
@[simp] theorem takeOk_gangs (e : DeferredEntry) (data : Option Word) : (takeOk e data s).gangs = s.gangs :=
  (congrArg State.gangs (takeOk_frame s e data) :)
@[simp] theorem takeOk_fences (e : DeferredEntry) (data : Option Word) : (takeOk e data s).fences = s.fences :=
  (congrArg State.fences (takeOk_frame s e data) :)
@[simp] theorem takeOk_windClass (e : DeferredEntry) (data : Option Word) : (takeOk e data s).windClass = s.windClass :=
  (congrArg State.windClass (takeOk_frame s e data) :)
@[simp] theorem takeOk_weatherStale (e : DeferredEntry) (data : Option Word) : (takeOk e data s).weatherStale = s.weatherStale :=
  (congrArg State.weatherStale (takeOk_frame s e data) :)
@[simp] theorem takeOk_weatherTimer (e : DeferredEntry) (data : Option Word) : (takeOk e data s).weatherTimer = s.weatherTimer :=
  (congrArg State.weatherTimer (takeOk_frame s e data) :)
@[simp] theorem takeOk_press (e : DeferredEntry) (data : Option Word) : (takeOk e data s).press = s.press :=
  (congrArg State.press (takeOk_frame s e data) :)
@[simp] theorem takeOk_pressTime (e : DeferredEntry) (data : Option Word) : (takeOk e data s).pressTime = s.pressTime :=
  (congrArg State.pressTime (takeOk_frame s e data) :)
@[simp] theorem takeOk_longTime (e : DeferredEntry) (data : Option Word) : (takeOk e data s).longTime = s.longTime :=
  (congrArg State.longTime (takeOk_frame s e data) :)
@[simp] theorem takeOk_operatorHold (e : DeferredEntry) (data : Option Word) : (takeOk e data s).operatorHold = s.operatorHold :=
  (congrArg State.operatorHold (takeOk_frame s e data) :)
@[simp] theorem takeOk_lines (e : DeferredEntry) (data : Option Word) : (takeOk e data s).lines = s.lines :=
  (congrArg State.lines (takeOk_frame s e data) :)
@[simp] theorem takeOk_backoff (e : DeferredEntry) (data : Option Word) : (takeOk e data s).backoff = s.backoff :=
  (congrArg State.backoff (takeOk_frame s e data) :)
@[simp] theorem takeOk_highPtr (e : DeferredEntry) (data : Option Word) : (takeOk e data s).highPtr = s.highPtr :=
  (congrArg State.highPtr (takeOk_frame s e data) :)
@[simp] theorem takeOk_lowPtr (e : DeferredEntry) (data : Option Word) : (takeOk e data s).lowPtr = s.lowPtr :=
  (congrArg State.lowPtr (takeOk_frame s e data) :)
@[simp] theorem takeOk_openGrant (e : DeferredEntry) (data : Option Word) : (takeOk e data s).openGrant = s.openGrant :=
  (congrArg State.openGrant (takeOk_frame s e data) :)
@[simp] theorem takeOk_grantRecs (e : DeferredEntry) (data : Option Word) : (takeOk e data s).grantRecs = s.grantRecs :=
  (congrArg State.grantRecs (takeOk_frame s e data) :)
@[simp] theorem takeOk_watchdog (e : DeferredEntry) (data : Option Word) : (takeOk e data s).watchdog = s.watchdog :=
  (congrArg State.watchdog (takeOk_frame s e data) :)
@[simp] theorem takeOk_watchdogTimer (e : DeferredEntry) (data : Option Word) : (takeOk e data s).watchdogTimer = s.watchdogTimer :=
  (congrArg State.watchdogTimer (takeOk_frame s e data) :)
@[simp] theorem takeOk_olderArrival (e : DeferredEntry) (data : Option Word) : (takeOk e data s).olderArrival = s.olderArrival :=
  (congrArg State.olderArrival (takeOk_frame s e data) :)
@[simp] theorem takeOk_newerArrival (e : DeferredEntry) (data : Option Word) : (takeOk e data s).newerArrival = s.newerArrival :=
  (congrArg State.newerArrival (takeOk_frame s e data) :)
@[simp] theorem takeOk_substituteTimer (e : DeferredEntry) (data : Option Word) : (takeOk e data s).substituteTimer = s.substituteTimer :=
  (congrArg State.substituteTimer (takeOk_frame s e data) :)
@[simp] theorem takeOk_lastCycle (e : DeferredEntry) (data : Option Word) : (takeOk e data s).lastCycle = s.lastCycle :=
  (congrArg State.lastCycle (takeOk_frame s e data) :)
@[simp] theorem takeOk_flags (e : DeferredEntry) (data : Option Word) : (takeOk e data s).flags = s.flags :=
  (congrArg State.flags (takeOk_frame s e data) :)
@[simp] theorem takeOk_events (e : DeferredEntry) (data : Option Word) : (takeOk e data s).events = s.events :=
  (congrArg State.events (takeOk_frame s e data) :)
@[simp] theorem takeOk_due (e : DeferredEntry) (data : Option Word) : (takeOk e data s).due = s.due :=
  (congrArg State.due (takeOk_frame s e data) :)
@[simp] theorem takeOk_frameClass (e : DeferredEntry) (data : Option Word) : (takeOk e data s).frameClass = s.frameClass :=
  (congrArg State.frameClass (takeOk_frame s e data) :)
@[simp] theorem takeOk_inReset (e : DeferredEntry) (data : Option Word) : (takeOk e data s).inReset = s.inReset :=
  (congrArg State.inReset (takeOk_frame s e data) :)
@[simp] theorem takeOk_holdnLow (e : DeferredEntry) (data : Option Word) : (takeOk e data s).holdnLow = s.holdnLow :=
  (congrArg State.holdnLow (takeOk_frame s e data) :)
@[simp] theorem takeOk_sampled (e : DeferredEntry) (data : Option Word) : (takeOk e data s).sampled = s.sampled :=
  (congrArg State.sampled (takeOk_frame s e data) :)
@[simp] theorem takeOk_faultnLow (e : DeferredEntry) (data : Option Word) : (takeOk e data s).faultnLow = s.faultnLow :=
  (congrArg State.faultnLow (takeOk_frame s e data) :)

/-- A DRIVE_BUSY touches the deferred table and the backoff (R139). -/
theorem takeBusy_frame (e : DeferredEntry) :
    takeBusy e s = { s with
    deferred := (takeBusy e s).deferred, backoff := (takeBusy e s).backoff } := by
  unfold takeBusy State.replaceEntry
  (try dsimp only)
  repeat' split
  all_goals apply State.ext_fields <;> simp

@[simp] theorem takeBusy_pending (e : DeferredEntry) : (takeBusy e s).pending = s.pending :=
  (congrArg State.pending (takeBusy_frame s e) :)
@[simp] theorem takeBusy_now (e : DeferredEntry) : (takeBusy e s).now = s.now :=
  (congrArg State.now (takeBusy_frame s e) :)
@[simp] theorem takeBusy_draws (e : DeferredEntry) : (takeBusy e s).draws = s.draws :=
  (congrArg State.draws (takeBusy_frame s e) :)
@[simp] theorem takeBusy_up (e : DeferredEntry) : (takeBusy e s).up = s.up :=
  (congrArg State.up (takeBusy_frame s e) :)
@[simp] theorem takeBusy_down (e : DeferredEntry) : (takeBusy e s).down = s.down :=
  (congrArg State.down (takeBusy_frame s e) :)
@[simp] theorem takeBusy_waiting (e : DeferredEntry) : (takeBusy e s).waiting = s.waiting :=
  (congrArg State.waiting (takeBusy_frame s e) :)
@[simp] theorem takeBusy_bankPresent (e : DeferredEntry) : (takeBusy e s).bankPresent = s.bankPresent :=
  (congrArg State.bankPresent (takeBusy_frame s e) :)
@[simp] theorem takeBusy_active (e : DeferredEntry) : (takeBusy e s).active = s.active :=
  (congrArg State.active (takeBusy_frame s e) :)
@[simp] theorem takeBusy_verifiedCrc (e : DeferredEntry) : (takeBusy e s).verifiedCrc = s.verifiedCrc :=
  (congrArg State.verifiedCrc (takeBusy_frame s e) :)
@[simp] theorem takeBusy_pendingBank (e : DeferredEntry) : (takeBusy e s).pendingBank = s.pendingBank :=
  (congrArg State.pendingBank (takeBusy_frame s e) :)
@[simp] theorem takeBusy_pendingState (e : DeferredEntry) : (takeBusy e s).pendingState = s.pendingState :=
  (congrArg State.pendingState (takeBusy_frame s e) :)
@[simp] theorem takeBusy_expectedCrc (e : DeferredEntry) : (takeBusy e s).expectedCrc = s.expectedCrc :=
  (congrArg State.expectedCrc (takeBusy_frame s e) :)
@[simp] theorem takeBusy_pendingCrc (e : DeferredEntry) : (takeBusy e s).pendingCrc = s.pendingCrc :=
  (congrArg State.pendingCrc (takeBusy_frame s e) :)
@[simp] theorem takeBusy_refresh (e : DeferredEntry) : (takeBusy e s).refresh = s.refresh :=
  (congrArg State.refresh (takeBusy_frame s e) :)
@[simp] theorem takeBusy_axes (e : DeferredEntry) : (takeBusy e s).axes = s.axes :=
  (congrArg State.axes (takeBusy_frame s e) :)
@[simp] theorem takeBusy_forwards (e : DeferredEntry) : (takeBusy e s).forwards = s.forwards :=
  (congrArg State.forwards (takeBusy_frame s e) :)
@[simp] theorem takeBusy_reportedNodes (e : DeferredEntry) : (takeBusy e s).reportedNodes = s.reportedNodes :=
  (congrArg State.reportedNodes (takeBusy_frame s e) :)
@[simp] theorem takeBusy_gangs (e : DeferredEntry) : (takeBusy e s).gangs = s.gangs :=
  (congrArg State.gangs (takeBusy_frame s e) :)
@[simp] theorem takeBusy_fences (e : DeferredEntry) : (takeBusy e s).fences = s.fences :=
  (congrArg State.fences (takeBusy_frame s e) :)
@[simp] theorem takeBusy_windClass (e : DeferredEntry) : (takeBusy e s).windClass = s.windClass :=
  (congrArg State.windClass (takeBusy_frame s e) :)
@[simp] theorem takeBusy_weatherStale (e : DeferredEntry) : (takeBusy e s).weatherStale = s.weatherStale :=
  (congrArg State.weatherStale (takeBusy_frame s e) :)
@[simp] theorem takeBusy_weatherTimer (e : DeferredEntry) : (takeBusy e s).weatherTimer = s.weatherTimer :=
  (congrArg State.weatherTimer (takeBusy_frame s e) :)
@[simp] theorem takeBusy_press (e : DeferredEntry) : (takeBusy e s).press = s.press :=
  (congrArg State.press (takeBusy_frame s e) :)
@[simp] theorem takeBusy_pressTime (e : DeferredEntry) : (takeBusy e s).pressTime = s.pressTime :=
  (congrArg State.pressTime (takeBusy_frame s e) :)
@[simp] theorem takeBusy_longTime (e : DeferredEntry) : (takeBusy e s).longTime = s.longTime :=
  (congrArg State.longTime (takeBusy_frame s e) :)
@[simp] theorem takeBusy_operatorHold (e : DeferredEntry) : (takeBusy e s).operatorHold = s.operatorHold :=
  (congrArg State.operatorHold (takeBusy_frame s e) :)
@[simp] theorem takeBusy_lines (e : DeferredEntry) : (takeBusy e s).lines = s.lines :=
  (congrArg State.lines (takeBusy_frame s e) :)
@[simp] theorem takeBusy_highPtr (e : DeferredEntry) : (takeBusy e s).highPtr = s.highPtr :=
  (congrArg State.highPtr (takeBusy_frame s e) :)
@[simp] theorem takeBusy_lowPtr (e : DeferredEntry) : (takeBusy e s).lowPtr = s.lowPtr :=
  (congrArg State.lowPtr (takeBusy_frame s e) :)
@[simp] theorem takeBusy_openGrant (e : DeferredEntry) : (takeBusy e s).openGrant = s.openGrant :=
  (congrArg State.openGrant (takeBusy_frame s e) :)
@[simp] theorem takeBusy_grantRecs (e : DeferredEntry) : (takeBusy e s).grantRecs = s.grantRecs :=
  (congrArg State.grantRecs (takeBusy_frame s e) :)
@[simp] theorem takeBusy_watchdog (e : DeferredEntry) : (takeBusy e s).watchdog = s.watchdog :=
  (congrArg State.watchdog (takeBusy_frame s e) :)
@[simp] theorem takeBusy_watchdogTimer (e : DeferredEntry) : (takeBusy e s).watchdogTimer = s.watchdogTimer :=
  (congrArg State.watchdogTimer (takeBusy_frame s e) :)
@[simp] theorem takeBusy_olderArrival (e : DeferredEntry) : (takeBusy e s).olderArrival = s.olderArrival :=
  (congrArg State.olderArrival (takeBusy_frame s e) :)
@[simp] theorem takeBusy_newerArrival (e : DeferredEntry) : (takeBusy e s).newerArrival = s.newerArrival :=
  (congrArg State.newerArrival (takeBusy_frame s e) :)
@[simp] theorem takeBusy_substituteTimer (e : DeferredEntry) : (takeBusy e s).substituteTimer = s.substituteTimer :=
  (congrArg State.substituteTimer (takeBusy_frame s e) :)
@[simp] theorem takeBusy_lastCycle (e : DeferredEntry) : (takeBusy e s).lastCycle = s.lastCycle :=
  (congrArg State.lastCycle (takeBusy_frame s e) :)
@[simp] theorem takeBusy_flags (e : DeferredEntry) : (takeBusy e s).flags = s.flags :=
  (congrArg State.flags (takeBusy_frame s e) :)
@[simp] theorem takeBusy_events (e : DeferredEntry) : (takeBusy e s).events = s.events :=
  (congrArg State.events (takeBusy_frame s e) :)
@[simp] theorem takeBusy_due (e : DeferredEntry) : (takeBusy e s).due = s.due :=
  (congrArg State.due (takeBusy_frame s e) :)
@[simp] theorem takeBusy_frameClass (e : DeferredEntry) : (takeBusy e s).frameClass = s.frameClass :=
  (congrArg State.frameClass (takeBusy_frame s e) :)
@[simp] theorem takeBusy_inReset (e : DeferredEntry) : (takeBusy e s).inReset = s.inReset :=
  (congrArg State.inReset (takeBusy_frame s e) :)
@[simp] theorem takeBusy_holdnLow (e : DeferredEntry) : (takeBusy e s).holdnLow = s.holdnLow :=
  (congrArg State.holdnLow (takeBusy_frame s e) :)
@[simp] theorem takeBusy_sampled (e : DeferredEntry) : (takeBusy e s).sampled = s.sampled :=
  (congrArg State.sampled (takeBusy_frame s e) :)
@[simp] theorem takeBusy_faultnLow (e : DeferredEntry) : (takeBusy e s).faultnLow = s.faultnLow :=
  (congrArg State.faultnLow (takeBusy_frame s e) :)

/-- A matching answer touches the deferred table and the backoff (R136). -/
theorem takeMatching_frame (e : DeferredEntry) (code : Byte) (reason : Half) (data : Option Word) :
    takeMatching e code reason data s = { s with
    deferred := (takeMatching e code reason data s).deferred, backoff := (takeMatching e code reason data s).backoff } := by
  unfold takeMatching State.replaceEntry
  repeat' split
  all_goals apply State.ext_fields <;> simp

@[simp] theorem takeMatching_pending (e : DeferredEntry) (code : Byte) (reason : Half) (data : Option Word) : (takeMatching e code reason data s).pending = s.pending :=
  (congrArg State.pending (takeMatching_frame s e code reason data) :)
@[simp] theorem takeMatching_now (e : DeferredEntry) (code : Byte) (reason : Half) (data : Option Word) : (takeMatching e code reason data s).now = s.now :=
  (congrArg State.now (takeMatching_frame s e code reason data) :)
@[simp] theorem takeMatching_draws (e : DeferredEntry) (code : Byte) (reason : Half) (data : Option Word) : (takeMatching e code reason data s).draws = s.draws :=
  (congrArg State.draws (takeMatching_frame s e code reason data) :)
@[simp] theorem takeMatching_up (e : DeferredEntry) (code : Byte) (reason : Half) (data : Option Word) : (takeMatching e code reason data s).up = s.up :=
  (congrArg State.up (takeMatching_frame s e code reason data) :)
@[simp] theorem takeMatching_down (e : DeferredEntry) (code : Byte) (reason : Half) (data : Option Word) : (takeMatching e code reason data s).down = s.down :=
  (congrArg State.down (takeMatching_frame s e code reason data) :)
@[simp] theorem takeMatching_waiting (e : DeferredEntry) (code : Byte) (reason : Half) (data : Option Word) : (takeMatching e code reason data s).waiting = s.waiting :=
  (congrArg State.waiting (takeMatching_frame s e code reason data) :)
@[simp] theorem takeMatching_bankPresent (e : DeferredEntry) (code : Byte) (reason : Half) (data : Option Word) : (takeMatching e code reason data s).bankPresent = s.bankPresent :=
  (congrArg State.bankPresent (takeMatching_frame s e code reason data) :)
@[simp] theorem takeMatching_active (e : DeferredEntry) (code : Byte) (reason : Half) (data : Option Word) : (takeMatching e code reason data s).active = s.active :=
  (congrArg State.active (takeMatching_frame s e code reason data) :)
@[simp] theorem takeMatching_verifiedCrc (e : DeferredEntry) (code : Byte) (reason : Half) (data : Option Word) : (takeMatching e code reason data s).verifiedCrc = s.verifiedCrc :=
  (congrArg State.verifiedCrc (takeMatching_frame s e code reason data) :)
@[simp] theorem takeMatching_pendingBank (e : DeferredEntry) (code : Byte) (reason : Half) (data : Option Word) : (takeMatching e code reason data s).pendingBank = s.pendingBank :=
  (congrArg State.pendingBank (takeMatching_frame s e code reason data) :)
@[simp] theorem takeMatching_pendingState (e : DeferredEntry) (code : Byte) (reason : Half) (data : Option Word) : (takeMatching e code reason data s).pendingState = s.pendingState :=
  (congrArg State.pendingState (takeMatching_frame s e code reason data) :)
@[simp] theorem takeMatching_expectedCrc (e : DeferredEntry) (code : Byte) (reason : Half) (data : Option Word) : (takeMatching e code reason data s).expectedCrc = s.expectedCrc :=
  (congrArg State.expectedCrc (takeMatching_frame s e code reason data) :)
@[simp] theorem takeMatching_pendingCrc (e : DeferredEntry) (code : Byte) (reason : Half) (data : Option Word) : (takeMatching e code reason data s).pendingCrc = s.pendingCrc :=
  (congrArg State.pendingCrc (takeMatching_frame s e code reason data) :)
@[simp] theorem takeMatching_refresh (e : DeferredEntry) (code : Byte) (reason : Half) (data : Option Word) : (takeMatching e code reason data s).refresh = s.refresh :=
  (congrArg State.refresh (takeMatching_frame s e code reason data) :)
@[simp] theorem takeMatching_axes (e : DeferredEntry) (code : Byte) (reason : Half) (data : Option Word) : (takeMatching e code reason data s).axes = s.axes :=
  (congrArg State.axes (takeMatching_frame s e code reason data) :)
@[simp] theorem takeMatching_forwards (e : DeferredEntry) (code : Byte) (reason : Half) (data : Option Word) : (takeMatching e code reason data s).forwards = s.forwards :=
  (congrArg State.forwards (takeMatching_frame s e code reason data) :)
@[simp] theorem takeMatching_reportedNodes (e : DeferredEntry) (code : Byte) (reason : Half) (data : Option Word) : (takeMatching e code reason data s).reportedNodes = s.reportedNodes :=
  (congrArg State.reportedNodes (takeMatching_frame s e code reason data) :)
@[simp] theorem takeMatching_gangs (e : DeferredEntry) (code : Byte) (reason : Half) (data : Option Word) : (takeMatching e code reason data s).gangs = s.gangs :=
  (congrArg State.gangs (takeMatching_frame s e code reason data) :)
@[simp] theorem takeMatching_fences (e : DeferredEntry) (code : Byte) (reason : Half) (data : Option Word) : (takeMatching e code reason data s).fences = s.fences :=
  (congrArg State.fences (takeMatching_frame s e code reason data) :)
@[simp] theorem takeMatching_windClass (e : DeferredEntry) (code : Byte) (reason : Half) (data : Option Word) : (takeMatching e code reason data s).windClass = s.windClass :=
  (congrArg State.windClass (takeMatching_frame s e code reason data) :)
@[simp] theorem takeMatching_weatherStale (e : DeferredEntry) (code : Byte) (reason : Half) (data : Option Word) : (takeMatching e code reason data s).weatherStale = s.weatherStale :=
  (congrArg State.weatherStale (takeMatching_frame s e code reason data) :)
@[simp] theorem takeMatching_weatherTimer (e : DeferredEntry) (code : Byte) (reason : Half) (data : Option Word) : (takeMatching e code reason data s).weatherTimer = s.weatherTimer :=
  (congrArg State.weatherTimer (takeMatching_frame s e code reason data) :)
@[simp] theorem takeMatching_press (e : DeferredEntry) (code : Byte) (reason : Half) (data : Option Word) : (takeMatching e code reason data s).press = s.press :=
  (congrArg State.press (takeMatching_frame s e code reason data) :)
@[simp] theorem takeMatching_pressTime (e : DeferredEntry) (code : Byte) (reason : Half) (data : Option Word) : (takeMatching e code reason data s).pressTime = s.pressTime :=
  (congrArg State.pressTime (takeMatching_frame s e code reason data) :)
@[simp] theorem takeMatching_longTime (e : DeferredEntry) (code : Byte) (reason : Half) (data : Option Word) : (takeMatching e code reason data s).longTime = s.longTime :=
  (congrArg State.longTime (takeMatching_frame s e code reason data) :)
@[simp] theorem takeMatching_operatorHold (e : DeferredEntry) (code : Byte) (reason : Half) (data : Option Word) : (takeMatching e code reason data s).operatorHold = s.operatorHold :=
  (congrArg State.operatorHold (takeMatching_frame s e code reason data) :)
@[simp] theorem takeMatching_lines (e : DeferredEntry) (code : Byte) (reason : Half) (data : Option Word) : (takeMatching e code reason data s).lines = s.lines :=
  (congrArg State.lines (takeMatching_frame s e code reason data) :)
@[simp] theorem takeMatching_highPtr (e : DeferredEntry) (code : Byte) (reason : Half) (data : Option Word) : (takeMatching e code reason data s).highPtr = s.highPtr :=
  (congrArg State.highPtr (takeMatching_frame s e code reason data) :)
@[simp] theorem takeMatching_lowPtr (e : DeferredEntry) (code : Byte) (reason : Half) (data : Option Word) : (takeMatching e code reason data s).lowPtr = s.lowPtr :=
  (congrArg State.lowPtr (takeMatching_frame s e code reason data) :)
@[simp] theorem takeMatching_openGrant (e : DeferredEntry) (code : Byte) (reason : Half) (data : Option Word) : (takeMatching e code reason data s).openGrant = s.openGrant :=
  (congrArg State.openGrant (takeMatching_frame s e code reason data) :)
@[simp] theorem takeMatching_grantRecs (e : DeferredEntry) (code : Byte) (reason : Half) (data : Option Word) : (takeMatching e code reason data s).grantRecs = s.grantRecs :=
  (congrArg State.grantRecs (takeMatching_frame s e code reason data) :)
@[simp] theorem takeMatching_watchdog (e : DeferredEntry) (code : Byte) (reason : Half) (data : Option Word) : (takeMatching e code reason data s).watchdog = s.watchdog :=
  (congrArg State.watchdog (takeMatching_frame s e code reason data) :)
@[simp] theorem takeMatching_watchdogTimer (e : DeferredEntry) (code : Byte) (reason : Half) (data : Option Word) : (takeMatching e code reason data s).watchdogTimer = s.watchdogTimer :=
  (congrArg State.watchdogTimer (takeMatching_frame s e code reason data) :)
@[simp] theorem takeMatching_olderArrival (e : DeferredEntry) (code : Byte) (reason : Half) (data : Option Word) : (takeMatching e code reason data s).olderArrival = s.olderArrival :=
  (congrArg State.olderArrival (takeMatching_frame s e code reason data) :)
@[simp] theorem takeMatching_newerArrival (e : DeferredEntry) (code : Byte) (reason : Half) (data : Option Word) : (takeMatching e code reason data s).newerArrival = s.newerArrival :=
  (congrArg State.newerArrival (takeMatching_frame s e code reason data) :)
@[simp] theorem takeMatching_substituteTimer (e : DeferredEntry) (code : Byte) (reason : Half) (data : Option Word) : (takeMatching e code reason data s).substituteTimer = s.substituteTimer :=
  (congrArg State.substituteTimer (takeMatching_frame s e code reason data) :)
@[simp] theorem takeMatching_lastCycle (e : DeferredEntry) (code : Byte) (reason : Half) (data : Option Word) : (takeMatching e code reason data s).lastCycle = s.lastCycle :=
  (congrArg State.lastCycle (takeMatching_frame s e code reason data) :)
@[simp] theorem takeMatching_flags (e : DeferredEntry) (code : Byte) (reason : Half) (data : Option Word) : (takeMatching e code reason data s).flags = s.flags :=
  (congrArg State.flags (takeMatching_frame s e code reason data) :)
@[simp] theorem takeMatching_events (e : DeferredEntry) (code : Byte) (reason : Half) (data : Option Word) : (takeMatching e code reason data s).events = s.events :=
  (congrArg State.events (takeMatching_frame s e code reason data) :)
@[simp] theorem takeMatching_due (e : DeferredEntry) (code : Byte) (reason : Half) (data : Option Word) : (takeMatching e code reason data s).due = s.due :=
  (congrArg State.due (takeMatching_frame s e code reason data) :)
@[simp] theorem takeMatching_frameClass (e : DeferredEntry) (code : Byte) (reason : Half) (data : Option Word) : (takeMatching e code reason data s).frameClass = s.frameClass :=
  (congrArg State.frameClass (takeMatching_frame s e code reason data) :)
@[simp] theorem takeMatching_inReset (e : DeferredEntry) (code : Byte) (reason : Half) (data : Option Word) : (takeMatching e code reason data s).inReset = s.inReset :=
  (congrArg State.inReset (takeMatching_frame s e code reason data) :)
@[simp] theorem takeMatching_holdnLow (e : DeferredEntry) (code : Byte) (reason : Half) (data : Option Word) : (takeMatching e code reason data s).holdnLow = s.holdnLow :=
  (congrArg State.holdnLow (takeMatching_frame s e code reason data) :)
@[simp] theorem takeMatching_sampled (e : DeferredEntry) (code : Byte) (reason : Half) (data : Option Word) : (takeMatching e code reason data s).sampled = s.sampled :=
  (congrArg State.sampled (takeMatching_frame s e code reason data) :)
@[simp] theorem takeMatching_faultnLow (e : DeferredEntry) (code : Byte) (reason : Half) (data : Option Word) : (takeMatching e code reason data s).faultnLow = s.faultnLow :=
  (congrArg State.faultnLow (takeMatching_frame s e code reason data) :)

/-- A PARAM-RSP touches the deferred table, the backoff, the event queue and the flags (R136). -/
theorem takeResponse_frame (p : List Byte) :
    takeResponse p s = { s with
    deferred := (takeResponse p s).deferred, backoff := (takeResponse p s).backoff,
    events := (takeResponse p s).events, flags := (takeResponse p s).flags } := by
  unfold takeResponse
  repeat' split
  all_goals apply State.ext_fields <;> simp

@[simp] theorem takeResponse_pending (p : List Byte) : (takeResponse p s).pending = s.pending :=
  (congrArg State.pending (takeResponse_frame s p) :)
@[simp] theorem takeResponse_now (p : List Byte) : (takeResponse p s).now = s.now :=
  (congrArg State.now (takeResponse_frame s p) :)
@[simp] theorem takeResponse_draws (p : List Byte) : (takeResponse p s).draws = s.draws :=
  (congrArg State.draws (takeResponse_frame s p) :)
@[simp] theorem takeResponse_up (p : List Byte) : (takeResponse p s).up = s.up :=
  (congrArg State.up (takeResponse_frame s p) :)
@[simp] theorem takeResponse_down (p : List Byte) : (takeResponse p s).down = s.down :=
  (congrArg State.down (takeResponse_frame s p) :)
@[simp] theorem takeResponse_waiting (p : List Byte) : (takeResponse p s).waiting = s.waiting :=
  (congrArg State.waiting (takeResponse_frame s p) :)
@[simp] theorem takeResponse_bankPresent (p : List Byte) : (takeResponse p s).bankPresent = s.bankPresent :=
  (congrArg State.bankPresent (takeResponse_frame s p) :)
@[simp] theorem takeResponse_active (p : List Byte) : (takeResponse p s).active = s.active :=
  (congrArg State.active (takeResponse_frame s p) :)
@[simp] theorem takeResponse_verifiedCrc (p : List Byte) : (takeResponse p s).verifiedCrc = s.verifiedCrc :=
  (congrArg State.verifiedCrc (takeResponse_frame s p) :)
@[simp] theorem takeResponse_pendingBank (p : List Byte) : (takeResponse p s).pendingBank = s.pendingBank :=
  (congrArg State.pendingBank (takeResponse_frame s p) :)
@[simp] theorem takeResponse_pendingState (p : List Byte) : (takeResponse p s).pendingState = s.pendingState :=
  (congrArg State.pendingState (takeResponse_frame s p) :)
@[simp] theorem takeResponse_expectedCrc (p : List Byte) : (takeResponse p s).expectedCrc = s.expectedCrc :=
  (congrArg State.expectedCrc (takeResponse_frame s p) :)
@[simp] theorem takeResponse_pendingCrc (p : List Byte) : (takeResponse p s).pendingCrc = s.pendingCrc :=
  (congrArg State.pendingCrc (takeResponse_frame s p) :)
@[simp] theorem takeResponse_refresh (p : List Byte) : (takeResponse p s).refresh = s.refresh :=
  (congrArg State.refresh (takeResponse_frame s p) :)
@[simp] theorem takeResponse_axes (p : List Byte) : (takeResponse p s).axes = s.axes :=
  (congrArg State.axes (takeResponse_frame s p) :)
@[simp] theorem takeResponse_forwards (p : List Byte) : (takeResponse p s).forwards = s.forwards :=
  (congrArg State.forwards (takeResponse_frame s p) :)
@[simp] theorem takeResponse_reportedNodes (p : List Byte) : (takeResponse p s).reportedNodes = s.reportedNodes :=
  (congrArg State.reportedNodes (takeResponse_frame s p) :)
@[simp] theorem takeResponse_gangs (p : List Byte) : (takeResponse p s).gangs = s.gangs :=
  (congrArg State.gangs (takeResponse_frame s p) :)
@[simp] theorem takeResponse_fences (p : List Byte) : (takeResponse p s).fences = s.fences :=
  (congrArg State.fences (takeResponse_frame s p) :)
@[simp] theorem takeResponse_windClass (p : List Byte) : (takeResponse p s).windClass = s.windClass :=
  (congrArg State.windClass (takeResponse_frame s p) :)
@[simp] theorem takeResponse_weatherStale (p : List Byte) : (takeResponse p s).weatherStale = s.weatherStale :=
  (congrArg State.weatherStale (takeResponse_frame s p) :)
@[simp] theorem takeResponse_weatherTimer (p : List Byte) : (takeResponse p s).weatherTimer = s.weatherTimer :=
  (congrArg State.weatherTimer (takeResponse_frame s p) :)
@[simp] theorem takeResponse_press (p : List Byte) : (takeResponse p s).press = s.press :=
  (congrArg State.press (takeResponse_frame s p) :)
@[simp] theorem takeResponse_pressTime (p : List Byte) : (takeResponse p s).pressTime = s.pressTime :=
  (congrArg State.pressTime (takeResponse_frame s p) :)
@[simp] theorem takeResponse_longTime (p : List Byte) : (takeResponse p s).longTime = s.longTime :=
  (congrArg State.longTime (takeResponse_frame s p) :)
@[simp] theorem takeResponse_operatorHold (p : List Byte) : (takeResponse p s).operatorHold = s.operatorHold :=
  (congrArg State.operatorHold (takeResponse_frame s p) :)
@[simp] theorem takeResponse_lines (p : List Byte) : (takeResponse p s).lines = s.lines :=
  (congrArg State.lines (takeResponse_frame s p) :)
@[simp] theorem takeResponse_highPtr (p : List Byte) : (takeResponse p s).highPtr = s.highPtr :=
  (congrArg State.highPtr (takeResponse_frame s p) :)
@[simp] theorem takeResponse_lowPtr (p : List Byte) : (takeResponse p s).lowPtr = s.lowPtr :=
  (congrArg State.lowPtr (takeResponse_frame s p) :)
@[simp] theorem takeResponse_openGrant (p : List Byte) : (takeResponse p s).openGrant = s.openGrant :=
  (congrArg State.openGrant (takeResponse_frame s p) :)
@[simp] theorem takeResponse_grantRecs (p : List Byte) : (takeResponse p s).grantRecs = s.grantRecs :=
  (congrArg State.grantRecs (takeResponse_frame s p) :)
@[simp] theorem takeResponse_watchdog (p : List Byte) : (takeResponse p s).watchdog = s.watchdog :=
  (congrArg State.watchdog (takeResponse_frame s p) :)
@[simp] theorem takeResponse_watchdogTimer (p : List Byte) : (takeResponse p s).watchdogTimer = s.watchdogTimer :=
  (congrArg State.watchdogTimer (takeResponse_frame s p) :)
@[simp] theorem takeResponse_olderArrival (p : List Byte) : (takeResponse p s).olderArrival = s.olderArrival :=
  (congrArg State.olderArrival (takeResponse_frame s p) :)
@[simp] theorem takeResponse_newerArrival (p : List Byte) : (takeResponse p s).newerArrival = s.newerArrival :=
  (congrArg State.newerArrival (takeResponse_frame s p) :)
@[simp] theorem takeResponse_substituteTimer (p : List Byte) : (takeResponse p s).substituteTimer = s.substituteTimer :=
  (congrArg State.substituteTimer (takeResponse_frame s p) :)
@[simp] theorem takeResponse_lastCycle (p : List Byte) : (takeResponse p s).lastCycle = s.lastCycle :=
  (congrArg State.lastCycle (takeResponse_frame s p) :)
@[simp] theorem takeResponse_due (p : List Byte) : (takeResponse p s).due = s.due :=
  (congrArg State.due (takeResponse_frame s p) :)
@[simp] theorem takeResponse_frameClass (p : List Byte) : (takeResponse p s).frameClass = s.frameClass :=
  (congrArg State.frameClass (takeResponse_frame s p) :)
@[simp] theorem takeResponse_inReset (p : List Byte) : (takeResponse p s).inReset = s.inReset :=
  (congrArg State.inReset (takeResponse_frame s p) :)
@[simp] theorem takeResponse_holdnLow (p : List Byte) : (takeResponse p s).holdnLow = s.holdnLow :=
  (congrArg State.holdnLow (takeResponse_frame s p) :)
@[simp] theorem takeResponse_sampled (p : List Byte) : (takeResponse p s).sampled = s.sampled :=
  (congrArg State.sampled (takeResponse_frame s p) :)
@[simp] theorem takeResponse_faultnLow (p : List Byte) : (takeResponse p s).faultnLow = s.faultnLow :=
  (congrArg State.faultnLow (takeResponse_frame s p) :)

/-- An answer touches the ports, the event queue and the flags (R133). -/
theorem State.answer_frame (k : ParamKey) (code : AnswerCode) (reason : Half) (data : Option Word) :
    s.answer k code reason data = { s with
    up := (s.answer k code reason data).up, down := (s.answer k code reason data).down,
    events := (s.answer k code reason data).events, flags := (s.answer k code reason data).flags } := by
  unfold State.answer
  all_goals apply State.ext_fields <;> simp

@[simp] theorem State.answer_pending (k : ParamKey) (code : AnswerCode) (reason : Half) (data : Option Word) : (s.answer k code reason data).pending = s.pending :=
  (congrArg State.pending (State.answer_frame s k code reason data) :)
@[simp] theorem State.answer_now (k : ParamKey) (code : AnswerCode) (reason : Half) (data : Option Word) : (s.answer k code reason data).now = s.now :=
  (congrArg State.now (State.answer_frame s k code reason data) :)
@[simp] theorem State.answer_draws (k : ParamKey) (code : AnswerCode) (reason : Half) (data : Option Word) : (s.answer k code reason data).draws = s.draws :=
  (congrArg State.draws (State.answer_frame s k code reason data) :)
@[simp] theorem State.answer_waiting (k : ParamKey) (code : AnswerCode) (reason : Half) (data : Option Word) : (s.answer k code reason data).waiting = s.waiting :=
  (congrArg State.waiting (State.answer_frame s k code reason data) :)
@[simp] theorem State.answer_bankPresent (k : ParamKey) (code : AnswerCode) (reason : Half) (data : Option Word) : (s.answer k code reason data).bankPresent = s.bankPresent :=
  (congrArg State.bankPresent (State.answer_frame s k code reason data) :)
@[simp] theorem State.answer_active (k : ParamKey) (code : AnswerCode) (reason : Half) (data : Option Word) : (s.answer k code reason data).active = s.active :=
  (congrArg State.active (State.answer_frame s k code reason data) :)
@[simp] theorem State.answer_verifiedCrc (k : ParamKey) (code : AnswerCode) (reason : Half) (data : Option Word) : (s.answer k code reason data).verifiedCrc = s.verifiedCrc :=
  (congrArg State.verifiedCrc (State.answer_frame s k code reason data) :)
@[simp] theorem State.answer_pendingBank (k : ParamKey) (code : AnswerCode) (reason : Half) (data : Option Word) : (s.answer k code reason data).pendingBank = s.pendingBank :=
  (congrArg State.pendingBank (State.answer_frame s k code reason data) :)
@[simp] theorem State.answer_pendingState (k : ParamKey) (code : AnswerCode) (reason : Half) (data : Option Word) : (s.answer k code reason data).pendingState = s.pendingState :=
  (congrArg State.pendingState (State.answer_frame s k code reason data) :)
@[simp] theorem State.answer_expectedCrc (k : ParamKey) (code : AnswerCode) (reason : Half) (data : Option Word) : (s.answer k code reason data).expectedCrc = s.expectedCrc :=
  (congrArg State.expectedCrc (State.answer_frame s k code reason data) :)
@[simp] theorem State.answer_pendingCrc (k : ParamKey) (code : AnswerCode) (reason : Half) (data : Option Word) : (s.answer k code reason data).pendingCrc = s.pendingCrc :=
  (congrArg State.pendingCrc (State.answer_frame s k code reason data) :)
@[simp] theorem State.answer_refresh (k : ParamKey) (code : AnswerCode) (reason : Half) (data : Option Word) : (s.answer k code reason data).refresh = s.refresh :=
  (congrArg State.refresh (State.answer_frame s k code reason data) :)
@[simp] theorem State.answer_axes (k : ParamKey) (code : AnswerCode) (reason : Half) (data : Option Word) : (s.answer k code reason data).axes = s.axes :=
  (congrArg State.axes (State.answer_frame s k code reason data) :)
@[simp] theorem State.answer_forwards (k : ParamKey) (code : AnswerCode) (reason : Half) (data : Option Word) : (s.answer k code reason data).forwards = s.forwards :=
  (congrArg State.forwards (State.answer_frame s k code reason data) :)
@[simp] theorem State.answer_reportedNodes (k : ParamKey) (code : AnswerCode) (reason : Half) (data : Option Word) : (s.answer k code reason data).reportedNodes = s.reportedNodes :=
  (congrArg State.reportedNodes (State.answer_frame s k code reason data) :)
@[simp] theorem State.answer_gangs (k : ParamKey) (code : AnswerCode) (reason : Half) (data : Option Word) : (s.answer k code reason data).gangs = s.gangs :=
  (congrArg State.gangs (State.answer_frame s k code reason data) :)
@[simp] theorem State.answer_fences (k : ParamKey) (code : AnswerCode) (reason : Half) (data : Option Word) : (s.answer k code reason data).fences = s.fences :=
  (congrArg State.fences (State.answer_frame s k code reason data) :)
@[simp] theorem State.answer_windClass (k : ParamKey) (code : AnswerCode) (reason : Half) (data : Option Word) : (s.answer k code reason data).windClass = s.windClass :=
  (congrArg State.windClass (State.answer_frame s k code reason data) :)
@[simp] theorem State.answer_weatherStale (k : ParamKey) (code : AnswerCode) (reason : Half) (data : Option Word) : (s.answer k code reason data).weatherStale = s.weatherStale :=
  (congrArg State.weatherStale (State.answer_frame s k code reason data) :)
@[simp] theorem State.answer_weatherTimer (k : ParamKey) (code : AnswerCode) (reason : Half) (data : Option Word) : (s.answer k code reason data).weatherTimer = s.weatherTimer :=
  (congrArg State.weatherTimer (State.answer_frame s k code reason data) :)
@[simp] theorem State.answer_press (k : ParamKey) (code : AnswerCode) (reason : Half) (data : Option Word) : (s.answer k code reason data).press = s.press :=
  (congrArg State.press (State.answer_frame s k code reason data) :)
@[simp] theorem State.answer_pressTime (k : ParamKey) (code : AnswerCode) (reason : Half) (data : Option Word) : (s.answer k code reason data).pressTime = s.pressTime :=
  (congrArg State.pressTime (State.answer_frame s k code reason data) :)
@[simp] theorem State.answer_longTime (k : ParamKey) (code : AnswerCode) (reason : Half) (data : Option Word) : (s.answer k code reason data).longTime = s.longTime :=
  (congrArg State.longTime (State.answer_frame s k code reason data) :)
@[simp] theorem State.answer_operatorHold (k : ParamKey) (code : AnswerCode) (reason : Half) (data : Option Word) : (s.answer k code reason data).operatorHold = s.operatorHold :=
  (congrArg State.operatorHold (State.answer_frame s k code reason data) :)
@[simp] theorem State.answer_lines (k : ParamKey) (code : AnswerCode) (reason : Half) (data : Option Word) : (s.answer k code reason data).lines = s.lines :=
  (congrArg State.lines (State.answer_frame s k code reason data) :)
@[simp] theorem State.answer_deferred (k : ParamKey) (code : AnswerCode) (reason : Half) (data : Option Word) : (s.answer k code reason data).deferred = s.deferred :=
  (congrArg State.deferred (State.answer_frame s k code reason data) :)
@[simp] theorem State.answer_backoff (k : ParamKey) (code : AnswerCode) (reason : Half) (data : Option Word) : (s.answer k code reason data).backoff = s.backoff :=
  (congrArg State.backoff (State.answer_frame s k code reason data) :)
@[simp] theorem State.answer_highPtr (k : ParamKey) (code : AnswerCode) (reason : Half) (data : Option Word) : (s.answer k code reason data).highPtr = s.highPtr :=
  (congrArg State.highPtr (State.answer_frame s k code reason data) :)
@[simp] theorem State.answer_lowPtr (k : ParamKey) (code : AnswerCode) (reason : Half) (data : Option Word) : (s.answer k code reason data).lowPtr = s.lowPtr :=
  (congrArg State.lowPtr (State.answer_frame s k code reason data) :)
@[simp] theorem State.answer_openGrant (k : ParamKey) (code : AnswerCode) (reason : Half) (data : Option Word) : (s.answer k code reason data).openGrant = s.openGrant :=
  (congrArg State.openGrant (State.answer_frame s k code reason data) :)
@[simp] theorem State.answer_grantRecs (k : ParamKey) (code : AnswerCode) (reason : Half) (data : Option Word) : (s.answer k code reason data).grantRecs = s.grantRecs :=
  (congrArg State.grantRecs (State.answer_frame s k code reason data) :)
@[simp] theorem State.answer_watchdog (k : ParamKey) (code : AnswerCode) (reason : Half) (data : Option Word) : (s.answer k code reason data).watchdog = s.watchdog :=
  (congrArg State.watchdog (State.answer_frame s k code reason data) :)
@[simp] theorem State.answer_watchdogTimer (k : ParamKey) (code : AnswerCode) (reason : Half) (data : Option Word) : (s.answer k code reason data).watchdogTimer = s.watchdogTimer :=
  (congrArg State.watchdogTimer (State.answer_frame s k code reason data) :)
@[simp] theorem State.answer_olderArrival (k : ParamKey) (code : AnswerCode) (reason : Half) (data : Option Word) : (s.answer k code reason data).olderArrival = s.olderArrival :=
  (congrArg State.olderArrival (State.answer_frame s k code reason data) :)
@[simp] theorem State.answer_newerArrival (k : ParamKey) (code : AnswerCode) (reason : Half) (data : Option Word) : (s.answer k code reason data).newerArrival = s.newerArrival :=
  (congrArg State.newerArrival (State.answer_frame s k code reason data) :)
@[simp] theorem State.answer_substituteTimer (k : ParamKey) (code : AnswerCode) (reason : Half) (data : Option Word) : (s.answer k code reason data).substituteTimer = s.substituteTimer :=
  (congrArg State.substituteTimer (State.answer_frame s k code reason data) :)
@[simp] theorem State.answer_lastCycle (k : ParamKey) (code : AnswerCode) (reason : Half) (data : Option Word) : (s.answer k code reason data).lastCycle = s.lastCycle :=
  (congrArg State.lastCycle (State.answer_frame s k code reason data) :)
@[simp] theorem State.answer_due (k : ParamKey) (code : AnswerCode) (reason : Half) (data : Option Word) : (s.answer k code reason data).due = s.due :=
  (congrArg State.due (State.answer_frame s k code reason data) :)
@[simp] theorem State.answer_frameClass (k : ParamKey) (code : AnswerCode) (reason : Half) (data : Option Word) : (s.answer k code reason data).frameClass = s.frameClass :=
  (congrArg State.frameClass (State.answer_frame s k code reason data) :)
@[simp] theorem State.answer_inReset (k : ParamKey) (code : AnswerCode) (reason : Half) (data : Option Word) : (s.answer k code reason data).inReset = s.inReset :=
  (congrArg State.inReset (State.answer_frame s k code reason data) :)
@[simp] theorem State.answer_holdnLow (k : ParamKey) (code : AnswerCode) (reason : Half) (data : Option Word) : (s.answer k code reason data).holdnLow = s.holdnLow :=
  (congrArg State.holdnLow (State.answer_frame s k code reason data) :)
@[simp] theorem State.answer_sampled (k : ParamKey) (code : AnswerCode) (reason : Half) (data : Option Word) : (s.answer k code reason data).sampled = s.sampled :=
  (congrArg State.sampled (State.answer_frame s k code reason data) :)
@[simp] theorem State.answer_faultnLow (k : ParamKey) (code : AnswerCode) (reason : Half) (data : Option Word) : (s.answer k code reason data).faultnLow = s.faultnLow :=
  (congrArg State.faultnLow (State.answer_frame s k code reason data) :)

/-- The answer to a repeat touches the deferred table besides (R132). -/
theorem answerRepeat_frame (k : ParamKey) (e : DeferredEntry) :
    answerRepeat k e s = { s with
    deferred := (answerRepeat k e s).deferred, up := (answerRepeat k e s).up,
    down := (answerRepeat k e s).down, events := (answerRepeat k e s).events,
    flags := (answerRepeat k e s).flags } := by
  unfold answerRepeat
  repeat' split
  all_goals apply State.ext_fields <;> simp

@[simp] theorem answerRepeat_pending (k : ParamKey) (e : DeferredEntry) : (answerRepeat k e s).pending = s.pending :=
  (congrArg State.pending (answerRepeat_frame s k e) :)
@[simp] theorem answerRepeat_now (k : ParamKey) (e : DeferredEntry) : (answerRepeat k e s).now = s.now :=
  (congrArg State.now (answerRepeat_frame s k e) :)
@[simp] theorem answerRepeat_draws (k : ParamKey) (e : DeferredEntry) : (answerRepeat k e s).draws = s.draws :=
  (congrArg State.draws (answerRepeat_frame s k e) :)
@[simp] theorem answerRepeat_waiting (k : ParamKey) (e : DeferredEntry) : (answerRepeat k e s).waiting = s.waiting :=
  (congrArg State.waiting (answerRepeat_frame s k e) :)
@[simp] theorem answerRepeat_bankPresent (k : ParamKey) (e : DeferredEntry) : (answerRepeat k e s).bankPresent = s.bankPresent :=
  (congrArg State.bankPresent (answerRepeat_frame s k e) :)
@[simp] theorem answerRepeat_active (k : ParamKey) (e : DeferredEntry) : (answerRepeat k e s).active = s.active :=
  (congrArg State.active (answerRepeat_frame s k e) :)
@[simp] theorem answerRepeat_verifiedCrc (k : ParamKey) (e : DeferredEntry) : (answerRepeat k e s).verifiedCrc = s.verifiedCrc :=
  (congrArg State.verifiedCrc (answerRepeat_frame s k e) :)
@[simp] theorem answerRepeat_pendingBank (k : ParamKey) (e : DeferredEntry) : (answerRepeat k e s).pendingBank = s.pendingBank :=
  (congrArg State.pendingBank (answerRepeat_frame s k e) :)
@[simp] theorem answerRepeat_pendingState (k : ParamKey) (e : DeferredEntry) : (answerRepeat k e s).pendingState = s.pendingState :=
  (congrArg State.pendingState (answerRepeat_frame s k e) :)
@[simp] theorem answerRepeat_expectedCrc (k : ParamKey) (e : DeferredEntry) : (answerRepeat k e s).expectedCrc = s.expectedCrc :=
  (congrArg State.expectedCrc (answerRepeat_frame s k e) :)
@[simp] theorem answerRepeat_pendingCrc (k : ParamKey) (e : DeferredEntry) : (answerRepeat k e s).pendingCrc = s.pendingCrc :=
  (congrArg State.pendingCrc (answerRepeat_frame s k e) :)
@[simp] theorem answerRepeat_refresh (k : ParamKey) (e : DeferredEntry) : (answerRepeat k e s).refresh = s.refresh :=
  (congrArg State.refresh (answerRepeat_frame s k e) :)
@[simp] theorem answerRepeat_axes (k : ParamKey) (e : DeferredEntry) : (answerRepeat k e s).axes = s.axes :=
  (congrArg State.axes (answerRepeat_frame s k e) :)
@[simp] theorem answerRepeat_forwards (k : ParamKey) (e : DeferredEntry) : (answerRepeat k e s).forwards = s.forwards :=
  (congrArg State.forwards (answerRepeat_frame s k e) :)
@[simp] theorem answerRepeat_reportedNodes (k : ParamKey) (e : DeferredEntry) : (answerRepeat k e s).reportedNodes = s.reportedNodes :=
  (congrArg State.reportedNodes (answerRepeat_frame s k e) :)
@[simp] theorem answerRepeat_gangs (k : ParamKey) (e : DeferredEntry) : (answerRepeat k e s).gangs = s.gangs :=
  (congrArg State.gangs (answerRepeat_frame s k e) :)
@[simp] theorem answerRepeat_fences (k : ParamKey) (e : DeferredEntry) : (answerRepeat k e s).fences = s.fences :=
  (congrArg State.fences (answerRepeat_frame s k e) :)
@[simp] theorem answerRepeat_windClass (k : ParamKey) (e : DeferredEntry) : (answerRepeat k e s).windClass = s.windClass :=
  (congrArg State.windClass (answerRepeat_frame s k e) :)
@[simp] theorem answerRepeat_weatherStale (k : ParamKey) (e : DeferredEntry) : (answerRepeat k e s).weatherStale = s.weatherStale :=
  (congrArg State.weatherStale (answerRepeat_frame s k e) :)
@[simp] theorem answerRepeat_weatherTimer (k : ParamKey) (e : DeferredEntry) : (answerRepeat k e s).weatherTimer = s.weatherTimer :=
  (congrArg State.weatherTimer (answerRepeat_frame s k e) :)
@[simp] theorem answerRepeat_press (k : ParamKey) (e : DeferredEntry) : (answerRepeat k e s).press = s.press :=
  (congrArg State.press (answerRepeat_frame s k e) :)
@[simp] theorem answerRepeat_pressTime (k : ParamKey) (e : DeferredEntry) : (answerRepeat k e s).pressTime = s.pressTime :=
  (congrArg State.pressTime (answerRepeat_frame s k e) :)
@[simp] theorem answerRepeat_longTime (k : ParamKey) (e : DeferredEntry) : (answerRepeat k e s).longTime = s.longTime :=
  (congrArg State.longTime (answerRepeat_frame s k e) :)
@[simp] theorem answerRepeat_operatorHold (k : ParamKey) (e : DeferredEntry) : (answerRepeat k e s).operatorHold = s.operatorHold :=
  (congrArg State.operatorHold (answerRepeat_frame s k e) :)
@[simp] theorem answerRepeat_lines (k : ParamKey) (e : DeferredEntry) : (answerRepeat k e s).lines = s.lines :=
  (congrArg State.lines (answerRepeat_frame s k e) :)
@[simp] theorem answerRepeat_backoff (k : ParamKey) (e : DeferredEntry) : (answerRepeat k e s).backoff = s.backoff :=
  (congrArg State.backoff (answerRepeat_frame s k e) :)
@[simp] theorem answerRepeat_highPtr (k : ParamKey) (e : DeferredEntry) : (answerRepeat k e s).highPtr = s.highPtr :=
  (congrArg State.highPtr (answerRepeat_frame s k e) :)
@[simp] theorem answerRepeat_lowPtr (k : ParamKey) (e : DeferredEntry) : (answerRepeat k e s).lowPtr = s.lowPtr :=
  (congrArg State.lowPtr (answerRepeat_frame s k e) :)
@[simp] theorem answerRepeat_openGrant (k : ParamKey) (e : DeferredEntry) : (answerRepeat k e s).openGrant = s.openGrant :=
  (congrArg State.openGrant (answerRepeat_frame s k e) :)
@[simp] theorem answerRepeat_grantRecs (k : ParamKey) (e : DeferredEntry) : (answerRepeat k e s).grantRecs = s.grantRecs :=
  (congrArg State.grantRecs (answerRepeat_frame s k e) :)
@[simp] theorem answerRepeat_watchdog (k : ParamKey) (e : DeferredEntry) : (answerRepeat k e s).watchdog = s.watchdog :=
  (congrArg State.watchdog (answerRepeat_frame s k e) :)
@[simp] theorem answerRepeat_watchdogTimer (k : ParamKey) (e : DeferredEntry) : (answerRepeat k e s).watchdogTimer = s.watchdogTimer :=
  (congrArg State.watchdogTimer (answerRepeat_frame s k e) :)
@[simp] theorem answerRepeat_olderArrival (k : ParamKey) (e : DeferredEntry) : (answerRepeat k e s).olderArrival = s.olderArrival :=
  (congrArg State.olderArrival (answerRepeat_frame s k e) :)
@[simp] theorem answerRepeat_newerArrival (k : ParamKey) (e : DeferredEntry) : (answerRepeat k e s).newerArrival = s.newerArrival :=
  (congrArg State.newerArrival (answerRepeat_frame s k e) :)
@[simp] theorem answerRepeat_substituteTimer (k : ParamKey) (e : DeferredEntry) : (answerRepeat k e s).substituteTimer = s.substituteTimer :=
  (congrArg State.substituteTimer (answerRepeat_frame s k e) :)
@[simp] theorem answerRepeat_lastCycle (k : ParamKey) (e : DeferredEntry) : (answerRepeat k e s).lastCycle = s.lastCycle :=
  (congrArg State.lastCycle (answerRepeat_frame s k e) :)
@[simp] theorem answerRepeat_due (k : ParamKey) (e : DeferredEntry) : (answerRepeat k e s).due = s.due :=
  (congrArg State.due (answerRepeat_frame s k e) :)
@[simp] theorem answerRepeat_frameClass (k : ParamKey) (e : DeferredEntry) : (answerRepeat k e s).frameClass = s.frameClass :=
  (congrArg State.frameClass (answerRepeat_frame s k e) :)
@[simp] theorem answerRepeat_inReset (k : ParamKey) (e : DeferredEntry) : (answerRepeat k e s).inReset = s.inReset :=
  (congrArg State.inReset (answerRepeat_frame s k e) :)
@[simp] theorem answerRepeat_holdnLow (k : ParamKey) (e : DeferredEntry) : (answerRepeat k e s).holdnLow = s.holdnLow :=
  (congrArg State.holdnLow (answerRepeat_frame s k e) :)
@[simp] theorem answerRepeat_sampled (k : ParamKey) (e : DeferredEntry) : (answerRepeat k e s).sampled = s.sampled :=
  (congrArg State.sampled (answerRepeat_frame s k e) :)
@[simp] theorem answerRepeat_faultnLow (k : ParamKey) (e : DeferredEntry) : (answerRepeat k e s).faultnLow = s.faultnLow :=
  (congrArg State.faultnLow (answerRepeat_frame s k e) :)

/-- A PARAM-REQ touches the deferred table and what an answer touches (R132). -/
theorem takeRequest_frame (k : ParamKey) :
    takeRequest k s = { s with
    deferred := (takeRequest k s).deferred, up := (takeRequest k s).up,
    down := (takeRequest k s).down, events := (takeRequest k s).events,
    flags := (takeRequest k s).flags } := by
  unfold takeRequest
  repeat' split
  all_goals apply State.ext_fields <;> simp

@[simp] theorem takeRequest_pending (k : ParamKey) : (takeRequest k s).pending = s.pending :=
  (congrArg State.pending (takeRequest_frame s k) :)
@[simp] theorem takeRequest_now (k : ParamKey) : (takeRequest k s).now = s.now :=
  (congrArg State.now (takeRequest_frame s k) :)
@[simp] theorem takeRequest_draws (k : ParamKey) : (takeRequest k s).draws = s.draws :=
  (congrArg State.draws (takeRequest_frame s k) :)
@[simp] theorem takeRequest_waiting (k : ParamKey) : (takeRequest k s).waiting = s.waiting :=
  (congrArg State.waiting (takeRequest_frame s k) :)
@[simp] theorem takeRequest_bankPresent (k : ParamKey) : (takeRequest k s).bankPresent = s.bankPresent :=
  (congrArg State.bankPresent (takeRequest_frame s k) :)
@[simp] theorem takeRequest_active (k : ParamKey) : (takeRequest k s).active = s.active :=
  (congrArg State.active (takeRequest_frame s k) :)
@[simp] theorem takeRequest_verifiedCrc (k : ParamKey) : (takeRequest k s).verifiedCrc = s.verifiedCrc :=
  (congrArg State.verifiedCrc (takeRequest_frame s k) :)
@[simp] theorem takeRequest_pendingBank (k : ParamKey) : (takeRequest k s).pendingBank = s.pendingBank :=
  (congrArg State.pendingBank (takeRequest_frame s k) :)
@[simp] theorem takeRequest_pendingState (k : ParamKey) : (takeRequest k s).pendingState = s.pendingState :=
  (congrArg State.pendingState (takeRequest_frame s k) :)
@[simp] theorem takeRequest_expectedCrc (k : ParamKey) : (takeRequest k s).expectedCrc = s.expectedCrc :=
  (congrArg State.expectedCrc (takeRequest_frame s k) :)
@[simp] theorem takeRequest_pendingCrc (k : ParamKey) : (takeRequest k s).pendingCrc = s.pendingCrc :=
  (congrArg State.pendingCrc (takeRequest_frame s k) :)
@[simp] theorem takeRequest_refresh (k : ParamKey) : (takeRequest k s).refresh = s.refresh :=
  (congrArg State.refresh (takeRequest_frame s k) :)
@[simp] theorem takeRequest_axes (k : ParamKey) : (takeRequest k s).axes = s.axes :=
  (congrArg State.axes (takeRequest_frame s k) :)
@[simp] theorem takeRequest_forwards (k : ParamKey) : (takeRequest k s).forwards = s.forwards :=
  (congrArg State.forwards (takeRequest_frame s k) :)
@[simp] theorem takeRequest_reportedNodes (k : ParamKey) : (takeRequest k s).reportedNodes = s.reportedNodes :=
  (congrArg State.reportedNodes (takeRequest_frame s k) :)
@[simp] theorem takeRequest_gangs (k : ParamKey) : (takeRequest k s).gangs = s.gangs :=
  (congrArg State.gangs (takeRequest_frame s k) :)
@[simp] theorem takeRequest_fences (k : ParamKey) : (takeRequest k s).fences = s.fences :=
  (congrArg State.fences (takeRequest_frame s k) :)
@[simp] theorem takeRequest_windClass (k : ParamKey) : (takeRequest k s).windClass = s.windClass :=
  (congrArg State.windClass (takeRequest_frame s k) :)
@[simp] theorem takeRequest_weatherStale (k : ParamKey) : (takeRequest k s).weatherStale = s.weatherStale :=
  (congrArg State.weatherStale (takeRequest_frame s k) :)
@[simp] theorem takeRequest_weatherTimer (k : ParamKey) : (takeRequest k s).weatherTimer = s.weatherTimer :=
  (congrArg State.weatherTimer (takeRequest_frame s k) :)
@[simp] theorem takeRequest_press (k : ParamKey) : (takeRequest k s).press = s.press :=
  (congrArg State.press (takeRequest_frame s k) :)
@[simp] theorem takeRequest_pressTime (k : ParamKey) : (takeRequest k s).pressTime = s.pressTime :=
  (congrArg State.pressTime (takeRequest_frame s k) :)
@[simp] theorem takeRequest_longTime (k : ParamKey) : (takeRequest k s).longTime = s.longTime :=
  (congrArg State.longTime (takeRequest_frame s k) :)
@[simp] theorem takeRequest_operatorHold (k : ParamKey) : (takeRequest k s).operatorHold = s.operatorHold :=
  (congrArg State.operatorHold (takeRequest_frame s k) :)
@[simp] theorem takeRequest_lines (k : ParamKey) : (takeRequest k s).lines = s.lines :=
  (congrArg State.lines (takeRequest_frame s k) :)
@[simp] theorem takeRequest_backoff (k : ParamKey) : (takeRequest k s).backoff = s.backoff :=
  (congrArg State.backoff (takeRequest_frame s k) :)
@[simp] theorem takeRequest_highPtr (k : ParamKey) : (takeRequest k s).highPtr = s.highPtr :=
  (congrArg State.highPtr (takeRequest_frame s k) :)
@[simp] theorem takeRequest_lowPtr (k : ParamKey) : (takeRequest k s).lowPtr = s.lowPtr :=
  (congrArg State.lowPtr (takeRequest_frame s k) :)
@[simp] theorem takeRequest_openGrant (k : ParamKey) : (takeRequest k s).openGrant = s.openGrant :=
  (congrArg State.openGrant (takeRequest_frame s k) :)
@[simp] theorem takeRequest_grantRecs (k : ParamKey) : (takeRequest k s).grantRecs = s.grantRecs :=
  (congrArg State.grantRecs (takeRequest_frame s k) :)
@[simp] theorem takeRequest_watchdog (k : ParamKey) : (takeRequest k s).watchdog = s.watchdog :=
  (congrArg State.watchdog (takeRequest_frame s k) :)
@[simp] theorem takeRequest_watchdogTimer (k : ParamKey) : (takeRequest k s).watchdogTimer = s.watchdogTimer :=
  (congrArg State.watchdogTimer (takeRequest_frame s k) :)
@[simp] theorem takeRequest_olderArrival (k : ParamKey) : (takeRequest k s).olderArrival = s.olderArrival :=
  (congrArg State.olderArrival (takeRequest_frame s k) :)
@[simp] theorem takeRequest_newerArrival (k : ParamKey) : (takeRequest k s).newerArrival = s.newerArrival :=
  (congrArg State.newerArrival (takeRequest_frame s k) :)
@[simp] theorem takeRequest_substituteTimer (k : ParamKey) : (takeRequest k s).substituteTimer = s.substituteTimer :=
  (congrArg State.substituteTimer (takeRequest_frame s k) :)
@[simp] theorem takeRequest_lastCycle (k : ParamKey) : (takeRequest k s).lastCycle = s.lastCycle :=
  (congrArg State.lastCycle (takeRequest_frame s k) :)
@[simp] theorem takeRequest_due (k : ParamKey) : (takeRequest k s).due = s.due :=
  (congrArg State.due (takeRequest_frame s k) :)
@[simp] theorem takeRequest_frameClass (k : ParamKey) : (takeRequest k s).frameClass = s.frameClass :=
  (congrArg State.frameClass (takeRequest_frame s k) :)
@[simp] theorem takeRequest_inReset (k : ParamKey) : (takeRequest k s).inReset = s.inReset :=
  (congrArg State.inReset (takeRequest_frame s k) :)
@[simp] theorem takeRequest_holdnLow (k : ParamKey) : (takeRequest k s).holdnLow = s.holdnLow :=
  (congrArg State.holdnLow (takeRequest_frame s k) :)
@[simp] theorem takeRequest_sampled (k : ParamKey) : (takeRequest k s).sampled = s.sampled :=
  (congrArg State.sampled (takeRequest_frame s k) :)
@[simp] theorem takeRequest_faultnLow (k : ParamKey) : (takeRequest k s).faultnLow = s.faultnLow :=
  (congrArg State.faultnLow (takeRequest_frame s k) :)

/-- The completion of verification touches the pending bank state, the CRCs, the flags and the event queue (R122, R123). -/
theorem completeVerification_frame :
    completeVerification s = { s with
    pendingState := (completeVerification s).pendingState, pendingCrc := (completeVerification s).pendingCrc,
    expectedCrc := (completeVerification s).expectedCrc, flags := (completeVerification s).flags,
    events := (completeVerification s).events } := by
  unfold completeVerification verificationFails verificationPasses
  repeat' split
  all_goals apply State.ext_fields <;> simp

@[simp] theorem completeVerification_pending : (completeVerification s).pending = s.pending :=
  (congrArg State.pending (completeVerification_frame s) :)
@[simp] theorem completeVerification_now : (completeVerification s).now = s.now :=
  (congrArg State.now (completeVerification_frame s) :)
@[simp] theorem completeVerification_draws : (completeVerification s).draws = s.draws :=
  (congrArg State.draws (completeVerification_frame s) :)
@[simp] theorem completeVerification_up : (completeVerification s).up = s.up :=
  (congrArg State.up (completeVerification_frame s) :)
@[simp] theorem completeVerification_down : (completeVerification s).down = s.down :=
  (congrArg State.down (completeVerification_frame s) :)
@[simp] theorem completeVerification_waiting : (completeVerification s).waiting = s.waiting :=
  (congrArg State.waiting (completeVerification_frame s) :)
@[simp] theorem completeVerification_bankPresent : (completeVerification s).bankPresent = s.bankPresent :=
  (congrArg State.bankPresent (completeVerification_frame s) :)
@[simp] theorem completeVerification_active : (completeVerification s).active = s.active :=
  (congrArg State.active (completeVerification_frame s) :)
@[simp] theorem completeVerification_verifiedCrc : (completeVerification s).verifiedCrc = s.verifiedCrc :=
  (congrArg State.verifiedCrc (completeVerification_frame s) :)
@[simp] theorem completeVerification_pendingBank : (completeVerification s).pendingBank = s.pendingBank :=
  (congrArg State.pendingBank (completeVerification_frame s) :)
@[simp] theorem completeVerification_refresh : (completeVerification s).refresh = s.refresh :=
  (congrArg State.refresh (completeVerification_frame s) :)
@[simp] theorem completeVerification_axes : (completeVerification s).axes = s.axes :=
  (congrArg State.axes (completeVerification_frame s) :)
@[simp] theorem completeVerification_forwards : (completeVerification s).forwards = s.forwards :=
  (congrArg State.forwards (completeVerification_frame s) :)
@[simp] theorem completeVerification_reportedNodes : (completeVerification s).reportedNodes = s.reportedNodes :=
  (congrArg State.reportedNodes (completeVerification_frame s) :)
@[simp] theorem completeVerification_gangs : (completeVerification s).gangs = s.gangs :=
  (congrArg State.gangs (completeVerification_frame s) :)
@[simp] theorem completeVerification_fences : (completeVerification s).fences = s.fences :=
  (congrArg State.fences (completeVerification_frame s) :)
@[simp] theorem completeVerification_windClass : (completeVerification s).windClass = s.windClass :=
  (congrArg State.windClass (completeVerification_frame s) :)
@[simp] theorem completeVerification_weatherStale : (completeVerification s).weatherStale = s.weatherStale :=
  (congrArg State.weatherStale (completeVerification_frame s) :)
@[simp] theorem completeVerification_weatherTimer : (completeVerification s).weatherTimer = s.weatherTimer :=
  (congrArg State.weatherTimer (completeVerification_frame s) :)
@[simp] theorem completeVerification_press : (completeVerification s).press = s.press :=
  (congrArg State.press (completeVerification_frame s) :)
@[simp] theorem completeVerification_pressTime : (completeVerification s).pressTime = s.pressTime :=
  (congrArg State.pressTime (completeVerification_frame s) :)
@[simp] theorem completeVerification_longTime : (completeVerification s).longTime = s.longTime :=
  (congrArg State.longTime (completeVerification_frame s) :)
@[simp] theorem completeVerification_operatorHold : (completeVerification s).operatorHold = s.operatorHold :=
  (congrArg State.operatorHold (completeVerification_frame s) :)
@[simp] theorem completeVerification_lines : (completeVerification s).lines = s.lines :=
  (congrArg State.lines (completeVerification_frame s) :)
@[simp] theorem completeVerification_deferred : (completeVerification s).deferred = s.deferred :=
  (congrArg State.deferred (completeVerification_frame s) :)
@[simp] theorem completeVerification_backoff : (completeVerification s).backoff = s.backoff :=
  (congrArg State.backoff (completeVerification_frame s) :)
@[simp] theorem completeVerification_highPtr : (completeVerification s).highPtr = s.highPtr :=
  (congrArg State.highPtr (completeVerification_frame s) :)
@[simp] theorem completeVerification_lowPtr : (completeVerification s).lowPtr = s.lowPtr :=
  (congrArg State.lowPtr (completeVerification_frame s) :)
@[simp] theorem completeVerification_openGrant : (completeVerification s).openGrant = s.openGrant :=
  (congrArg State.openGrant (completeVerification_frame s) :)
@[simp] theorem completeVerification_grantRecs : (completeVerification s).grantRecs = s.grantRecs :=
  (congrArg State.grantRecs (completeVerification_frame s) :)
@[simp] theorem completeVerification_watchdog : (completeVerification s).watchdog = s.watchdog :=
  (congrArg State.watchdog (completeVerification_frame s) :)
@[simp] theorem completeVerification_watchdogTimer : (completeVerification s).watchdogTimer = s.watchdogTimer :=
  (congrArg State.watchdogTimer (completeVerification_frame s) :)
@[simp] theorem completeVerification_olderArrival : (completeVerification s).olderArrival = s.olderArrival :=
  (congrArg State.olderArrival (completeVerification_frame s) :)
@[simp] theorem completeVerification_newerArrival : (completeVerification s).newerArrival = s.newerArrival :=
  (congrArg State.newerArrival (completeVerification_frame s) :)
@[simp] theorem completeVerification_substituteTimer : (completeVerification s).substituteTimer = s.substituteTimer :=
  (congrArg State.substituteTimer (completeVerification_frame s) :)
@[simp] theorem completeVerification_lastCycle : (completeVerification s).lastCycle = s.lastCycle :=
  (congrArg State.lastCycle (completeVerification_frame s) :)
@[simp] theorem completeVerification_due : (completeVerification s).due = s.due :=
  (congrArg State.due (completeVerification_frame s) :)
@[simp] theorem completeVerification_frameClass : (completeVerification s).frameClass = s.frameClass :=
  (congrArg State.frameClass (completeVerification_frame s) :)
@[simp] theorem completeVerification_inReset : (completeVerification s).inReset = s.inReset :=
  (congrArg State.inReset (completeVerification_frame s) :)
@[simp] theorem completeVerification_holdnLow : (completeVerification s).holdnLow = s.holdnLow :=
  (congrArg State.holdnLow (completeVerification_frame s) :)
@[simp] theorem completeVerification_sampled : (completeVerification s).sampled = s.sampled :=
  (congrArg State.sampled (completeVerification_frame s) :)
@[simp] theorem completeVerification_faultnLow : (completeVerification s).faultnLow = s.faultnLow :=
  (congrArg State.faultnLow (completeVerification_frame s) :)

/-- Originating a substitute frame touches the waiting frames (R174). -/
theorem originate_frame :
    originate s = { s with
    waiting := (originate s).waiting } := by
  unfold originate
  repeat' split
  all_goals apply State.ext_fields <;> simp

@[simp] theorem originate_pending : (originate s).pending = s.pending :=
  (congrArg State.pending (originate_frame s) :)
@[simp] theorem originate_now : (originate s).now = s.now :=
  (congrArg State.now (originate_frame s) :)
@[simp] theorem originate_draws : (originate s).draws = s.draws :=
  (congrArg State.draws (originate_frame s) :)
@[simp] theorem originate_up : (originate s).up = s.up :=
  (congrArg State.up (originate_frame s) :)
@[simp] theorem originate_down : (originate s).down = s.down :=
  (congrArg State.down (originate_frame s) :)
@[simp] theorem originate_bankPresent : (originate s).bankPresent = s.bankPresent :=
  (congrArg State.bankPresent (originate_frame s) :)
@[simp] theorem originate_active : (originate s).active = s.active :=
  (congrArg State.active (originate_frame s) :)
@[simp] theorem originate_verifiedCrc : (originate s).verifiedCrc = s.verifiedCrc :=
  (congrArg State.verifiedCrc (originate_frame s) :)
@[simp] theorem originate_pendingBank : (originate s).pendingBank = s.pendingBank :=
  (congrArg State.pendingBank (originate_frame s) :)
@[simp] theorem originate_pendingState : (originate s).pendingState = s.pendingState :=
  (congrArg State.pendingState (originate_frame s) :)
@[simp] theorem originate_expectedCrc : (originate s).expectedCrc = s.expectedCrc :=
  (congrArg State.expectedCrc (originate_frame s) :)
@[simp] theorem originate_pendingCrc : (originate s).pendingCrc = s.pendingCrc :=
  (congrArg State.pendingCrc (originate_frame s) :)
@[simp] theorem originate_refresh : (originate s).refresh = s.refresh :=
  (congrArg State.refresh (originate_frame s) :)
@[simp] theorem originate_axes : (originate s).axes = s.axes :=
  (congrArg State.axes (originate_frame s) :)
@[simp] theorem originate_forwards : (originate s).forwards = s.forwards :=
  (congrArg State.forwards (originate_frame s) :)
@[simp] theorem originate_reportedNodes : (originate s).reportedNodes = s.reportedNodes :=
  (congrArg State.reportedNodes (originate_frame s) :)
@[simp] theorem originate_gangs : (originate s).gangs = s.gangs :=
  (congrArg State.gangs (originate_frame s) :)
@[simp] theorem originate_fences : (originate s).fences = s.fences :=
  (congrArg State.fences (originate_frame s) :)
@[simp] theorem originate_windClass : (originate s).windClass = s.windClass :=
  (congrArg State.windClass (originate_frame s) :)
@[simp] theorem originate_weatherStale : (originate s).weatherStale = s.weatherStale :=
  (congrArg State.weatherStale (originate_frame s) :)
@[simp] theorem originate_weatherTimer : (originate s).weatherTimer = s.weatherTimer :=
  (congrArg State.weatherTimer (originate_frame s) :)
@[simp] theorem originate_press : (originate s).press = s.press :=
  (congrArg State.press (originate_frame s) :)
@[simp] theorem originate_pressTime : (originate s).pressTime = s.pressTime :=
  (congrArg State.pressTime (originate_frame s) :)
@[simp] theorem originate_longTime : (originate s).longTime = s.longTime :=
  (congrArg State.longTime (originate_frame s) :)
@[simp] theorem originate_operatorHold : (originate s).operatorHold = s.operatorHold :=
  (congrArg State.operatorHold (originate_frame s) :)
@[simp] theorem originate_lines : (originate s).lines = s.lines :=
  (congrArg State.lines (originate_frame s) :)
@[simp] theorem originate_deferred : (originate s).deferred = s.deferred :=
  (congrArg State.deferred (originate_frame s) :)
@[simp] theorem originate_backoff : (originate s).backoff = s.backoff :=
  (congrArg State.backoff (originate_frame s) :)
@[simp] theorem originate_highPtr : (originate s).highPtr = s.highPtr :=
  (congrArg State.highPtr (originate_frame s) :)
@[simp] theorem originate_lowPtr : (originate s).lowPtr = s.lowPtr :=
  (congrArg State.lowPtr (originate_frame s) :)
@[simp] theorem originate_openGrant : (originate s).openGrant = s.openGrant :=
  (congrArg State.openGrant (originate_frame s) :)
@[simp] theorem originate_grantRecs : (originate s).grantRecs = s.grantRecs :=
  (congrArg State.grantRecs (originate_frame s) :)
@[simp] theorem originate_watchdog : (originate s).watchdog = s.watchdog :=
  (congrArg State.watchdog (originate_frame s) :)
@[simp] theorem originate_watchdogTimer : (originate s).watchdogTimer = s.watchdogTimer :=
  (congrArg State.watchdogTimer (originate_frame s) :)
@[simp] theorem originate_olderArrival : (originate s).olderArrival = s.olderArrival :=
  (congrArg State.olderArrival (originate_frame s) :)
@[simp] theorem originate_newerArrival : (originate s).newerArrival = s.newerArrival :=
  (congrArg State.newerArrival (originate_frame s) :)
@[simp] theorem originate_substituteTimer : (originate s).substituteTimer = s.substituteTimer :=
  (congrArg State.substituteTimer (originate_frame s) :)
@[simp] theorem originate_lastCycle : (originate s).lastCycle = s.lastCycle :=
  (congrArg State.lastCycle (originate_frame s) :)
@[simp] theorem originate_flags : (originate s).flags = s.flags :=
  (congrArg State.flags (originate_frame s) :)
@[simp] theorem originate_events : (originate s).events = s.events :=
  (congrArg State.events (originate_frame s) :)
@[simp] theorem originate_due : (originate s).due = s.due :=
  (congrArg State.due (originate_frame s) :)
@[simp] theorem originate_frameClass : (originate s).frameClass = s.frameClass :=
  (congrArg State.frameClass (originate_frame s) :)
@[simp] theorem originate_inReset : (originate s).inReset = s.inReset :=
  (congrArg State.inReset (originate_frame s) :)
@[simp] theorem originate_holdnLow : (originate s).holdnLow = s.holdnLow :=
  (congrArg State.holdnLow (originate_frame s) :)
@[simp] theorem originate_sampled : (originate s).sampled = s.sampled :=
  (congrArg State.sampled (originate_frame s) :)
@[simp] theorem originate_faultnLow : (originate s).faultnLow = s.faultnLow :=
  (congrArg State.faultnLow (originate_frame s) :)

/-- The watchdog's expiry touches its state and timers, its flag, the gangs and the waiting frames (R173). -/
theorem watchdogExpires_frame :
    watchdogExpires s = { s with
    flags := (watchdogExpires s).flags, gangs := (watchdogExpires s).gangs,
    watchdog := (watchdogExpires s).watchdog, watchdogTimer := (watchdogExpires s).watchdogTimer,
    substituteTimer := (watchdogExpires s).substituteTimer, waiting := (watchdogExpires s).waiting } := by
  unfold watchdogExpires
  (try dsimp only)
  all_goals apply State.ext_fields <;> simp

@[simp] theorem watchdogExpires_pending : (watchdogExpires s).pending = s.pending :=
  (congrArg State.pending (watchdogExpires_frame s) :)
@[simp] theorem watchdogExpires_now : (watchdogExpires s).now = s.now :=
  (congrArg State.now (watchdogExpires_frame s) :)
@[simp] theorem watchdogExpires_draws : (watchdogExpires s).draws = s.draws :=
  (congrArg State.draws (watchdogExpires_frame s) :)
@[simp] theorem watchdogExpires_up : (watchdogExpires s).up = s.up :=
  (congrArg State.up (watchdogExpires_frame s) :)
@[simp] theorem watchdogExpires_down : (watchdogExpires s).down = s.down :=
  (congrArg State.down (watchdogExpires_frame s) :)
@[simp] theorem watchdogExpires_bankPresent : (watchdogExpires s).bankPresent = s.bankPresent :=
  (congrArg State.bankPresent (watchdogExpires_frame s) :)
@[simp] theorem watchdogExpires_active : (watchdogExpires s).active = s.active :=
  (congrArg State.active (watchdogExpires_frame s) :)
@[simp] theorem watchdogExpires_verifiedCrc : (watchdogExpires s).verifiedCrc = s.verifiedCrc :=
  (congrArg State.verifiedCrc (watchdogExpires_frame s) :)
@[simp] theorem watchdogExpires_pendingBank : (watchdogExpires s).pendingBank = s.pendingBank :=
  (congrArg State.pendingBank (watchdogExpires_frame s) :)
@[simp] theorem watchdogExpires_pendingState : (watchdogExpires s).pendingState = s.pendingState :=
  (congrArg State.pendingState (watchdogExpires_frame s) :)
@[simp] theorem watchdogExpires_expectedCrc : (watchdogExpires s).expectedCrc = s.expectedCrc :=
  (congrArg State.expectedCrc (watchdogExpires_frame s) :)
@[simp] theorem watchdogExpires_pendingCrc : (watchdogExpires s).pendingCrc = s.pendingCrc :=
  (congrArg State.pendingCrc (watchdogExpires_frame s) :)
@[simp] theorem watchdogExpires_refresh : (watchdogExpires s).refresh = s.refresh :=
  (congrArg State.refresh (watchdogExpires_frame s) :)
@[simp] theorem watchdogExpires_axes : (watchdogExpires s).axes = s.axes :=
  (congrArg State.axes (watchdogExpires_frame s) :)
@[simp] theorem watchdogExpires_forwards : (watchdogExpires s).forwards = s.forwards :=
  (congrArg State.forwards (watchdogExpires_frame s) :)
@[simp] theorem watchdogExpires_reportedNodes : (watchdogExpires s).reportedNodes = s.reportedNodes :=
  (congrArg State.reportedNodes (watchdogExpires_frame s) :)
@[simp] theorem watchdogExpires_fences : (watchdogExpires s).fences = s.fences :=
  (congrArg State.fences (watchdogExpires_frame s) :)
@[simp] theorem watchdogExpires_windClass : (watchdogExpires s).windClass = s.windClass :=
  (congrArg State.windClass (watchdogExpires_frame s) :)
@[simp] theorem watchdogExpires_weatherStale : (watchdogExpires s).weatherStale = s.weatherStale :=
  (congrArg State.weatherStale (watchdogExpires_frame s) :)
@[simp] theorem watchdogExpires_weatherTimer : (watchdogExpires s).weatherTimer = s.weatherTimer :=
  (congrArg State.weatherTimer (watchdogExpires_frame s) :)
@[simp] theorem watchdogExpires_press : (watchdogExpires s).press = s.press :=
  (congrArg State.press (watchdogExpires_frame s) :)
@[simp] theorem watchdogExpires_pressTime : (watchdogExpires s).pressTime = s.pressTime :=
  (congrArg State.pressTime (watchdogExpires_frame s) :)
@[simp] theorem watchdogExpires_longTime : (watchdogExpires s).longTime = s.longTime :=
  (congrArg State.longTime (watchdogExpires_frame s) :)
@[simp] theorem watchdogExpires_operatorHold : (watchdogExpires s).operatorHold = s.operatorHold :=
  (congrArg State.operatorHold (watchdogExpires_frame s) :)
@[simp] theorem watchdogExpires_lines : (watchdogExpires s).lines = s.lines :=
  (congrArg State.lines (watchdogExpires_frame s) :)
@[simp] theorem watchdogExpires_deferred : (watchdogExpires s).deferred = s.deferred :=
  (congrArg State.deferred (watchdogExpires_frame s) :)
@[simp] theorem watchdogExpires_backoff : (watchdogExpires s).backoff = s.backoff :=
  (congrArg State.backoff (watchdogExpires_frame s) :)
@[simp] theorem watchdogExpires_highPtr : (watchdogExpires s).highPtr = s.highPtr :=
  (congrArg State.highPtr (watchdogExpires_frame s) :)
@[simp] theorem watchdogExpires_lowPtr : (watchdogExpires s).lowPtr = s.lowPtr :=
  (congrArg State.lowPtr (watchdogExpires_frame s) :)
@[simp] theorem watchdogExpires_openGrant : (watchdogExpires s).openGrant = s.openGrant :=
  (congrArg State.openGrant (watchdogExpires_frame s) :)
@[simp] theorem watchdogExpires_grantRecs : (watchdogExpires s).grantRecs = s.grantRecs :=
  (congrArg State.grantRecs (watchdogExpires_frame s) :)
@[simp] theorem watchdogExpires_olderArrival : (watchdogExpires s).olderArrival = s.olderArrival :=
  (congrArg State.olderArrival (watchdogExpires_frame s) :)
@[simp] theorem watchdogExpires_newerArrival : (watchdogExpires s).newerArrival = s.newerArrival :=
  (congrArg State.newerArrival (watchdogExpires_frame s) :)
@[simp] theorem watchdogExpires_lastCycle : (watchdogExpires s).lastCycle = s.lastCycle :=
  (congrArg State.lastCycle (watchdogExpires_frame s) :)
@[simp] theorem watchdogExpires_events : (watchdogExpires s).events = s.events :=
  (congrArg State.events (watchdogExpires_frame s) :)
@[simp] theorem watchdogExpires_due : (watchdogExpires s).due = s.due :=
  (congrArg State.due (watchdogExpires_frame s) :)
@[simp] theorem watchdogExpires_frameClass : (watchdogExpires s).frameClass = s.frameClass :=
  (congrArg State.frameClass (watchdogExpires_frame s) :)
@[simp] theorem watchdogExpires_inReset : (watchdogExpires s).inReset = s.inReset :=
  (congrArg State.inReset (watchdogExpires_frame s) :)
@[simp] theorem watchdogExpires_holdnLow : (watchdogExpires s).holdnLow = s.holdnLow :=
  (congrArg State.holdnLow (watchdogExpires_frame s) :)
@[simp] theorem watchdogExpires_sampled : (watchdogExpires s).sampled = s.sampled :=
  (congrArg State.sampled (watchdogExpires_frame s) :)
@[simp] theorem watchdogExpires_faultnLow : (watchdogExpires s).faultnLow = s.faultnLow :=
  (congrArg State.faultnLow (watchdogExpires_frame s) :)

/-- A prewarn expiry touches the gang records (R20). -/
theorem prewarnExpires_frame (g : Nat) :
    prewarnExpires s g = { s with
    gangs := (prewarnExpires s g).gangs } := by
  unfold prewarnExpires
  all_goals apply State.ext_fields <;> simp

@[simp] theorem prewarnExpires_pending (g : Nat) : (prewarnExpires s g).pending = s.pending :=
  (congrArg State.pending (prewarnExpires_frame s g) :)
@[simp] theorem prewarnExpires_now (g : Nat) : (prewarnExpires s g).now = s.now :=
  (congrArg State.now (prewarnExpires_frame s g) :)
@[simp] theorem prewarnExpires_draws (g : Nat) : (prewarnExpires s g).draws = s.draws :=
  (congrArg State.draws (prewarnExpires_frame s g) :)
@[simp] theorem prewarnExpires_up (g : Nat) : (prewarnExpires s g).up = s.up :=
  (congrArg State.up (prewarnExpires_frame s g) :)
@[simp] theorem prewarnExpires_down (g : Nat) : (prewarnExpires s g).down = s.down :=
  (congrArg State.down (prewarnExpires_frame s g) :)
@[simp] theorem prewarnExpires_waiting (g : Nat) : (prewarnExpires s g).waiting = s.waiting :=
  (congrArg State.waiting (prewarnExpires_frame s g) :)
@[simp] theorem prewarnExpires_bankPresent (g : Nat) : (prewarnExpires s g).bankPresent = s.bankPresent :=
  (congrArg State.bankPresent (prewarnExpires_frame s g) :)
@[simp] theorem prewarnExpires_active (g : Nat) : (prewarnExpires s g).active = s.active :=
  (congrArg State.active (prewarnExpires_frame s g) :)
@[simp] theorem prewarnExpires_verifiedCrc (g : Nat) : (prewarnExpires s g).verifiedCrc = s.verifiedCrc :=
  (congrArg State.verifiedCrc (prewarnExpires_frame s g) :)
@[simp] theorem prewarnExpires_pendingBank (g : Nat) : (prewarnExpires s g).pendingBank = s.pendingBank :=
  (congrArg State.pendingBank (prewarnExpires_frame s g) :)
@[simp] theorem prewarnExpires_pendingState (g : Nat) : (prewarnExpires s g).pendingState = s.pendingState :=
  (congrArg State.pendingState (prewarnExpires_frame s g) :)
@[simp] theorem prewarnExpires_expectedCrc (g : Nat) : (prewarnExpires s g).expectedCrc = s.expectedCrc :=
  (congrArg State.expectedCrc (prewarnExpires_frame s g) :)
@[simp] theorem prewarnExpires_pendingCrc (g : Nat) : (prewarnExpires s g).pendingCrc = s.pendingCrc :=
  (congrArg State.pendingCrc (prewarnExpires_frame s g) :)
@[simp] theorem prewarnExpires_refresh (g : Nat) : (prewarnExpires s g).refresh = s.refresh :=
  (congrArg State.refresh (prewarnExpires_frame s g) :)
@[simp] theorem prewarnExpires_axes (g : Nat) : (prewarnExpires s g).axes = s.axes :=
  (congrArg State.axes (prewarnExpires_frame s g) :)
@[simp] theorem prewarnExpires_forwards (g : Nat) : (prewarnExpires s g).forwards = s.forwards :=
  (congrArg State.forwards (prewarnExpires_frame s g) :)
@[simp] theorem prewarnExpires_reportedNodes (g : Nat) : (prewarnExpires s g).reportedNodes = s.reportedNodes :=
  (congrArg State.reportedNodes (prewarnExpires_frame s g) :)
@[simp] theorem prewarnExpires_fences (g : Nat) : (prewarnExpires s g).fences = s.fences :=
  (congrArg State.fences (prewarnExpires_frame s g) :)
@[simp] theorem prewarnExpires_windClass (g : Nat) : (prewarnExpires s g).windClass = s.windClass :=
  (congrArg State.windClass (prewarnExpires_frame s g) :)
@[simp] theorem prewarnExpires_weatherStale (g : Nat) : (prewarnExpires s g).weatherStale = s.weatherStale :=
  (congrArg State.weatherStale (prewarnExpires_frame s g) :)
@[simp] theorem prewarnExpires_weatherTimer (g : Nat) : (prewarnExpires s g).weatherTimer = s.weatherTimer :=
  (congrArg State.weatherTimer (prewarnExpires_frame s g) :)
@[simp] theorem prewarnExpires_press (g : Nat) : (prewarnExpires s g).press = s.press :=
  (congrArg State.press (prewarnExpires_frame s g) :)
@[simp] theorem prewarnExpires_pressTime (g : Nat) : (prewarnExpires s g).pressTime = s.pressTime :=
  (congrArg State.pressTime (prewarnExpires_frame s g) :)
@[simp] theorem prewarnExpires_longTime (g : Nat) : (prewarnExpires s g).longTime = s.longTime :=
  (congrArg State.longTime (prewarnExpires_frame s g) :)
@[simp] theorem prewarnExpires_operatorHold (g : Nat) : (prewarnExpires s g).operatorHold = s.operatorHold :=
  (congrArg State.operatorHold (prewarnExpires_frame s g) :)
@[simp] theorem prewarnExpires_lines (g : Nat) : (prewarnExpires s g).lines = s.lines :=
  (congrArg State.lines (prewarnExpires_frame s g) :)
@[simp] theorem prewarnExpires_deferred (g : Nat) : (prewarnExpires s g).deferred = s.deferred :=
  (congrArg State.deferred (prewarnExpires_frame s g) :)
@[simp] theorem prewarnExpires_backoff (g : Nat) : (prewarnExpires s g).backoff = s.backoff :=
  (congrArg State.backoff (prewarnExpires_frame s g) :)
@[simp] theorem prewarnExpires_highPtr (g : Nat) : (prewarnExpires s g).highPtr = s.highPtr :=
  (congrArg State.highPtr (prewarnExpires_frame s g) :)
@[simp] theorem prewarnExpires_lowPtr (g : Nat) : (prewarnExpires s g).lowPtr = s.lowPtr :=
  (congrArg State.lowPtr (prewarnExpires_frame s g) :)
@[simp] theorem prewarnExpires_openGrant (g : Nat) : (prewarnExpires s g).openGrant = s.openGrant :=
  (congrArg State.openGrant (prewarnExpires_frame s g) :)
@[simp] theorem prewarnExpires_grantRecs (g : Nat) : (prewarnExpires s g).grantRecs = s.grantRecs :=
  (congrArg State.grantRecs (prewarnExpires_frame s g) :)
@[simp] theorem prewarnExpires_watchdog (g : Nat) : (prewarnExpires s g).watchdog = s.watchdog :=
  (congrArg State.watchdog (prewarnExpires_frame s g) :)
@[simp] theorem prewarnExpires_watchdogTimer (g : Nat) : (prewarnExpires s g).watchdogTimer = s.watchdogTimer :=
  (congrArg State.watchdogTimer (prewarnExpires_frame s g) :)
@[simp] theorem prewarnExpires_olderArrival (g : Nat) : (prewarnExpires s g).olderArrival = s.olderArrival :=
  (congrArg State.olderArrival (prewarnExpires_frame s g) :)
@[simp] theorem prewarnExpires_newerArrival (g : Nat) : (prewarnExpires s g).newerArrival = s.newerArrival :=
  (congrArg State.newerArrival (prewarnExpires_frame s g) :)
@[simp] theorem prewarnExpires_substituteTimer (g : Nat) : (prewarnExpires s g).substituteTimer = s.substituteTimer :=
  (congrArg State.substituteTimer (prewarnExpires_frame s g) :)
@[simp] theorem prewarnExpires_lastCycle (g : Nat) : (prewarnExpires s g).lastCycle = s.lastCycle :=
  (congrArg State.lastCycle (prewarnExpires_frame s g) :)
@[simp] theorem prewarnExpires_flags (g : Nat) : (prewarnExpires s g).flags = s.flags :=
  (congrArg State.flags (prewarnExpires_frame s g) :)
@[simp] theorem prewarnExpires_events (g : Nat) : (prewarnExpires s g).events = s.events :=
  (congrArg State.events (prewarnExpires_frame s g) :)
@[simp] theorem prewarnExpires_due (g : Nat) : (prewarnExpires s g).due = s.due :=
  (congrArg State.due (prewarnExpires_frame s g) :)
@[simp] theorem prewarnExpires_frameClass (g : Nat) : (prewarnExpires s g).frameClass = s.frameClass :=
  (congrArg State.frameClass (prewarnExpires_frame s g) :)
@[simp] theorem prewarnExpires_inReset (g : Nat) : (prewarnExpires s g).inReset = s.inReset :=
  (congrArg State.inReset (prewarnExpires_frame s g) :)
@[simp] theorem prewarnExpires_holdnLow (g : Nat) : (prewarnExpires s g).holdnLow = s.holdnLow :=
  (congrArg State.holdnLow (prewarnExpires_frame s g) :)
@[simp] theorem prewarnExpires_sampled (g : Nat) : (prewarnExpires s g).sampled = s.sampled :=
  (congrArg State.sampled (prewarnExpires_frame s g) :)
@[simp] theorem prewarnExpires_faultnLow (g : Nat) : (prewarnExpires s g).faultnLow = s.faultnLow :=
  (congrArg State.faultnLow (prewarnExpires_frame s g) :)

/-- A SHORT press touches the press state, the mark, the flags and the gangs (R99). -/
theorem shortPress_frame :
    shortPress s = { s with
    press := (shortPress s).press, operatorHold := (shortPress s).operatorHold,
    flags := (shortPress s).flags, gangs := (shortPress s).gangs } := by
  unfold shortPress
  all_goals apply State.ext_fields <;> simp

@[simp] theorem shortPress_pending : (shortPress s).pending = s.pending :=
  (congrArg State.pending (shortPress_frame s) :)
@[simp] theorem shortPress_now : (shortPress s).now = s.now :=
  (congrArg State.now (shortPress_frame s) :)
@[simp] theorem shortPress_draws : (shortPress s).draws = s.draws :=
  (congrArg State.draws (shortPress_frame s) :)
@[simp] theorem shortPress_up : (shortPress s).up = s.up :=
  (congrArg State.up (shortPress_frame s) :)
@[simp] theorem shortPress_down : (shortPress s).down = s.down :=
  (congrArg State.down (shortPress_frame s) :)
@[simp] theorem shortPress_waiting : (shortPress s).waiting = s.waiting :=
  (congrArg State.waiting (shortPress_frame s) :)
@[simp] theorem shortPress_bankPresent : (shortPress s).bankPresent = s.bankPresent :=
  (congrArg State.bankPresent (shortPress_frame s) :)
@[simp] theorem shortPress_active : (shortPress s).active = s.active :=
  (congrArg State.active (shortPress_frame s) :)
@[simp] theorem shortPress_verifiedCrc : (shortPress s).verifiedCrc = s.verifiedCrc :=
  (congrArg State.verifiedCrc (shortPress_frame s) :)
@[simp] theorem shortPress_pendingBank : (shortPress s).pendingBank = s.pendingBank :=
  (congrArg State.pendingBank (shortPress_frame s) :)
@[simp] theorem shortPress_pendingState : (shortPress s).pendingState = s.pendingState :=
  (congrArg State.pendingState (shortPress_frame s) :)
@[simp] theorem shortPress_expectedCrc : (shortPress s).expectedCrc = s.expectedCrc :=
  (congrArg State.expectedCrc (shortPress_frame s) :)
@[simp] theorem shortPress_pendingCrc : (shortPress s).pendingCrc = s.pendingCrc :=
  (congrArg State.pendingCrc (shortPress_frame s) :)
@[simp] theorem shortPress_refresh : (shortPress s).refresh = s.refresh :=
  (congrArg State.refresh (shortPress_frame s) :)
@[simp] theorem shortPress_axes : (shortPress s).axes = s.axes :=
  (congrArg State.axes (shortPress_frame s) :)
@[simp] theorem shortPress_forwards : (shortPress s).forwards = s.forwards :=
  (congrArg State.forwards (shortPress_frame s) :)
@[simp] theorem shortPress_reportedNodes : (shortPress s).reportedNodes = s.reportedNodes :=
  (congrArg State.reportedNodes (shortPress_frame s) :)
@[simp] theorem shortPress_fences : (shortPress s).fences = s.fences :=
  (congrArg State.fences (shortPress_frame s) :)
@[simp] theorem shortPress_windClass : (shortPress s).windClass = s.windClass :=
  (congrArg State.windClass (shortPress_frame s) :)
@[simp] theorem shortPress_weatherStale : (shortPress s).weatherStale = s.weatherStale :=
  (congrArg State.weatherStale (shortPress_frame s) :)
@[simp] theorem shortPress_weatherTimer : (shortPress s).weatherTimer = s.weatherTimer :=
  (congrArg State.weatherTimer (shortPress_frame s) :)
@[simp] theorem shortPress_pressTime : (shortPress s).pressTime = s.pressTime :=
  (congrArg State.pressTime (shortPress_frame s) :)
@[simp] theorem shortPress_longTime : (shortPress s).longTime = s.longTime :=
  (congrArg State.longTime (shortPress_frame s) :)
@[simp] theorem shortPress_lines : (shortPress s).lines = s.lines :=
  (congrArg State.lines (shortPress_frame s) :)
@[simp] theorem shortPress_deferred : (shortPress s).deferred = s.deferred :=
  (congrArg State.deferred (shortPress_frame s) :)
@[simp] theorem shortPress_backoff : (shortPress s).backoff = s.backoff :=
  (congrArg State.backoff (shortPress_frame s) :)
@[simp] theorem shortPress_highPtr : (shortPress s).highPtr = s.highPtr :=
  (congrArg State.highPtr (shortPress_frame s) :)
@[simp] theorem shortPress_lowPtr : (shortPress s).lowPtr = s.lowPtr :=
  (congrArg State.lowPtr (shortPress_frame s) :)
@[simp] theorem shortPress_openGrant : (shortPress s).openGrant = s.openGrant :=
  (congrArg State.openGrant (shortPress_frame s) :)
@[simp] theorem shortPress_grantRecs : (shortPress s).grantRecs = s.grantRecs :=
  (congrArg State.grantRecs (shortPress_frame s) :)
@[simp] theorem shortPress_watchdog : (shortPress s).watchdog = s.watchdog :=
  (congrArg State.watchdog (shortPress_frame s) :)
@[simp] theorem shortPress_watchdogTimer : (shortPress s).watchdogTimer = s.watchdogTimer :=
  (congrArg State.watchdogTimer (shortPress_frame s) :)
@[simp] theorem shortPress_olderArrival : (shortPress s).olderArrival = s.olderArrival :=
  (congrArg State.olderArrival (shortPress_frame s) :)
@[simp] theorem shortPress_newerArrival : (shortPress s).newerArrival = s.newerArrival :=
  (congrArg State.newerArrival (shortPress_frame s) :)
@[simp] theorem shortPress_substituteTimer : (shortPress s).substituteTimer = s.substituteTimer :=
  (congrArg State.substituteTimer (shortPress_frame s) :)
@[simp] theorem shortPress_lastCycle : (shortPress s).lastCycle = s.lastCycle :=
  (congrArg State.lastCycle (shortPress_frame s) :)
@[simp] theorem shortPress_events : (shortPress s).events = s.events :=
  (congrArg State.events (shortPress_frame s) :)
@[simp] theorem shortPress_due : (shortPress s).due = s.due :=
  (congrArg State.due (shortPress_frame s) :)
@[simp] theorem shortPress_frameClass : (shortPress s).frameClass = s.frameClass :=
  (congrArg State.frameClass (shortPress_frame s) :)
@[simp] theorem shortPress_inReset : (shortPress s).inReset = s.inReset :=
  (congrArg State.inReset (shortPress_frame s) :)
@[simp] theorem shortPress_holdnLow : (shortPress s).holdnLow = s.holdnLow :=
  (congrArg State.holdnLow (shortPress_frame s) :)
@[simp] theorem shortPress_sampled : (shortPress s).sampled = s.sampled :=
  (congrArg State.sampled (shortPress_frame s) :)
@[simp] theorem shortPress_faultnLow : (shortPress s).faultnLow = s.faultnLow :=
  (congrArg State.faultnLow (shortPress_frame s) :)

/-- A LONG press touches the press, the mark, the flags and the gangs (R100). -/
theorem longPressActs_frame :
    longPressActs s = { s with
    press := (longPressActs s).press, pressTime := (longPressActs s).pressTime,
    operatorHold := (longPressActs s).operatorHold, flags := (longPressActs s).flags,
    gangs := (longPressActs s).gangs } := by
  unfold longPressActs
  (try dsimp only)
  repeat' split
  all_goals apply State.ext_fields <;> simp

@[simp] theorem longPressActs_pending : (longPressActs s).pending = s.pending :=
  (congrArg State.pending (longPressActs_frame s) :)
@[simp] theorem longPressActs_now : (longPressActs s).now = s.now :=
  (congrArg State.now (longPressActs_frame s) :)
@[simp] theorem longPressActs_draws : (longPressActs s).draws = s.draws :=
  (congrArg State.draws (longPressActs_frame s) :)
@[simp] theorem longPressActs_up : (longPressActs s).up = s.up :=
  (congrArg State.up (longPressActs_frame s) :)
@[simp] theorem longPressActs_down : (longPressActs s).down = s.down :=
  (congrArg State.down (longPressActs_frame s) :)
@[simp] theorem longPressActs_waiting : (longPressActs s).waiting = s.waiting :=
  (congrArg State.waiting (longPressActs_frame s) :)
@[simp] theorem longPressActs_bankPresent : (longPressActs s).bankPresent = s.bankPresent :=
  (congrArg State.bankPresent (longPressActs_frame s) :)
@[simp] theorem longPressActs_active : (longPressActs s).active = s.active :=
  (congrArg State.active (longPressActs_frame s) :)
@[simp] theorem longPressActs_verifiedCrc : (longPressActs s).verifiedCrc = s.verifiedCrc :=
  (congrArg State.verifiedCrc (longPressActs_frame s) :)
@[simp] theorem longPressActs_pendingBank : (longPressActs s).pendingBank = s.pendingBank :=
  (congrArg State.pendingBank (longPressActs_frame s) :)
@[simp] theorem longPressActs_pendingState : (longPressActs s).pendingState = s.pendingState :=
  (congrArg State.pendingState (longPressActs_frame s) :)
@[simp] theorem longPressActs_expectedCrc : (longPressActs s).expectedCrc = s.expectedCrc :=
  (congrArg State.expectedCrc (longPressActs_frame s) :)
@[simp] theorem longPressActs_pendingCrc : (longPressActs s).pendingCrc = s.pendingCrc :=
  (congrArg State.pendingCrc (longPressActs_frame s) :)
@[simp] theorem longPressActs_refresh : (longPressActs s).refresh = s.refresh :=
  (congrArg State.refresh (longPressActs_frame s) :)
@[simp] theorem longPressActs_axes : (longPressActs s).axes = s.axes :=
  (congrArg State.axes (longPressActs_frame s) :)
@[simp] theorem longPressActs_forwards : (longPressActs s).forwards = s.forwards :=
  (congrArg State.forwards (longPressActs_frame s) :)
@[simp] theorem longPressActs_reportedNodes : (longPressActs s).reportedNodes = s.reportedNodes :=
  (congrArg State.reportedNodes (longPressActs_frame s) :)
@[simp] theorem longPressActs_fences : (longPressActs s).fences = s.fences :=
  (congrArg State.fences (longPressActs_frame s) :)
@[simp] theorem longPressActs_windClass : (longPressActs s).windClass = s.windClass :=
  (congrArg State.windClass (longPressActs_frame s) :)
@[simp] theorem longPressActs_weatherStale : (longPressActs s).weatherStale = s.weatherStale :=
  (congrArg State.weatherStale (longPressActs_frame s) :)
@[simp] theorem longPressActs_weatherTimer : (longPressActs s).weatherTimer = s.weatherTimer :=
  (congrArg State.weatherTimer (longPressActs_frame s) :)
@[simp] theorem longPressActs_longTime : (longPressActs s).longTime = s.longTime :=
  (congrArg State.longTime (longPressActs_frame s) :)
@[simp] theorem longPressActs_lines : (longPressActs s).lines = s.lines :=
  (congrArg State.lines (longPressActs_frame s) :)
@[simp] theorem longPressActs_deferred : (longPressActs s).deferred = s.deferred :=
  (congrArg State.deferred (longPressActs_frame s) :)
@[simp] theorem longPressActs_backoff : (longPressActs s).backoff = s.backoff :=
  (congrArg State.backoff (longPressActs_frame s) :)
@[simp] theorem longPressActs_highPtr : (longPressActs s).highPtr = s.highPtr :=
  (congrArg State.highPtr (longPressActs_frame s) :)
@[simp] theorem longPressActs_lowPtr : (longPressActs s).lowPtr = s.lowPtr :=
  (congrArg State.lowPtr (longPressActs_frame s) :)
@[simp] theorem longPressActs_openGrant : (longPressActs s).openGrant = s.openGrant :=
  (congrArg State.openGrant (longPressActs_frame s) :)
@[simp] theorem longPressActs_grantRecs : (longPressActs s).grantRecs = s.grantRecs :=
  (congrArg State.grantRecs (longPressActs_frame s) :)
@[simp] theorem longPressActs_watchdog : (longPressActs s).watchdog = s.watchdog :=
  (congrArg State.watchdog (longPressActs_frame s) :)
@[simp] theorem longPressActs_watchdogTimer : (longPressActs s).watchdogTimer = s.watchdogTimer :=
  (congrArg State.watchdogTimer (longPressActs_frame s) :)
@[simp] theorem longPressActs_olderArrival : (longPressActs s).olderArrival = s.olderArrival :=
  (congrArg State.olderArrival (longPressActs_frame s) :)
@[simp] theorem longPressActs_newerArrival : (longPressActs s).newerArrival = s.newerArrival :=
  (congrArg State.newerArrival (longPressActs_frame s) :)
@[simp] theorem longPressActs_substituteTimer : (longPressActs s).substituteTimer = s.substituteTimer :=
  (congrArg State.substituteTimer (longPressActs_frame s) :)
@[simp] theorem longPressActs_lastCycle : (longPressActs s).lastCycle = s.lastCycle :=
  (congrArg State.lastCycle (longPressActs_frame s) :)
@[simp] theorem longPressActs_events : (longPressActs s).events = s.events :=
  (congrArg State.events (longPressActs_frame s) :)
@[simp] theorem longPressActs_due : (longPressActs s).due = s.due :=
  (congrArg State.due (longPressActs_frame s) :)
@[simp] theorem longPressActs_frameClass : (longPressActs s).frameClass = s.frameClass :=
  (congrArg State.frameClass (longPressActs_frame s) :)
@[simp] theorem longPressActs_inReset : (longPressActs s).inReset = s.inReset :=
  (congrArg State.inReset (longPressActs_frame s) :)
@[simp] theorem longPressActs_holdnLow : (longPressActs s).holdnLow = s.holdnLow :=
  (congrArg State.holdnLow (longPressActs_frame s) :)
@[simp] theorem longPressActs_sampled : (longPressActs s).sampled = s.sampled :=
  (congrArg State.sampled (longPressActs_frame s) :)
@[simp] theorem longPressActs_faultnLow : (longPressActs s).faultnLow = s.faultnLow :=
  (congrArg State.faultnLow (longPressActs_frame s) :)

/-- Updating a line touches the lines alone. -/
theorem State.modifyLine_frame (i : Nat) (f : LineGen → LineGen) :
    s.modifyLine i f = { s with
    lines := (s.modifyLine i f).lines } := by
  unfold State.modifyLine
  repeat' split
  all_goals apply State.ext_fields <;> simp

@[simp] theorem State.modifyLine_pending (i : Nat) (f : LineGen → LineGen) : (s.modifyLine i f).pending = s.pending :=
  (congrArg State.pending (State.modifyLine_frame s i f) :)
@[simp] theorem State.modifyLine_now (i : Nat) (f : LineGen → LineGen) : (s.modifyLine i f).now = s.now :=
  (congrArg State.now (State.modifyLine_frame s i f) :)
@[simp] theorem State.modifyLine_draws (i : Nat) (f : LineGen → LineGen) : (s.modifyLine i f).draws = s.draws :=
  (congrArg State.draws (State.modifyLine_frame s i f) :)
@[simp] theorem State.modifyLine_up (i : Nat) (f : LineGen → LineGen) : (s.modifyLine i f).up = s.up :=
  (congrArg State.up (State.modifyLine_frame s i f) :)
@[simp] theorem State.modifyLine_down (i : Nat) (f : LineGen → LineGen) : (s.modifyLine i f).down = s.down :=
  (congrArg State.down (State.modifyLine_frame s i f) :)
@[simp] theorem State.modifyLine_waiting (i : Nat) (f : LineGen → LineGen) : (s.modifyLine i f).waiting = s.waiting :=
  (congrArg State.waiting (State.modifyLine_frame s i f) :)
@[simp] theorem State.modifyLine_bankPresent (i : Nat) (f : LineGen → LineGen) : (s.modifyLine i f).bankPresent = s.bankPresent :=
  (congrArg State.bankPresent (State.modifyLine_frame s i f) :)
@[simp] theorem State.modifyLine_active (i : Nat) (f : LineGen → LineGen) : (s.modifyLine i f).active = s.active :=
  (congrArg State.active (State.modifyLine_frame s i f) :)
@[simp] theorem State.modifyLine_verifiedCrc (i : Nat) (f : LineGen → LineGen) : (s.modifyLine i f).verifiedCrc = s.verifiedCrc :=
  (congrArg State.verifiedCrc (State.modifyLine_frame s i f) :)
@[simp] theorem State.modifyLine_pendingBank (i : Nat) (f : LineGen → LineGen) : (s.modifyLine i f).pendingBank = s.pendingBank :=
  (congrArg State.pendingBank (State.modifyLine_frame s i f) :)
@[simp] theorem State.modifyLine_pendingState (i : Nat) (f : LineGen → LineGen) : (s.modifyLine i f).pendingState = s.pendingState :=
  (congrArg State.pendingState (State.modifyLine_frame s i f) :)
@[simp] theorem State.modifyLine_expectedCrc (i : Nat) (f : LineGen → LineGen) : (s.modifyLine i f).expectedCrc = s.expectedCrc :=
  (congrArg State.expectedCrc (State.modifyLine_frame s i f) :)
@[simp] theorem State.modifyLine_pendingCrc (i : Nat) (f : LineGen → LineGen) : (s.modifyLine i f).pendingCrc = s.pendingCrc :=
  (congrArg State.pendingCrc (State.modifyLine_frame s i f) :)
@[simp] theorem State.modifyLine_refresh (i : Nat) (f : LineGen → LineGen) : (s.modifyLine i f).refresh = s.refresh :=
  (congrArg State.refresh (State.modifyLine_frame s i f) :)
@[simp] theorem State.modifyLine_axes (i : Nat) (f : LineGen → LineGen) : (s.modifyLine i f).axes = s.axes :=
  (congrArg State.axes (State.modifyLine_frame s i f) :)
@[simp] theorem State.modifyLine_forwards (i : Nat) (f : LineGen → LineGen) : (s.modifyLine i f).forwards = s.forwards :=
  (congrArg State.forwards (State.modifyLine_frame s i f) :)
@[simp] theorem State.modifyLine_reportedNodes (i : Nat) (f : LineGen → LineGen) : (s.modifyLine i f).reportedNodes = s.reportedNodes :=
  (congrArg State.reportedNodes (State.modifyLine_frame s i f) :)
@[simp] theorem State.modifyLine_gangs (i : Nat) (f : LineGen → LineGen) : (s.modifyLine i f).gangs = s.gangs :=
  (congrArg State.gangs (State.modifyLine_frame s i f) :)
@[simp] theorem State.modifyLine_fences (i : Nat) (f : LineGen → LineGen) : (s.modifyLine i f).fences = s.fences :=
  (congrArg State.fences (State.modifyLine_frame s i f) :)
@[simp] theorem State.modifyLine_windClass (i : Nat) (f : LineGen → LineGen) : (s.modifyLine i f).windClass = s.windClass :=
  (congrArg State.windClass (State.modifyLine_frame s i f) :)
@[simp] theorem State.modifyLine_weatherStale (i : Nat) (f : LineGen → LineGen) : (s.modifyLine i f).weatherStale = s.weatherStale :=
  (congrArg State.weatherStale (State.modifyLine_frame s i f) :)
@[simp] theorem State.modifyLine_weatherTimer (i : Nat) (f : LineGen → LineGen) : (s.modifyLine i f).weatherTimer = s.weatherTimer :=
  (congrArg State.weatherTimer (State.modifyLine_frame s i f) :)
@[simp] theorem State.modifyLine_press (i : Nat) (f : LineGen → LineGen) : (s.modifyLine i f).press = s.press :=
  (congrArg State.press (State.modifyLine_frame s i f) :)
@[simp] theorem State.modifyLine_pressTime (i : Nat) (f : LineGen → LineGen) : (s.modifyLine i f).pressTime = s.pressTime :=
  (congrArg State.pressTime (State.modifyLine_frame s i f) :)
@[simp] theorem State.modifyLine_longTime (i : Nat) (f : LineGen → LineGen) : (s.modifyLine i f).longTime = s.longTime :=
  (congrArg State.longTime (State.modifyLine_frame s i f) :)
@[simp] theorem State.modifyLine_operatorHold (i : Nat) (f : LineGen → LineGen) : (s.modifyLine i f).operatorHold = s.operatorHold :=
  (congrArg State.operatorHold (State.modifyLine_frame s i f) :)
@[simp] theorem State.modifyLine_deferred (i : Nat) (f : LineGen → LineGen) : (s.modifyLine i f).deferred = s.deferred :=
  (congrArg State.deferred (State.modifyLine_frame s i f) :)
@[simp] theorem State.modifyLine_backoff (i : Nat) (f : LineGen → LineGen) : (s.modifyLine i f).backoff = s.backoff :=
  (congrArg State.backoff (State.modifyLine_frame s i f) :)
@[simp] theorem State.modifyLine_highPtr (i : Nat) (f : LineGen → LineGen) : (s.modifyLine i f).highPtr = s.highPtr :=
  (congrArg State.highPtr (State.modifyLine_frame s i f) :)
@[simp] theorem State.modifyLine_lowPtr (i : Nat) (f : LineGen → LineGen) : (s.modifyLine i f).lowPtr = s.lowPtr :=
  (congrArg State.lowPtr (State.modifyLine_frame s i f) :)
@[simp] theorem State.modifyLine_openGrant (i : Nat) (f : LineGen → LineGen) : (s.modifyLine i f).openGrant = s.openGrant :=
  (congrArg State.openGrant (State.modifyLine_frame s i f) :)
@[simp] theorem State.modifyLine_grantRecs (i : Nat) (f : LineGen → LineGen) : (s.modifyLine i f).grantRecs = s.grantRecs :=
  (congrArg State.grantRecs (State.modifyLine_frame s i f) :)
@[simp] theorem State.modifyLine_watchdog (i : Nat) (f : LineGen → LineGen) : (s.modifyLine i f).watchdog = s.watchdog :=
  (congrArg State.watchdog (State.modifyLine_frame s i f) :)
@[simp] theorem State.modifyLine_watchdogTimer (i : Nat) (f : LineGen → LineGen) : (s.modifyLine i f).watchdogTimer = s.watchdogTimer :=
  (congrArg State.watchdogTimer (State.modifyLine_frame s i f) :)
@[simp] theorem State.modifyLine_olderArrival (i : Nat) (f : LineGen → LineGen) : (s.modifyLine i f).olderArrival = s.olderArrival :=
  (congrArg State.olderArrival (State.modifyLine_frame s i f) :)
@[simp] theorem State.modifyLine_newerArrival (i : Nat) (f : LineGen → LineGen) : (s.modifyLine i f).newerArrival = s.newerArrival :=
  (congrArg State.newerArrival (State.modifyLine_frame s i f) :)
@[simp] theorem State.modifyLine_substituteTimer (i : Nat) (f : LineGen → LineGen) : (s.modifyLine i f).substituteTimer = s.substituteTimer :=
  (congrArg State.substituteTimer (State.modifyLine_frame s i f) :)
@[simp] theorem State.modifyLine_lastCycle (i : Nat) (f : LineGen → LineGen) : (s.modifyLine i f).lastCycle = s.lastCycle :=
  (congrArg State.lastCycle (State.modifyLine_frame s i f) :)
@[simp] theorem State.modifyLine_flags (i : Nat) (f : LineGen → LineGen) : (s.modifyLine i f).flags = s.flags :=
  (congrArg State.flags (State.modifyLine_frame s i f) :)
@[simp] theorem State.modifyLine_events (i : Nat) (f : LineGen → LineGen) : (s.modifyLine i f).events = s.events :=
  (congrArg State.events (State.modifyLine_frame s i f) :)
@[simp] theorem State.modifyLine_due (i : Nat) (f : LineGen → LineGen) : (s.modifyLine i f).due = s.due :=
  (congrArg State.due (State.modifyLine_frame s i f) :)
@[simp] theorem State.modifyLine_frameClass (i : Nat) (f : LineGen → LineGen) : (s.modifyLine i f).frameClass = s.frameClass :=
  (congrArg State.frameClass (State.modifyLine_frame s i f) :)
@[simp] theorem State.modifyLine_inReset (i : Nat) (f : LineGen → LineGen) : (s.modifyLine i f).inReset = s.inReset :=
  (congrArg State.inReset (State.modifyLine_frame s i f) :)
@[simp] theorem State.modifyLine_holdnLow (i : Nat) (f : LineGen → LineGen) : (s.modifyLine i f).holdnLow = s.holdnLow :=
  (congrArg State.holdnLow (State.modifyLine_frame s i f) :)
@[simp] theorem State.modifyLine_sampled (i : Nat) (f : LineGen → LineGen) : (s.modifyLine i f).sampled = s.sampled :=
  (congrArg State.sampled (State.modifyLine_frame s i f) :)
@[simp] theorem State.modifyLine_faultnLow (i : Nat) (f : LineGen → LineGen) : (s.modifyLine i f).faultnLow = s.faultnLow :=
  (congrArg State.faultnLow (State.modifyLine_frame s i f) :)

/-- A transmission touches its port (R155). -/
theorem transmitHead_frame (p : Port) :
    transmitHead p s = { s with
    up := (transmitHead p s).up, down := (transmitHead p s).down } := by
  unfold transmitHead
  (try dsimp only)
  repeat' split
  all_goals apply State.ext_fields <;> simp

@[simp] theorem transmitHead_pending (p : Port) : (transmitHead p s).pending = s.pending :=
  (congrArg State.pending (transmitHead_frame s p) :)
@[simp] theorem transmitHead_now (p : Port) : (transmitHead p s).now = s.now :=
  (congrArg State.now (transmitHead_frame s p) :)
@[simp] theorem transmitHead_draws (p : Port) : (transmitHead p s).draws = s.draws :=
  (congrArg State.draws (transmitHead_frame s p) :)
@[simp] theorem transmitHead_waiting (p : Port) : (transmitHead p s).waiting = s.waiting :=
  (congrArg State.waiting (transmitHead_frame s p) :)
@[simp] theorem transmitHead_bankPresent (p : Port) : (transmitHead p s).bankPresent = s.bankPresent :=
  (congrArg State.bankPresent (transmitHead_frame s p) :)
@[simp] theorem transmitHead_active (p : Port) : (transmitHead p s).active = s.active :=
  (congrArg State.active (transmitHead_frame s p) :)
@[simp] theorem transmitHead_verifiedCrc (p : Port) : (transmitHead p s).verifiedCrc = s.verifiedCrc :=
  (congrArg State.verifiedCrc (transmitHead_frame s p) :)
@[simp] theorem transmitHead_pendingBank (p : Port) : (transmitHead p s).pendingBank = s.pendingBank :=
  (congrArg State.pendingBank (transmitHead_frame s p) :)
@[simp] theorem transmitHead_pendingState (p : Port) : (transmitHead p s).pendingState = s.pendingState :=
  (congrArg State.pendingState (transmitHead_frame s p) :)
@[simp] theorem transmitHead_expectedCrc (p : Port) : (transmitHead p s).expectedCrc = s.expectedCrc :=
  (congrArg State.expectedCrc (transmitHead_frame s p) :)
@[simp] theorem transmitHead_pendingCrc (p : Port) : (transmitHead p s).pendingCrc = s.pendingCrc :=
  (congrArg State.pendingCrc (transmitHead_frame s p) :)
@[simp] theorem transmitHead_refresh (p : Port) : (transmitHead p s).refresh = s.refresh :=
  (congrArg State.refresh (transmitHead_frame s p) :)
@[simp] theorem transmitHead_axes (p : Port) : (transmitHead p s).axes = s.axes :=
  (congrArg State.axes (transmitHead_frame s p) :)
@[simp] theorem transmitHead_forwards (p : Port) : (transmitHead p s).forwards = s.forwards :=
  (congrArg State.forwards (transmitHead_frame s p) :)
@[simp] theorem transmitHead_reportedNodes (p : Port) : (transmitHead p s).reportedNodes = s.reportedNodes :=
  (congrArg State.reportedNodes (transmitHead_frame s p) :)
@[simp] theorem transmitHead_gangs (p : Port) : (transmitHead p s).gangs = s.gangs :=
  (congrArg State.gangs (transmitHead_frame s p) :)
@[simp] theorem transmitHead_fences (p : Port) : (transmitHead p s).fences = s.fences :=
  (congrArg State.fences (transmitHead_frame s p) :)
@[simp] theorem transmitHead_windClass (p : Port) : (transmitHead p s).windClass = s.windClass :=
  (congrArg State.windClass (transmitHead_frame s p) :)
@[simp] theorem transmitHead_weatherStale (p : Port) : (transmitHead p s).weatherStale = s.weatherStale :=
  (congrArg State.weatherStale (transmitHead_frame s p) :)
@[simp] theorem transmitHead_weatherTimer (p : Port) : (transmitHead p s).weatherTimer = s.weatherTimer :=
  (congrArg State.weatherTimer (transmitHead_frame s p) :)
@[simp] theorem transmitHead_press (p : Port) : (transmitHead p s).press = s.press :=
  (congrArg State.press (transmitHead_frame s p) :)
@[simp] theorem transmitHead_pressTime (p : Port) : (transmitHead p s).pressTime = s.pressTime :=
  (congrArg State.pressTime (transmitHead_frame s p) :)
@[simp] theorem transmitHead_longTime (p : Port) : (transmitHead p s).longTime = s.longTime :=
  (congrArg State.longTime (transmitHead_frame s p) :)
@[simp] theorem transmitHead_operatorHold (p : Port) : (transmitHead p s).operatorHold = s.operatorHold :=
  (congrArg State.operatorHold (transmitHead_frame s p) :)
@[simp] theorem transmitHead_lines (p : Port) : (transmitHead p s).lines = s.lines :=
  (congrArg State.lines (transmitHead_frame s p) :)
@[simp] theorem transmitHead_deferred (p : Port) : (transmitHead p s).deferred = s.deferred :=
  (congrArg State.deferred (transmitHead_frame s p) :)
@[simp] theorem transmitHead_backoff (p : Port) : (transmitHead p s).backoff = s.backoff :=
  (congrArg State.backoff (transmitHead_frame s p) :)
@[simp] theorem transmitHead_highPtr (p : Port) : (transmitHead p s).highPtr = s.highPtr :=
  (congrArg State.highPtr (transmitHead_frame s p) :)
@[simp] theorem transmitHead_lowPtr (p : Port) : (transmitHead p s).lowPtr = s.lowPtr :=
  (congrArg State.lowPtr (transmitHead_frame s p) :)
@[simp] theorem transmitHead_openGrant (p : Port) : (transmitHead p s).openGrant = s.openGrant :=
  (congrArg State.openGrant (transmitHead_frame s p) :)
@[simp] theorem transmitHead_grantRecs (p : Port) : (transmitHead p s).grantRecs = s.grantRecs :=
  (congrArg State.grantRecs (transmitHead_frame s p) :)
@[simp] theorem transmitHead_watchdog (p : Port) : (transmitHead p s).watchdog = s.watchdog :=
  (congrArg State.watchdog (transmitHead_frame s p) :)
@[simp] theorem transmitHead_watchdogTimer (p : Port) : (transmitHead p s).watchdogTimer = s.watchdogTimer :=
  (congrArg State.watchdogTimer (transmitHead_frame s p) :)
@[simp] theorem transmitHead_olderArrival (p : Port) : (transmitHead p s).olderArrival = s.olderArrival :=
  (congrArg State.olderArrival (transmitHead_frame s p) :)
@[simp] theorem transmitHead_newerArrival (p : Port) : (transmitHead p s).newerArrival = s.newerArrival :=
  (congrArg State.newerArrival (transmitHead_frame s p) :)
@[simp] theorem transmitHead_substituteTimer (p : Port) : (transmitHead p s).substituteTimer = s.substituteTimer :=
  (congrArg State.substituteTimer (transmitHead_frame s p) :)
@[simp] theorem transmitHead_lastCycle (p : Port) : (transmitHead p s).lastCycle = s.lastCycle :=
  (congrArg State.lastCycle (transmitHead_frame s p) :)
@[simp] theorem transmitHead_flags (p : Port) : (transmitHead p s).flags = s.flags :=
  (congrArg State.flags (transmitHead_frame s p) :)
@[simp] theorem transmitHead_events (p : Port) : (transmitHead p s).events = s.events :=
  (congrArg State.events (transmitHead_frame s p) :)
@[simp] theorem transmitHead_due (p : Port) : (transmitHead p s).due = s.due :=
  (congrArg State.due (transmitHead_frame s p) :)
@[simp] theorem transmitHead_frameClass (p : Port) : (transmitHead p s).frameClass = s.frameClass :=
  (congrArg State.frameClass (transmitHead_frame s p) :)
@[simp] theorem transmitHead_inReset (p : Port) : (transmitHead p s).inReset = s.inReset :=
  (congrArg State.inReset (transmitHead_frame s p) :)
@[simp] theorem transmitHead_holdnLow (p : Port) : (transmitHead p s).holdnLow = s.holdnLow :=
  (congrArg State.holdnLow (transmitHead_frame s p) :)
@[simp] theorem transmitHead_sampled (p : Port) : (transmitHead p s).sampled = s.sampled :=
  (congrArg State.sampled (transmitHead_frame s p) :)
@[simp] theorem transmitHead_faultnLow (p : Port) : (transmitHead p s).faultnLow = s.faultnLow :=
  (congrArg State.faultnLow (transmitHead_frame s p) :)

/-- Clearing echo marks touches the axis records (R67). -/
theorem State.clearEcho_frame (g : Nat) :
    s.clearEcho g = { s with
    axes := (s.clearEcho g).axes } := by
  unfold State.clearEcho
  generalize s.members g = l
  have : ∀ t : State, t = { s with axes := t.axes } →
      (l.foldl (fun s i => s.modifyAxis i fun r => { r with echoCount := 0, echoFault := false }) t) =
        { s with axes := (l.foldl (fun s i => s.modifyAxis i fun r =>
          { r with echoCount := 0, echoFault := false }) t).axes } := by
    induction l with
    | nil => intro t h; exact h
    | cons i l ih => intro t h; exact ih _ (by dsimp only; rw [State.modifyAxis_frame, h])
  exact this s rfl

@[simp] theorem State.clearEcho_pending (g : Nat) : (s.clearEcho g).pending = s.pending :=
  (congrArg State.pending (State.clearEcho_frame s g) :)
@[simp] theorem State.clearEcho_now (g : Nat) : (s.clearEcho g).now = s.now :=
  (congrArg State.now (State.clearEcho_frame s g) :)
@[simp] theorem State.clearEcho_draws (g : Nat) : (s.clearEcho g).draws = s.draws :=
  (congrArg State.draws (State.clearEcho_frame s g) :)
@[simp] theorem State.clearEcho_up (g : Nat) : (s.clearEcho g).up = s.up :=
  (congrArg State.up (State.clearEcho_frame s g) :)
@[simp] theorem State.clearEcho_down (g : Nat) : (s.clearEcho g).down = s.down :=
  (congrArg State.down (State.clearEcho_frame s g) :)
@[simp] theorem State.clearEcho_waiting (g : Nat) : (s.clearEcho g).waiting = s.waiting :=
  (congrArg State.waiting (State.clearEcho_frame s g) :)
@[simp] theorem State.clearEcho_bankPresent (g : Nat) : (s.clearEcho g).bankPresent = s.bankPresent :=
  (congrArg State.bankPresent (State.clearEcho_frame s g) :)
@[simp] theorem State.clearEcho_active (g : Nat) : (s.clearEcho g).active = s.active :=
  (congrArg State.active (State.clearEcho_frame s g) :)
@[simp] theorem State.clearEcho_verifiedCrc (g : Nat) : (s.clearEcho g).verifiedCrc = s.verifiedCrc :=
  (congrArg State.verifiedCrc (State.clearEcho_frame s g) :)
@[simp] theorem State.clearEcho_pendingBank (g : Nat) : (s.clearEcho g).pendingBank = s.pendingBank :=
  (congrArg State.pendingBank (State.clearEcho_frame s g) :)
@[simp] theorem State.clearEcho_pendingState (g : Nat) : (s.clearEcho g).pendingState = s.pendingState :=
  (congrArg State.pendingState (State.clearEcho_frame s g) :)
@[simp] theorem State.clearEcho_expectedCrc (g : Nat) : (s.clearEcho g).expectedCrc = s.expectedCrc :=
  (congrArg State.expectedCrc (State.clearEcho_frame s g) :)
@[simp] theorem State.clearEcho_pendingCrc (g : Nat) : (s.clearEcho g).pendingCrc = s.pendingCrc :=
  (congrArg State.pendingCrc (State.clearEcho_frame s g) :)
@[simp] theorem State.clearEcho_refresh (g : Nat) : (s.clearEcho g).refresh = s.refresh :=
  (congrArg State.refresh (State.clearEcho_frame s g) :)
@[simp] theorem State.clearEcho_forwards (g : Nat) : (s.clearEcho g).forwards = s.forwards :=
  (congrArg State.forwards (State.clearEcho_frame s g) :)
@[simp] theorem State.clearEcho_reportedNodes (g : Nat) : (s.clearEcho g).reportedNodes = s.reportedNodes :=
  (congrArg State.reportedNodes (State.clearEcho_frame s g) :)
@[simp] theorem State.clearEcho_gangs (g : Nat) : (s.clearEcho g).gangs = s.gangs :=
  (congrArg State.gangs (State.clearEcho_frame s g) :)
@[simp] theorem State.clearEcho_fences (g : Nat) : (s.clearEcho g).fences = s.fences :=
  (congrArg State.fences (State.clearEcho_frame s g) :)
@[simp] theorem State.clearEcho_windClass (g : Nat) : (s.clearEcho g).windClass = s.windClass :=
  (congrArg State.windClass (State.clearEcho_frame s g) :)
@[simp] theorem State.clearEcho_weatherStale (g : Nat) : (s.clearEcho g).weatherStale = s.weatherStale :=
  (congrArg State.weatherStale (State.clearEcho_frame s g) :)
@[simp] theorem State.clearEcho_weatherTimer (g : Nat) : (s.clearEcho g).weatherTimer = s.weatherTimer :=
  (congrArg State.weatherTimer (State.clearEcho_frame s g) :)
@[simp] theorem State.clearEcho_press (g : Nat) : (s.clearEcho g).press = s.press :=
  (congrArg State.press (State.clearEcho_frame s g) :)
@[simp] theorem State.clearEcho_pressTime (g : Nat) : (s.clearEcho g).pressTime = s.pressTime :=
  (congrArg State.pressTime (State.clearEcho_frame s g) :)
@[simp] theorem State.clearEcho_longTime (g : Nat) : (s.clearEcho g).longTime = s.longTime :=
  (congrArg State.longTime (State.clearEcho_frame s g) :)
@[simp] theorem State.clearEcho_operatorHold (g : Nat) : (s.clearEcho g).operatorHold = s.operatorHold :=
  (congrArg State.operatorHold (State.clearEcho_frame s g) :)
@[simp] theorem State.clearEcho_lines (g : Nat) : (s.clearEcho g).lines = s.lines :=
  (congrArg State.lines (State.clearEcho_frame s g) :)
@[simp] theorem State.clearEcho_deferred (g : Nat) : (s.clearEcho g).deferred = s.deferred :=
  (congrArg State.deferred (State.clearEcho_frame s g) :)
@[simp] theorem State.clearEcho_backoff (g : Nat) : (s.clearEcho g).backoff = s.backoff :=
  (congrArg State.backoff (State.clearEcho_frame s g) :)
@[simp] theorem State.clearEcho_highPtr (g : Nat) : (s.clearEcho g).highPtr = s.highPtr :=
  (congrArg State.highPtr (State.clearEcho_frame s g) :)
@[simp] theorem State.clearEcho_lowPtr (g : Nat) : (s.clearEcho g).lowPtr = s.lowPtr :=
  (congrArg State.lowPtr (State.clearEcho_frame s g) :)
@[simp] theorem State.clearEcho_openGrant (g : Nat) : (s.clearEcho g).openGrant = s.openGrant :=
  (congrArg State.openGrant (State.clearEcho_frame s g) :)
@[simp] theorem State.clearEcho_grantRecs (g : Nat) : (s.clearEcho g).grantRecs = s.grantRecs :=
  (congrArg State.grantRecs (State.clearEcho_frame s g) :)
@[simp] theorem State.clearEcho_watchdog (g : Nat) : (s.clearEcho g).watchdog = s.watchdog :=
  (congrArg State.watchdog (State.clearEcho_frame s g) :)
@[simp] theorem State.clearEcho_watchdogTimer (g : Nat) : (s.clearEcho g).watchdogTimer = s.watchdogTimer :=
  (congrArg State.watchdogTimer (State.clearEcho_frame s g) :)
@[simp] theorem State.clearEcho_olderArrival (g : Nat) : (s.clearEcho g).olderArrival = s.olderArrival :=
  (congrArg State.olderArrival (State.clearEcho_frame s g) :)
@[simp] theorem State.clearEcho_newerArrival (g : Nat) : (s.clearEcho g).newerArrival = s.newerArrival :=
  (congrArg State.newerArrival (State.clearEcho_frame s g) :)
@[simp] theorem State.clearEcho_substituteTimer (g : Nat) : (s.clearEcho g).substituteTimer = s.substituteTimer :=
  (congrArg State.substituteTimer (State.clearEcho_frame s g) :)
@[simp] theorem State.clearEcho_lastCycle (g : Nat) : (s.clearEcho g).lastCycle = s.lastCycle :=
  (congrArg State.lastCycle (State.clearEcho_frame s g) :)
@[simp] theorem State.clearEcho_flags (g : Nat) : (s.clearEcho g).flags = s.flags :=
  (congrArg State.flags (State.clearEcho_frame s g) :)
@[simp] theorem State.clearEcho_events (g : Nat) : (s.clearEcho g).events = s.events :=
  (congrArg State.events (State.clearEcho_frame s g) :)
@[simp] theorem State.clearEcho_due (g : Nat) : (s.clearEcho g).due = s.due :=
  (congrArg State.due (State.clearEcho_frame s g) :)
@[simp] theorem State.clearEcho_frameClass (g : Nat) : (s.clearEcho g).frameClass = s.frameClass :=
  (congrArg State.frameClass (State.clearEcho_frame s g) :)
@[simp] theorem State.clearEcho_inReset (g : Nat) : (s.clearEcho g).inReset = s.inReset :=
  (congrArg State.inReset (State.clearEcho_frame s g) :)
@[simp] theorem State.clearEcho_holdnLow (g : Nat) : (s.clearEcho g).holdnLow = s.holdnLow :=
  (congrArg State.holdnLow (State.clearEcho_frame s g) :)
@[simp] theorem State.clearEcho_sampled (g : Nat) : (s.clearEcho g).sampled = s.sampled :=
  (congrArg State.sampled (State.clearEcho_frame s g) :)
@[simp] theorem State.clearEcho_faultnLow (g : Nat) : (s.clearEcho g).faultnLow = s.faultnLow :=
  (congrArg State.faultnLow (State.clearEcho_frame s g) :)

/-- Accepting CLEAR TRIP touches the axis and gang records (R26). -/
theorem State.acceptClearTrip_frame (g : Nat) :
    s.acceptClearTrip g = { s with
    axes := (s.acceptClearTrip g).axes, gangs := (s.acceptClearTrip g).gangs } := by
  unfold State.acceptClearTrip
  (try dsimp only)
  repeat' split
  all_goals apply State.ext_fields <;> simp

@[simp] theorem State.acceptClearTrip_pending (g : Nat) : (s.acceptClearTrip g).pending = s.pending :=
  (congrArg State.pending (State.acceptClearTrip_frame s g) :)
@[simp] theorem State.acceptClearTrip_now (g : Nat) : (s.acceptClearTrip g).now = s.now :=
  (congrArg State.now (State.acceptClearTrip_frame s g) :)
@[simp] theorem State.acceptClearTrip_draws (g : Nat) : (s.acceptClearTrip g).draws = s.draws :=
  (congrArg State.draws (State.acceptClearTrip_frame s g) :)
@[simp] theorem State.acceptClearTrip_up (g : Nat) : (s.acceptClearTrip g).up = s.up :=
  (congrArg State.up (State.acceptClearTrip_frame s g) :)
@[simp] theorem State.acceptClearTrip_down (g : Nat) : (s.acceptClearTrip g).down = s.down :=
  (congrArg State.down (State.acceptClearTrip_frame s g) :)
@[simp] theorem State.acceptClearTrip_waiting (g : Nat) : (s.acceptClearTrip g).waiting = s.waiting :=
  (congrArg State.waiting (State.acceptClearTrip_frame s g) :)
@[simp] theorem State.acceptClearTrip_bankPresent (g : Nat) : (s.acceptClearTrip g).bankPresent = s.bankPresent :=
  (congrArg State.bankPresent (State.acceptClearTrip_frame s g) :)
@[simp] theorem State.acceptClearTrip_active (g : Nat) : (s.acceptClearTrip g).active = s.active :=
  (congrArg State.active (State.acceptClearTrip_frame s g) :)
@[simp] theorem State.acceptClearTrip_verifiedCrc (g : Nat) : (s.acceptClearTrip g).verifiedCrc = s.verifiedCrc :=
  (congrArg State.verifiedCrc (State.acceptClearTrip_frame s g) :)
@[simp] theorem State.acceptClearTrip_pendingBank (g : Nat) : (s.acceptClearTrip g).pendingBank = s.pendingBank :=
  (congrArg State.pendingBank (State.acceptClearTrip_frame s g) :)
@[simp] theorem State.acceptClearTrip_pendingState (g : Nat) : (s.acceptClearTrip g).pendingState = s.pendingState :=
  (congrArg State.pendingState (State.acceptClearTrip_frame s g) :)
@[simp] theorem State.acceptClearTrip_expectedCrc (g : Nat) : (s.acceptClearTrip g).expectedCrc = s.expectedCrc :=
  (congrArg State.expectedCrc (State.acceptClearTrip_frame s g) :)
@[simp] theorem State.acceptClearTrip_pendingCrc (g : Nat) : (s.acceptClearTrip g).pendingCrc = s.pendingCrc :=
  (congrArg State.pendingCrc (State.acceptClearTrip_frame s g) :)
@[simp] theorem State.acceptClearTrip_refresh (g : Nat) : (s.acceptClearTrip g).refresh = s.refresh :=
  (congrArg State.refresh (State.acceptClearTrip_frame s g) :)
@[simp] theorem State.acceptClearTrip_forwards (g : Nat) : (s.acceptClearTrip g).forwards = s.forwards :=
  (congrArg State.forwards (State.acceptClearTrip_frame s g) :)
@[simp] theorem State.acceptClearTrip_reportedNodes (g : Nat) : (s.acceptClearTrip g).reportedNodes = s.reportedNodes :=
  (congrArg State.reportedNodes (State.acceptClearTrip_frame s g) :)
@[simp] theorem State.acceptClearTrip_fences (g : Nat) : (s.acceptClearTrip g).fences = s.fences :=
  (congrArg State.fences (State.acceptClearTrip_frame s g) :)
@[simp] theorem State.acceptClearTrip_windClass (g : Nat) : (s.acceptClearTrip g).windClass = s.windClass :=
  (congrArg State.windClass (State.acceptClearTrip_frame s g) :)
@[simp] theorem State.acceptClearTrip_weatherStale (g : Nat) : (s.acceptClearTrip g).weatherStale = s.weatherStale :=
  (congrArg State.weatherStale (State.acceptClearTrip_frame s g) :)
@[simp] theorem State.acceptClearTrip_weatherTimer (g : Nat) : (s.acceptClearTrip g).weatherTimer = s.weatherTimer :=
  (congrArg State.weatherTimer (State.acceptClearTrip_frame s g) :)
@[simp] theorem State.acceptClearTrip_press (g : Nat) : (s.acceptClearTrip g).press = s.press :=
  (congrArg State.press (State.acceptClearTrip_frame s g) :)
@[simp] theorem State.acceptClearTrip_pressTime (g : Nat) : (s.acceptClearTrip g).pressTime = s.pressTime :=
  (congrArg State.pressTime (State.acceptClearTrip_frame s g) :)
@[simp] theorem State.acceptClearTrip_longTime (g : Nat) : (s.acceptClearTrip g).longTime = s.longTime :=
  (congrArg State.longTime (State.acceptClearTrip_frame s g) :)
@[simp] theorem State.acceptClearTrip_operatorHold (g : Nat) : (s.acceptClearTrip g).operatorHold = s.operatorHold :=
  (congrArg State.operatorHold (State.acceptClearTrip_frame s g) :)
@[simp] theorem State.acceptClearTrip_lines (g : Nat) : (s.acceptClearTrip g).lines = s.lines :=
  (congrArg State.lines (State.acceptClearTrip_frame s g) :)
@[simp] theorem State.acceptClearTrip_deferred (g : Nat) : (s.acceptClearTrip g).deferred = s.deferred :=
  (congrArg State.deferred (State.acceptClearTrip_frame s g) :)
@[simp] theorem State.acceptClearTrip_backoff (g : Nat) : (s.acceptClearTrip g).backoff = s.backoff :=
  (congrArg State.backoff (State.acceptClearTrip_frame s g) :)
@[simp] theorem State.acceptClearTrip_highPtr (g : Nat) : (s.acceptClearTrip g).highPtr = s.highPtr :=
  (congrArg State.highPtr (State.acceptClearTrip_frame s g) :)
@[simp] theorem State.acceptClearTrip_lowPtr (g : Nat) : (s.acceptClearTrip g).lowPtr = s.lowPtr :=
  (congrArg State.lowPtr (State.acceptClearTrip_frame s g) :)
@[simp] theorem State.acceptClearTrip_openGrant (g : Nat) : (s.acceptClearTrip g).openGrant = s.openGrant :=
  (congrArg State.openGrant (State.acceptClearTrip_frame s g) :)
@[simp] theorem State.acceptClearTrip_grantRecs (g : Nat) : (s.acceptClearTrip g).grantRecs = s.grantRecs :=
  (congrArg State.grantRecs (State.acceptClearTrip_frame s g) :)
@[simp] theorem State.acceptClearTrip_watchdog (g : Nat) : (s.acceptClearTrip g).watchdog = s.watchdog :=
  (congrArg State.watchdog (State.acceptClearTrip_frame s g) :)
@[simp] theorem State.acceptClearTrip_watchdogTimer (g : Nat) : (s.acceptClearTrip g).watchdogTimer = s.watchdogTimer :=
  (congrArg State.watchdogTimer (State.acceptClearTrip_frame s g) :)
@[simp] theorem State.acceptClearTrip_olderArrival (g : Nat) : (s.acceptClearTrip g).olderArrival = s.olderArrival :=
  (congrArg State.olderArrival (State.acceptClearTrip_frame s g) :)
@[simp] theorem State.acceptClearTrip_newerArrival (g : Nat) : (s.acceptClearTrip g).newerArrival = s.newerArrival :=
  (congrArg State.newerArrival (State.acceptClearTrip_frame s g) :)
@[simp] theorem State.acceptClearTrip_substituteTimer (g : Nat) : (s.acceptClearTrip g).substituteTimer = s.substituteTimer :=
  (congrArg State.substituteTimer (State.acceptClearTrip_frame s g) :)
@[simp] theorem State.acceptClearTrip_lastCycle (g : Nat) : (s.acceptClearTrip g).lastCycle = s.lastCycle :=
  (congrArg State.lastCycle (State.acceptClearTrip_frame s g) :)
@[simp] theorem State.acceptClearTrip_flags (g : Nat) : (s.acceptClearTrip g).flags = s.flags :=
  (congrArg State.flags (State.acceptClearTrip_frame s g) :)
@[simp] theorem State.acceptClearTrip_events (g : Nat) : (s.acceptClearTrip g).events = s.events :=
  (congrArg State.events (State.acceptClearTrip_frame s g) :)
@[simp] theorem State.acceptClearTrip_due (g : Nat) : (s.acceptClearTrip g).due = s.due :=
  (congrArg State.due (State.acceptClearTrip_frame s g) :)
@[simp] theorem State.acceptClearTrip_frameClass (g : Nat) : (s.acceptClearTrip g).frameClass = s.frameClass :=
  (congrArg State.frameClass (State.acceptClearTrip_frame s g) :)
@[simp] theorem State.acceptClearTrip_inReset (g : Nat) : (s.acceptClearTrip g).inReset = s.inReset :=
  (congrArg State.inReset (State.acceptClearTrip_frame s g) :)
@[simp] theorem State.acceptClearTrip_holdnLow (g : Nat) : (s.acceptClearTrip g).holdnLow = s.holdnLow :=
  (congrArg State.holdnLow (State.acceptClearTrip_frame s g) :)
@[simp] theorem State.acceptClearTrip_sampled (g : Nat) : (s.acceptClearTrip g).sampled = s.sampled :=
  (congrArg State.sampled (State.acceptClearTrip_frame s g) :)
@[simp] theorem State.acceptClearTrip_faultnLow (g : Nat) : (s.acceptClearTrip g).faultnLow = s.faultnLow :=
  (congrArg State.faultnLow (State.acceptClearTrip_frame s g) :)

/-- Clearing WATCHDOG touches the gangs and the watchdog (R175). -/
theorem watchdogCleared_frame :
    watchdogCleared s = { s with
    gangs := (watchdogCleared s).gangs, watchdog := (watchdogCleared s).watchdog,
    watchdogTimer := (watchdogCleared s).watchdogTimer } := by
  unfold watchdogCleared
  (try dsimp only)
  repeat' split
  all_goals apply State.ext_fields <;> simp

@[simp] theorem watchdogCleared_pending : (watchdogCleared s).pending = s.pending :=
  (congrArg State.pending (watchdogCleared_frame s) :)
@[simp] theorem watchdogCleared_now : (watchdogCleared s).now = s.now :=
  (congrArg State.now (watchdogCleared_frame s) :)
@[simp] theorem watchdogCleared_draws : (watchdogCleared s).draws = s.draws :=
  (congrArg State.draws (watchdogCleared_frame s) :)
@[simp] theorem watchdogCleared_up : (watchdogCleared s).up = s.up :=
  (congrArg State.up (watchdogCleared_frame s) :)
@[simp] theorem watchdogCleared_down : (watchdogCleared s).down = s.down :=
  (congrArg State.down (watchdogCleared_frame s) :)
@[simp] theorem watchdogCleared_waiting : (watchdogCleared s).waiting = s.waiting :=
  (congrArg State.waiting (watchdogCleared_frame s) :)
@[simp] theorem watchdogCleared_bankPresent : (watchdogCleared s).bankPresent = s.bankPresent :=
  (congrArg State.bankPresent (watchdogCleared_frame s) :)
@[simp] theorem watchdogCleared_active : (watchdogCleared s).active = s.active :=
  (congrArg State.active (watchdogCleared_frame s) :)
@[simp] theorem watchdogCleared_verifiedCrc : (watchdogCleared s).verifiedCrc = s.verifiedCrc :=
  (congrArg State.verifiedCrc (watchdogCleared_frame s) :)
@[simp] theorem watchdogCleared_pendingBank : (watchdogCleared s).pendingBank = s.pendingBank :=
  (congrArg State.pendingBank (watchdogCleared_frame s) :)
@[simp] theorem watchdogCleared_pendingState : (watchdogCleared s).pendingState = s.pendingState :=
  (congrArg State.pendingState (watchdogCleared_frame s) :)
@[simp] theorem watchdogCleared_expectedCrc : (watchdogCleared s).expectedCrc = s.expectedCrc :=
  (congrArg State.expectedCrc (watchdogCleared_frame s) :)
@[simp] theorem watchdogCleared_pendingCrc : (watchdogCleared s).pendingCrc = s.pendingCrc :=
  (congrArg State.pendingCrc (watchdogCleared_frame s) :)
@[simp] theorem watchdogCleared_refresh : (watchdogCleared s).refresh = s.refresh :=
  (congrArg State.refresh (watchdogCleared_frame s) :)
@[simp] theorem watchdogCleared_axes : (watchdogCleared s).axes = s.axes :=
  (congrArg State.axes (watchdogCleared_frame s) :)
@[simp] theorem watchdogCleared_forwards : (watchdogCleared s).forwards = s.forwards :=
  (congrArg State.forwards (watchdogCleared_frame s) :)
@[simp] theorem watchdogCleared_reportedNodes : (watchdogCleared s).reportedNodes = s.reportedNodes :=
  (congrArg State.reportedNodes (watchdogCleared_frame s) :)
@[simp] theorem watchdogCleared_fences : (watchdogCleared s).fences = s.fences :=
  (congrArg State.fences (watchdogCleared_frame s) :)
@[simp] theorem watchdogCleared_windClass : (watchdogCleared s).windClass = s.windClass :=
  (congrArg State.windClass (watchdogCleared_frame s) :)
@[simp] theorem watchdogCleared_weatherStale : (watchdogCleared s).weatherStale = s.weatherStale :=
  (congrArg State.weatherStale (watchdogCleared_frame s) :)
@[simp] theorem watchdogCleared_weatherTimer : (watchdogCleared s).weatherTimer = s.weatherTimer :=
  (congrArg State.weatherTimer (watchdogCleared_frame s) :)
@[simp] theorem watchdogCleared_press : (watchdogCleared s).press = s.press :=
  (congrArg State.press (watchdogCleared_frame s) :)
@[simp] theorem watchdogCleared_pressTime : (watchdogCleared s).pressTime = s.pressTime :=
  (congrArg State.pressTime (watchdogCleared_frame s) :)
@[simp] theorem watchdogCleared_longTime : (watchdogCleared s).longTime = s.longTime :=
  (congrArg State.longTime (watchdogCleared_frame s) :)
@[simp] theorem watchdogCleared_operatorHold : (watchdogCleared s).operatorHold = s.operatorHold :=
  (congrArg State.operatorHold (watchdogCleared_frame s) :)
@[simp] theorem watchdogCleared_lines : (watchdogCleared s).lines = s.lines :=
  (congrArg State.lines (watchdogCleared_frame s) :)
@[simp] theorem watchdogCleared_deferred : (watchdogCleared s).deferred = s.deferred :=
  (congrArg State.deferred (watchdogCleared_frame s) :)
@[simp] theorem watchdogCleared_backoff : (watchdogCleared s).backoff = s.backoff :=
  (congrArg State.backoff (watchdogCleared_frame s) :)
@[simp] theorem watchdogCleared_highPtr : (watchdogCleared s).highPtr = s.highPtr :=
  (congrArg State.highPtr (watchdogCleared_frame s) :)
@[simp] theorem watchdogCleared_lowPtr : (watchdogCleared s).lowPtr = s.lowPtr :=
  (congrArg State.lowPtr (watchdogCleared_frame s) :)
@[simp] theorem watchdogCleared_openGrant : (watchdogCleared s).openGrant = s.openGrant :=
  (congrArg State.openGrant (watchdogCleared_frame s) :)
@[simp] theorem watchdogCleared_grantRecs : (watchdogCleared s).grantRecs = s.grantRecs :=
  (congrArg State.grantRecs (watchdogCleared_frame s) :)
@[simp] theorem watchdogCleared_olderArrival : (watchdogCleared s).olderArrival = s.olderArrival :=
  (congrArg State.olderArrival (watchdogCleared_frame s) :)
@[simp] theorem watchdogCleared_newerArrival : (watchdogCleared s).newerArrival = s.newerArrival :=
  (congrArg State.newerArrival (watchdogCleared_frame s) :)
@[simp] theorem watchdogCleared_substituteTimer : (watchdogCleared s).substituteTimer = s.substituteTimer :=
  (congrArg State.substituteTimer (watchdogCleared_frame s) :)
@[simp] theorem watchdogCleared_lastCycle : (watchdogCleared s).lastCycle = s.lastCycle :=
  (congrArg State.lastCycle (watchdogCleared_frame s) :)
@[simp] theorem watchdogCleared_flags : (watchdogCleared s).flags = s.flags :=
  (congrArg State.flags (watchdogCleared_frame s) :)
@[simp] theorem watchdogCleared_events : (watchdogCleared s).events = s.events :=
  (congrArg State.events (watchdogCleared_frame s) :)
@[simp] theorem watchdogCleared_due : (watchdogCleared s).due = s.due :=
  (congrArg State.due (watchdogCleared_frame s) :)
@[simp] theorem watchdogCleared_frameClass : (watchdogCleared s).frameClass = s.frameClass :=
  (congrArg State.frameClass (watchdogCleared_frame s) :)
@[simp] theorem watchdogCleared_inReset : (watchdogCleared s).inReset = s.inReset :=
  (congrArg State.inReset (watchdogCleared_frame s) :)
@[simp] theorem watchdogCleared_holdnLow : (watchdogCleared s).holdnLow = s.holdnLow :=
  (congrArg State.holdnLow (watchdogCleared_frame s) :)
@[simp] theorem watchdogCleared_sampled : (watchdogCleared s).sampled = s.sampled :=
  (congrArg State.sampled (watchdogCleared_frame s) :)
@[simp] theorem watchdogCleared_faultnLow : (watchdogCleared s).faultnLow = s.faultnLow :=
  (congrArg State.faultnLow (watchdogCleared_frame s) :)

/-- Clearing flags touches besides the gangs, the watchdog and the reported nodes (R178). -/
theorem clearFlagSet_frame (gone : BitVec 24) :
    clearFlagSet s gone = { s with
    flags := (clearFlagSet s gone).flags, gangs := (clearFlagSet s gone).gangs,
    watchdog := (clearFlagSet s gone).watchdog, watchdogTimer := (clearFlagSet s gone).watchdogTimer,
    reportedNodes := (clearFlagSet s gone).reportedNodes } := by
  unfold clearFlagSet
  (try dsimp only)
  repeat' split
  all_goals apply State.ext_fields <;> simp

@[simp] theorem clearFlagSet_pending (gone : BitVec 24) : (clearFlagSet s gone).pending = s.pending :=
  (congrArg State.pending (clearFlagSet_frame s gone) :)
@[simp] theorem clearFlagSet_now (gone : BitVec 24) : (clearFlagSet s gone).now = s.now :=
  (congrArg State.now (clearFlagSet_frame s gone) :)
@[simp] theorem clearFlagSet_draws (gone : BitVec 24) : (clearFlagSet s gone).draws = s.draws :=
  (congrArg State.draws (clearFlagSet_frame s gone) :)
@[simp] theorem clearFlagSet_up (gone : BitVec 24) : (clearFlagSet s gone).up = s.up :=
  (congrArg State.up (clearFlagSet_frame s gone) :)
@[simp] theorem clearFlagSet_down (gone : BitVec 24) : (clearFlagSet s gone).down = s.down :=
  (congrArg State.down (clearFlagSet_frame s gone) :)
@[simp] theorem clearFlagSet_waiting (gone : BitVec 24) : (clearFlagSet s gone).waiting = s.waiting :=
  (congrArg State.waiting (clearFlagSet_frame s gone) :)
@[simp] theorem clearFlagSet_bankPresent (gone : BitVec 24) : (clearFlagSet s gone).bankPresent = s.bankPresent :=
  (congrArg State.bankPresent (clearFlagSet_frame s gone) :)
@[simp] theorem clearFlagSet_active (gone : BitVec 24) : (clearFlagSet s gone).active = s.active :=
  (congrArg State.active (clearFlagSet_frame s gone) :)
@[simp] theorem clearFlagSet_verifiedCrc (gone : BitVec 24) : (clearFlagSet s gone).verifiedCrc = s.verifiedCrc :=
  (congrArg State.verifiedCrc (clearFlagSet_frame s gone) :)
@[simp] theorem clearFlagSet_pendingBank (gone : BitVec 24) : (clearFlagSet s gone).pendingBank = s.pendingBank :=
  (congrArg State.pendingBank (clearFlagSet_frame s gone) :)
@[simp] theorem clearFlagSet_pendingState (gone : BitVec 24) : (clearFlagSet s gone).pendingState = s.pendingState :=
  (congrArg State.pendingState (clearFlagSet_frame s gone) :)
@[simp] theorem clearFlagSet_expectedCrc (gone : BitVec 24) : (clearFlagSet s gone).expectedCrc = s.expectedCrc :=
  (congrArg State.expectedCrc (clearFlagSet_frame s gone) :)
@[simp] theorem clearFlagSet_pendingCrc (gone : BitVec 24) : (clearFlagSet s gone).pendingCrc = s.pendingCrc :=
  (congrArg State.pendingCrc (clearFlagSet_frame s gone) :)
@[simp] theorem clearFlagSet_refresh (gone : BitVec 24) : (clearFlagSet s gone).refresh = s.refresh :=
  (congrArg State.refresh (clearFlagSet_frame s gone) :)
@[simp] theorem clearFlagSet_axes (gone : BitVec 24) : (clearFlagSet s gone).axes = s.axes :=
  (congrArg State.axes (clearFlagSet_frame s gone) :)
@[simp] theorem clearFlagSet_forwards (gone : BitVec 24) : (clearFlagSet s gone).forwards = s.forwards :=
  (congrArg State.forwards (clearFlagSet_frame s gone) :)
@[simp] theorem clearFlagSet_fences (gone : BitVec 24) : (clearFlagSet s gone).fences = s.fences :=
  (congrArg State.fences (clearFlagSet_frame s gone) :)
@[simp] theorem clearFlagSet_windClass (gone : BitVec 24) : (clearFlagSet s gone).windClass = s.windClass :=
  (congrArg State.windClass (clearFlagSet_frame s gone) :)
@[simp] theorem clearFlagSet_weatherStale (gone : BitVec 24) : (clearFlagSet s gone).weatherStale = s.weatherStale :=
  (congrArg State.weatherStale (clearFlagSet_frame s gone) :)
@[simp] theorem clearFlagSet_weatherTimer (gone : BitVec 24) : (clearFlagSet s gone).weatherTimer = s.weatherTimer :=
  (congrArg State.weatherTimer (clearFlagSet_frame s gone) :)
@[simp] theorem clearFlagSet_press (gone : BitVec 24) : (clearFlagSet s gone).press = s.press :=
  (congrArg State.press (clearFlagSet_frame s gone) :)
@[simp] theorem clearFlagSet_pressTime (gone : BitVec 24) : (clearFlagSet s gone).pressTime = s.pressTime :=
  (congrArg State.pressTime (clearFlagSet_frame s gone) :)
@[simp] theorem clearFlagSet_longTime (gone : BitVec 24) : (clearFlagSet s gone).longTime = s.longTime :=
  (congrArg State.longTime (clearFlagSet_frame s gone) :)
@[simp] theorem clearFlagSet_operatorHold (gone : BitVec 24) : (clearFlagSet s gone).operatorHold = s.operatorHold :=
  (congrArg State.operatorHold (clearFlagSet_frame s gone) :)
@[simp] theorem clearFlagSet_lines (gone : BitVec 24) : (clearFlagSet s gone).lines = s.lines :=
  (congrArg State.lines (clearFlagSet_frame s gone) :)
@[simp] theorem clearFlagSet_deferred (gone : BitVec 24) : (clearFlagSet s gone).deferred = s.deferred :=
  (congrArg State.deferred (clearFlagSet_frame s gone) :)
@[simp] theorem clearFlagSet_backoff (gone : BitVec 24) : (clearFlagSet s gone).backoff = s.backoff :=
  (congrArg State.backoff (clearFlagSet_frame s gone) :)
@[simp] theorem clearFlagSet_highPtr (gone : BitVec 24) : (clearFlagSet s gone).highPtr = s.highPtr :=
  (congrArg State.highPtr (clearFlagSet_frame s gone) :)
@[simp] theorem clearFlagSet_lowPtr (gone : BitVec 24) : (clearFlagSet s gone).lowPtr = s.lowPtr :=
  (congrArg State.lowPtr (clearFlagSet_frame s gone) :)
@[simp] theorem clearFlagSet_openGrant (gone : BitVec 24) : (clearFlagSet s gone).openGrant = s.openGrant :=
  (congrArg State.openGrant (clearFlagSet_frame s gone) :)
@[simp] theorem clearFlagSet_grantRecs (gone : BitVec 24) : (clearFlagSet s gone).grantRecs = s.grantRecs :=
  (congrArg State.grantRecs (clearFlagSet_frame s gone) :)
@[simp] theorem clearFlagSet_olderArrival (gone : BitVec 24) : (clearFlagSet s gone).olderArrival = s.olderArrival :=
  (congrArg State.olderArrival (clearFlagSet_frame s gone) :)
@[simp] theorem clearFlagSet_newerArrival (gone : BitVec 24) : (clearFlagSet s gone).newerArrival = s.newerArrival :=
  (congrArg State.newerArrival (clearFlagSet_frame s gone) :)
@[simp] theorem clearFlagSet_substituteTimer (gone : BitVec 24) : (clearFlagSet s gone).substituteTimer = s.substituteTimer :=
  (congrArg State.substituteTimer (clearFlagSet_frame s gone) :)
@[simp] theorem clearFlagSet_lastCycle (gone : BitVec 24) : (clearFlagSet s gone).lastCycle = s.lastCycle :=
  (congrArg State.lastCycle (clearFlagSet_frame s gone) :)
@[simp] theorem clearFlagSet_events (gone : BitVec 24) : (clearFlagSet s gone).events = s.events :=
  (congrArg State.events (clearFlagSet_frame s gone) :)
@[simp] theorem clearFlagSet_due (gone : BitVec 24) : (clearFlagSet s gone).due = s.due :=
  (congrArg State.due (clearFlagSet_frame s gone) :)
@[simp] theorem clearFlagSet_frameClass (gone : BitVec 24) : (clearFlagSet s gone).frameClass = s.frameClass :=
  (congrArg State.frameClass (clearFlagSet_frame s gone) :)
@[simp] theorem clearFlagSet_inReset (gone : BitVec 24) : (clearFlagSet s gone).inReset = s.inReset :=
  (congrArg State.inReset (clearFlagSet_frame s gone) :)
@[simp] theorem clearFlagSet_holdnLow (gone : BitVec 24) : (clearFlagSet s gone).holdnLow = s.holdnLow :=
  (congrArg State.holdnLow (clearFlagSet_frame s gone) :)
@[simp] theorem clearFlagSet_sampled (gone : BitVec 24) : (clearFlagSet s gone).sampled = s.sampled :=
  (congrArg State.sampled (clearFlagSet_frame s gone) :)
@[simp] theorem clearFlagSet_faultnLow (gone : BitVec 24) : (clearFlagSet s gone).faultnLow = s.faultnLow :=
  (congrArg State.faultnLow (clearFlagSet_frame s gone) :)

/-- Causes after a warm restart touch the gang records (R28). -/
theorem siteCauses_frame (g : Nat) :
    siteCauses s g = { s with
    gangs := (siteCauses s g).gangs } := by
  unfold siteCauses
  split
  all_goals apply State.ext_fields <;> simp

@[simp] theorem siteCauses_pending (g : Nat) : (siteCauses s g).pending = s.pending :=
  (congrArg State.pending (siteCauses_frame s g) :)
@[simp] theorem siteCauses_now (g : Nat) : (siteCauses s g).now = s.now :=
  (congrArg State.now (siteCauses_frame s g) :)
@[simp] theorem siteCauses_draws (g : Nat) : (siteCauses s g).draws = s.draws :=
  (congrArg State.draws (siteCauses_frame s g) :)
@[simp] theorem siteCauses_up (g : Nat) : (siteCauses s g).up = s.up :=
  (congrArg State.up (siteCauses_frame s g) :)
@[simp] theorem siteCauses_down (g : Nat) : (siteCauses s g).down = s.down :=
  (congrArg State.down (siteCauses_frame s g) :)
@[simp] theorem siteCauses_waiting (g : Nat) : (siteCauses s g).waiting = s.waiting :=
  (congrArg State.waiting (siteCauses_frame s g) :)
@[simp] theorem siteCauses_bankPresent (g : Nat) : (siteCauses s g).bankPresent = s.bankPresent :=
  (congrArg State.bankPresent (siteCauses_frame s g) :)
@[simp] theorem siteCauses_active (g : Nat) : (siteCauses s g).active = s.active :=
  (congrArg State.active (siteCauses_frame s g) :)
@[simp] theorem siteCauses_verifiedCrc (g : Nat) : (siteCauses s g).verifiedCrc = s.verifiedCrc :=
  (congrArg State.verifiedCrc (siteCauses_frame s g) :)
@[simp] theorem siteCauses_pendingBank (g : Nat) : (siteCauses s g).pendingBank = s.pendingBank :=
  (congrArg State.pendingBank (siteCauses_frame s g) :)
@[simp] theorem siteCauses_pendingState (g : Nat) : (siteCauses s g).pendingState = s.pendingState :=
  (congrArg State.pendingState (siteCauses_frame s g) :)
@[simp] theorem siteCauses_expectedCrc (g : Nat) : (siteCauses s g).expectedCrc = s.expectedCrc :=
  (congrArg State.expectedCrc (siteCauses_frame s g) :)
@[simp] theorem siteCauses_pendingCrc (g : Nat) : (siteCauses s g).pendingCrc = s.pendingCrc :=
  (congrArg State.pendingCrc (siteCauses_frame s g) :)
@[simp] theorem siteCauses_refresh (g : Nat) : (siteCauses s g).refresh = s.refresh :=
  (congrArg State.refresh (siteCauses_frame s g) :)
@[simp] theorem siteCauses_axes (g : Nat) : (siteCauses s g).axes = s.axes :=
  (congrArg State.axes (siteCauses_frame s g) :)
@[simp] theorem siteCauses_forwards (g : Nat) : (siteCauses s g).forwards = s.forwards :=
  (congrArg State.forwards (siteCauses_frame s g) :)
@[simp] theorem siteCauses_reportedNodes (g : Nat) : (siteCauses s g).reportedNodes = s.reportedNodes :=
  (congrArg State.reportedNodes (siteCauses_frame s g) :)
@[simp] theorem siteCauses_fences (g : Nat) : (siteCauses s g).fences = s.fences :=
  (congrArg State.fences (siteCauses_frame s g) :)
@[simp] theorem siteCauses_windClass (g : Nat) : (siteCauses s g).windClass = s.windClass :=
  (congrArg State.windClass (siteCauses_frame s g) :)
@[simp] theorem siteCauses_weatherStale (g : Nat) : (siteCauses s g).weatherStale = s.weatherStale :=
  (congrArg State.weatherStale (siteCauses_frame s g) :)
@[simp] theorem siteCauses_weatherTimer (g : Nat) : (siteCauses s g).weatherTimer = s.weatherTimer :=
  (congrArg State.weatherTimer (siteCauses_frame s g) :)
@[simp] theorem siteCauses_press (g : Nat) : (siteCauses s g).press = s.press :=
  (congrArg State.press (siteCauses_frame s g) :)
@[simp] theorem siteCauses_pressTime (g : Nat) : (siteCauses s g).pressTime = s.pressTime :=
  (congrArg State.pressTime (siteCauses_frame s g) :)
@[simp] theorem siteCauses_longTime (g : Nat) : (siteCauses s g).longTime = s.longTime :=
  (congrArg State.longTime (siteCauses_frame s g) :)
@[simp] theorem siteCauses_operatorHold (g : Nat) : (siteCauses s g).operatorHold = s.operatorHold :=
  (congrArg State.operatorHold (siteCauses_frame s g) :)
@[simp] theorem siteCauses_lines (g : Nat) : (siteCauses s g).lines = s.lines :=
  (congrArg State.lines (siteCauses_frame s g) :)
@[simp] theorem siteCauses_deferred (g : Nat) : (siteCauses s g).deferred = s.deferred :=
  (congrArg State.deferred (siteCauses_frame s g) :)
@[simp] theorem siteCauses_backoff (g : Nat) : (siteCauses s g).backoff = s.backoff :=
  (congrArg State.backoff (siteCauses_frame s g) :)
@[simp] theorem siteCauses_highPtr (g : Nat) : (siteCauses s g).highPtr = s.highPtr :=
  (congrArg State.highPtr (siteCauses_frame s g) :)
@[simp] theorem siteCauses_lowPtr (g : Nat) : (siteCauses s g).lowPtr = s.lowPtr :=
  (congrArg State.lowPtr (siteCauses_frame s g) :)
@[simp] theorem siteCauses_openGrant (g : Nat) : (siteCauses s g).openGrant = s.openGrant :=
  (congrArg State.openGrant (siteCauses_frame s g) :)
@[simp] theorem siteCauses_grantRecs (g : Nat) : (siteCauses s g).grantRecs = s.grantRecs :=
  (congrArg State.grantRecs (siteCauses_frame s g) :)
@[simp] theorem siteCauses_watchdog (g : Nat) : (siteCauses s g).watchdog = s.watchdog :=
  (congrArg State.watchdog (siteCauses_frame s g) :)
@[simp] theorem siteCauses_watchdogTimer (g : Nat) : (siteCauses s g).watchdogTimer = s.watchdogTimer :=
  (congrArg State.watchdogTimer (siteCauses_frame s g) :)
@[simp] theorem siteCauses_olderArrival (g : Nat) : (siteCauses s g).olderArrival = s.olderArrival :=
  (congrArg State.olderArrival (siteCauses_frame s g) :)
@[simp] theorem siteCauses_newerArrival (g : Nat) : (siteCauses s g).newerArrival = s.newerArrival :=
  (congrArg State.newerArrival (siteCauses_frame s g) :)
@[simp] theorem siteCauses_substituteTimer (g : Nat) : (siteCauses s g).substituteTimer = s.substituteTimer :=
  (congrArg State.substituteTimer (siteCauses_frame s g) :)
@[simp] theorem siteCauses_lastCycle (g : Nat) : (siteCauses s g).lastCycle = s.lastCycle :=
  (congrArg State.lastCycle (siteCauses_frame s g) :)
@[simp] theorem siteCauses_flags (g : Nat) : (siteCauses s g).flags = s.flags :=
  (congrArg State.flags (siteCauses_frame s g) :)
@[simp] theorem siteCauses_events (g : Nat) : (siteCauses s g).events = s.events :=
  (congrArg State.events (siteCauses_frame s g) :)
@[simp] theorem siteCauses_due (g : Nat) : (siteCauses s g).due = s.due :=
  (congrArg State.due (siteCauses_frame s g) :)
@[simp] theorem siteCauses_frameClass (g : Nat) : (siteCauses s g).frameClass = s.frameClass :=
  (congrArg State.frameClass (siteCauses_frame s g) :)
@[simp] theorem siteCauses_inReset (g : Nat) : (siteCauses s g).inReset = s.inReset :=
  (congrArg State.inReset (siteCauses_frame s g) :)
@[simp] theorem siteCauses_holdnLow (g : Nat) : (siteCauses s g).holdnLow = s.holdnLow :=
  (congrArg State.holdnLow (siteCauses_frame s g) :)
@[simp] theorem siteCauses_sampled (g : Nat) : (siteCauses s g).sampled = s.sampled :=
  (congrArg State.sampled (siteCauses_frame s g) :)
@[simp] theorem siteCauses_faultnLow (g : Nat) : (siteCauses s g).faultnLow = s.faultnLow :=
  (congrArg State.faultnLow (siteCauses_frame s g) :)

/-- The site input unit's part of a warm restart (R96, R106). -/
theorem siteRestart_frame :
    siteRestart s = { s with
    flags := (siteRestart s).flags, gangs := (siteRestart s).gangs,
    lines := (siteRestart s).lines } := by
  unfold siteRestart
  rw [forGangs_gangs_frame _ fun t g => siteCauses_frame t g]
  split
  all_goals apply State.ext_fields <;> simp

@[simp] theorem siteRestart_pending : (siteRestart s).pending = s.pending :=
  (congrArg State.pending (siteRestart_frame s) :)
@[simp] theorem siteRestart_now : (siteRestart s).now = s.now :=
  (congrArg State.now (siteRestart_frame s) :)
@[simp] theorem siteRestart_draws : (siteRestart s).draws = s.draws :=
  (congrArg State.draws (siteRestart_frame s) :)
@[simp] theorem siteRestart_up : (siteRestart s).up = s.up :=
  (congrArg State.up (siteRestart_frame s) :)
@[simp] theorem siteRestart_down : (siteRestart s).down = s.down :=
  (congrArg State.down (siteRestart_frame s) :)
@[simp] theorem siteRestart_waiting : (siteRestart s).waiting = s.waiting :=
  (congrArg State.waiting (siteRestart_frame s) :)
@[simp] theorem siteRestart_bankPresent : (siteRestart s).bankPresent = s.bankPresent :=
  (congrArg State.bankPresent (siteRestart_frame s) :)
@[simp] theorem siteRestart_active : (siteRestart s).active = s.active :=
  (congrArg State.active (siteRestart_frame s) :)
@[simp] theorem siteRestart_verifiedCrc : (siteRestart s).verifiedCrc = s.verifiedCrc :=
  (congrArg State.verifiedCrc (siteRestart_frame s) :)
@[simp] theorem siteRestart_pendingBank : (siteRestart s).pendingBank = s.pendingBank :=
  (congrArg State.pendingBank (siteRestart_frame s) :)
@[simp] theorem siteRestart_pendingState : (siteRestart s).pendingState = s.pendingState :=
  (congrArg State.pendingState (siteRestart_frame s) :)
@[simp] theorem siteRestart_expectedCrc : (siteRestart s).expectedCrc = s.expectedCrc :=
  (congrArg State.expectedCrc (siteRestart_frame s) :)
@[simp] theorem siteRestart_pendingCrc : (siteRestart s).pendingCrc = s.pendingCrc :=
  (congrArg State.pendingCrc (siteRestart_frame s) :)
@[simp] theorem siteRestart_refresh : (siteRestart s).refresh = s.refresh :=
  (congrArg State.refresh (siteRestart_frame s) :)
@[simp] theorem siteRestart_axes : (siteRestart s).axes = s.axes :=
  (congrArg State.axes (siteRestart_frame s) :)
@[simp] theorem siteRestart_forwards : (siteRestart s).forwards = s.forwards :=
  (congrArg State.forwards (siteRestart_frame s) :)
@[simp] theorem siteRestart_reportedNodes : (siteRestart s).reportedNodes = s.reportedNodes :=
  (congrArg State.reportedNodes (siteRestart_frame s) :)
@[simp] theorem siteRestart_fences : (siteRestart s).fences = s.fences :=
  (congrArg State.fences (siteRestart_frame s) :)
@[simp] theorem siteRestart_windClass : (siteRestart s).windClass = s.windClass :=
  (congrArg State.windClass (siteRestart_frame s) :)
@[simp] theorem siteRestart_weatherStale : (siteRestart s).weatherStale = s.weatherStale :=
  (congrArg State.weatherStale (siteRestart_frame s) :)
@[simp] theorem siteRestart_weatherTimer : (siteRestart s).weatherTimer = s.weatherTimer :=
  (congrArg State.weatherTimer (siteRestart_frame s) :)
@[simp] theorem siteRestart_press : (siteRestart s).press = s.press :=
  (congrArg State.press (siteRestart_frame s) :)
@[simp] theorem siteRestart_pressTime : (siteRestart s).pressTime = s.pressTime :=
  (congrArg State.pressTime (siteRestart_frame s) :)
@[simp] theorem siteRestart_longTime : (siteRestart s).longTime = s.longTime :=
  (congrArg State.longTime (siteRestart_frame s) :)
@[simp] theorem siteRestart_operatorHold : (siteRestart s).operatorHold = s.operatorHold :=
  (congrArg State.operatorHold (siteRestart_frame s) :)
@[simp] theorem siteRestart_deferred : (siteRestart s).deferred = s.deferred :=
  (congrArg State.deferred (siteRestart_frame s) :)
@[simp] theorem siteRestart_backoff : (siteRestart s).backoff = s.backoff :=
  (congrArg State.backoff (siteRestart_frame s) :)
@[simp] theorem siteRestart_highPtr : (siteRestart s).highPtr = s.highPtr :=
  (congrArg State.highPtr (siteRestart_frame s) :)
@[simp] theorem siteRestart_lowPtr : (siteRestart s).lowPtr = s.lowPtr :=
  (congrArg State.lowPtr (siteRestart_frame s) :)
@[simp] theorem siteRestart_openGrant : (siteRestart s).openGrant = s.openGrant :=
  (congrArg State.openGrant (siteRestart_frame s) :)
@[simp] theorem siteRestart_grantRecs : (siteRestart s).grantRecs = s.grantRecs :=
  (congrArg State.grantRecs (siteRestart_frame s) :)
@[simp] theorem siteRestart_watchdog : (siteRestart s).watchdog = s.watchdog :=
  (congrArg State.watchdog (siteRestart_frame s) :)
@[simp] theorem siteRestart_watchdogTimer : (siteRestart s).watchdogTimer = s.watchdogTimer :=
  (congrArg State.watchdogTimer (siteRestart_frame s) :)
@[simp] theorem siteRestart_olderArrival : (siteRestart s).olderArrival = s.olderArrival :=
  (congrArg State.olderArrival (siteRestart_frame s) :)
@[simp] theorem siteRestart_newerArrival : (siteRestart s).newerArrival = s.newerArrival :=
  (congrArg State.newerArrival (siteRestart_frame s) :)
@[simp] theorem siteRestart_substituteTimer : (siteRestart s).substituteTimer = s.substituteTimer :=
  (congrArg State.substituteTimer (siteRestart_frame s) :)
@[simp] theorem siteRestart_lastCycle : (siteRestart s).lastCycle = s.lastCycle :=
  (congrArg State.lastCycle (siteRestart_frame s) :)
@[simp] theorem siteRestart_events : (siteRestart s).events = s.events :=
  (congrArg State.events (siteRestart_frame s) :)
@[simp] theorem siteRestart_due : (siteRestart s).due = s.due :=
  (congrArg State.due (siteRestart_frame s) :)
@[simp] theorem siteRestart_frameClass : (siteRestart s).frameClass = s.frameClass :=
  (congrArg State.frameClass (siteRestart_frame s) :)
@[simp] theorem siteRestart_inReset : (siteRestart s).inReset = s.inReset :=
  (congrArg State.inReset (siteRestart_frame s) :)
@[simp] theorem siteRestart_holdnLow : (siteRestart s).holdnLow = s.holdnLow :=
  (congrArg State.holdnLow (siteRestart_frame s) :)
@[simp] theorem siteRestart_sampled : (siteRestart s).sampled = s.sampled :=
  (congrArg State.sampled (siteRestart_frame s) :)
@[simp] theorem siteRestart_faultnLow : (siteRestart s).faultnLow = s.faultnLow :=
  (congrArg State.faultnLow (siteRestart_frame s) :)

/-- The warm restart keeps ports, banks, wind, press, waiting frames and the last cycle number (R186). -/
theorem makeWarmRestart_frame :
    makeWarmRestart s = { s with
    flags := (makeWarmRestart s).flags, events := (makeWarmRestart s).events,
    watchdog := (makeWarmRestart s).watchdog, watchdogTimer := (makeWarmRestart s).watchdogTimer,
    olderArrival := (makeWarmRestart s).olderArrival, newerArrival := (makeWarmRestart s).newerArrival,
    substituteTimer := (makeWarmRestart s).substituteTimer, pendingState := (makeWarmRestart s).pendingState,
    expectedCrc := (makeWarmRestart s).expectedCrc, pendingCrc := (makeWarmRestart s).pendingCrc,
    refresh := (makeWarmRestart s).refresh, gangs := (makeWarmRestart s).gangs,
    axes := (makeWarmRestart s).axes, forwards := (makeWarmRestart s).forwards,
    fences := (makeWarmRestart s).fences, reportedNodes := (makeWarmRestart s).reportedNodes,
    deferred := (makeWarmRestart s).deferred, backoff := (makeWarmRestart s).backoff,
    highPtr := (makeWarmRestart s).highPtr, lowPtr := (makeWarmRestart s).lowPtr,
    openGrant := (makeWarmRestart s).openGrant, grantRecs := (makeWarmRestart s).grantRecs,
    lines := (makeWarmRestart s).lines,
    due := s.due.filter Due.isRestart } := by
  unfold makeWarmRestart recordsRestart tablesRestart supervisorRestart arbiterCleared
  apply State.ext_fields <;> simp

@[simp] theorem makeWarmRestart_pending : (makeWarmRestart s).pending = s.pending :=
  (congrArg State.pending (makeWarmRestart_frame s) :)
@[simp] theorem makeWarmRestart_now : (makeWarmRestart s).now = s.now :=
  (congrArg State.now (makeWarmRestart_frame s) :)
@[simp] theorem makeWarmRestart_draws : (makeWarmRestart s).draws = s.draws :=
  (congrArg State.draws (makeWarmRestart_frame s) :)
@[simp] theorem makeWarmRestart_up : (makeWarmRestart s).up = s.up :=
  (congrArg State.up (makeWarmRestart_frame s) :)
@[simp] theorem makeWarmRestart_down : (makeWarmRestart s).down = s.down :=
  (congrArg State.down (makeWarmRestart_frame s) :)
@[simp] theorem makeWarmRestart_waiting : (makeWarmRestart s).waiting = s.waiting :=
  (congrArg State.waiting (makeWarmRestart_frame s) :)
@[simp] theorem makeWarmRestart_bankPresent : (makeWarmRestart s).bankPresent = s.bankPresent :=
  (congrArg State.bankPresent (makeWarmRestart_frame s) :)
@[simp] theorem makeWarmRestart_active : (makeWarmRestart s).active = s.active :=
  (congrArg State.active (makeWarmRestart_frame s) :)
@[simp] theorem makeWarmRestart_verifiedCrc : (makeWarmRestart s).verifiedCrc = s.verifiedCrc :=
  (congrArg State.verifiedCrc (makeWarmRestart_frame s) :)
@[simp] theorem makeWarmRestart_pendingBank : (makeWarmRestart s).pendingBank = s.pendingBank :=
  (congrArg State.pendingBank (makeWarmRestart_frame s) :)
@[simp] theorem makeWarmRestart_windClass : (makeWarmRestart s).windClass = s.windClass :=
  (congrArg State.windClass (makeWarmRestart_frame s) :)
@[simp] theorem makeWarmRestart_weatherStale : (makeWarmRestart s).weatherStale = s.weatherStale :=
  (congrArg State.weatherStale (makeWarmRestart_frame s) :)
@[simp] theorem makeWarmRestart_weatherTimer : (makeWarmRestart s).weatherTimer = s.weatherTimer :=
  (congrArg State.weatherTimer (makeWarmRestart_frame s) :)
@[simp] theorem makeWarmRestart_press : (makeWarmRestart s).press = s.press :=
  (congrArg State.press (makeWarmRestart_frame s) :)
@[simp] theorem makeWarmRestart_pressTime : (makeWarmRestart s).pressTime = s.pressTime :=
  (congrArg State.pressTime (makeWarmRestart_frame s) :)
@[simp] theorem makeWarmRestart_longTime : (makeWarmRestart s).longTime = s.longTime :=
  (congrArg State.longTime (makeWarmRestart_frame s) :)
@[simp] theorem makeWarmRestart_operatorHold : (makeWarmRestart s).operatorHold = s.operatorHold :=
  (congrArg State.operatorHold (makeWarmRestart_frame s) :)
@[simp] theorem makeWarmRestart_due : (makeWarmRestart s).due = s.due.filter Due.isRestart :=
  (congrArg State.due (makeWarmRestart_frame s) :)
@[simp] theorem makeWarmRestart_frameClass : (makeWarmRestart s).frameClass = s.frameClass :=
  (congrArg State.frameClass (makeWarmRestart_frame s) :)
@[simp] theorem makeWarmRestart_lastCycle : (makeWarmRestart s).lastCycle = s.lastCycle :=
  (congrArg State.lastCycle (makeWarmRestart_frame s) :)
@[simp] theorem makeWarmRestart_inReset : (makeWarmRestart s).inReset = s.inReset :=
  (congrArg State.inReset (makeWarmRestart_frame s) :)
@[simp] theorem makeWarmRestart_holdnLow : (makeWarmRestart s).holdnLow = s.holdnLow :=
  (congrArg State.holdnLow (makeWarmRestart_frame s) :)
@[simp] theorem makeWarmRestart_sampled : (makeWarmRestart s).sampled = s.sampled :=
  (congrArg State.sampled (makeWarmRestart_frame s) :)
@[simp] theorem makeWarmRestart_faultnLow : (makeWarmRestart s).faultnLow = s.faultnLow :=
  (congrArg State.faultnLow (makeWarmRestart_frame s) :)

/-- The completion of a refresh (R128). -/
theorem completeRefresh_frame (read : Bank) :
    completeRefresh read s = { s with
    refresh := (completeRefresh read s).refresh, active := (completeRefresh read s).active,
    bankPresent := (completeRefresh read s).bankPresent, verifiedCrc := (completeRefresh read s).verifiedCrc,
    axes := (completeRefresh read s).axes, forwards := (completeRefresh read s).forwards,
    gangs := (completeRefresh read s).gangs, fences := (completeRefresh read s).fences,
    deferred := (completeRefresh read s).deferred, backoff := (completeRefresh read s).backoff,
    lines := (completeRefresh read s).lines, down := (completeRefresh read s).down,
    watchdog := (completeRefresh read s).watchdog, watchdogTimer := (completeRefresh read s).watchdogTimer,
    substituteTimer := (completeRefresh read s).substituteTimer, olderArrival := (completeRefresh read s).olderArrival,
    newerArrival := (completeRefresh read s).newerArrival, flags := (completeRefresh read s).flags,
    windClass := (completeRefresh read s).windClass, frameClass := (completeRefresh read s).frameClass,
    weatherStale := (completeRefresh read s).weatherStale,
    weatherTimer := (completeRefresh read s).weatherTimer, highPtr := (completeRefresh read s).highPtr,
    lowPtr := (completeRefresh read s).lowPtr, openGrant := (completeRefresh read s).openGrant,
    grantRecs := (completeRefresh read s).grantRecs } := by
  unfold completeRefresh loseBank weatherLost arbiterCleared
  (try dsimp only)
  repeat' split
  all_goals apply State.ext_fields <;> simp

@[simp] theorem completeRefresh_pending (read : Bank) : (completeRefresh read s).pending = s.pending :=
  (congrArg State.pending (completeRefresh_frame s read) :)
@[simp] theorem completeRefresh_now (read : Bank) : (completeRefresh read s).now = s.now :=
  (congrArg State.now (completeRefresh_frame s read) :)
@[simp] theorem completeRefresh_draws (read : Bank) : (completeRefresh read s).draws = s.draws :=
  (congrArg State.draws (completeRefresh_frame s read) :)
@[simp] theorem completeRefresh_up (read : Bank) : (completeRefresh read s).up = s.up :=
  (congrArg State.up (completeRefresh_frame s read) :)
@[simp] theorem completeRefresh_waiting (read : Bank) : (completeRefresh read s).waiting = s.waiting :=
  (congrArg State.waiting (completeRefresh_frame s read) :)
@[simp] theorem completeRefresh_pendingBank (read : Bank) : (completeRefresh read s).pendingBank = s.pendingBank :=
  (congrArg State.pendingBank (completeRefresh_frame s read) :)
@[simp] theorem completeRefresh_pendingState (read : Bank) : (completeRefresh read s).pendingState = s.pendingState :=
  (congrArg State.pendingState (completeRefresh_frame s read) :)
@[simp] theorem completeRefresh_expectedCrc (read : Bank) : (completeRefresh read s).expectedCrc = s.expectedCrc :=
  (congrArg State.expectedCrc (completeRefresh_frame s read) :)
@[simp] theorem completeRefresh_pendingCrc (read : Bank) : (completeRefresh read s).pendingCrc = s.pendingCrc :=
  (congrArg State.pendingCrc (completeRefresh_frame s read) :)
@[simp] theorem completeRefresh_reportedNodes (read : Bank) : (completeRefresh read s).reportedNodes = s.reportedNodes :=
  (congrArg State.reportedNodes (completeRefresh_frame s read) :)
@[simp] theorem completeRefresh_press (read : Bank) : (completeRefresh read s).press = s.press :=
  (congrArg State.press (completeRefresh_frame s read) :)
@[simp] theorem completeRefresh_pressTime (read : Bank) : (completeRefresh read s).pressTime = s.pressTime :=
  (congrArg State.pressTime (completeRefresh_frame s read) :)
@[simp] theorem completeRefresh_longTime (read : Bank) : (completeRefresh read s).longTime = s.longTime :=
  (congrArg State.longTime (completeRefresh_frame s read) :)
@[simp] theorem completeRefresh_operatorHold (read : Bank) : (completeRefresh read s).operatorHold = s.operatorHold :=
  (congrArg State.operatorHold (completeRefresh_frame s read) :)
@[simp] theorem completeRefresh_lastCycle (read : Bank) : (completeRefresh read s).lastCycle = s.lastCycle :=
  (congrArg State.lastCycle (completeRefresh_frame s read) :)
@[simp] theorem completeRefresh_events (read : Bank) : (completeRefresh read s).events = s.events :=
  (congrArg State.events (completeRefresh_frame s read) :)
@[simp] theorem completeRefresh_due (read : Bank) : (completeRefresh read s).due = s.due :=
  (congrArg State.due (completeRefresh_frame s read) :)
@[simp] theorem completeRefresh_inReset (read : Bank) : (completeRefresh read s).inReset = s.inReset :=
  (congrArg State.inReset (completeRefresh_frame s read) :)
@[simp] theorem completeRefresh_holdnLow (read : Bank) : (completeRefresh read s).holdnLow = s.holdnLow :=
  (congrArg State.holdnLow (completeRefresh_frame s read) :)
@[simp] theorem completeRefresh_sampled (read : Bank) : (completeRefresh read s).sampled = s.sampled :=
  (congrArg State.sampled (completeRefresh_frame s read) :)
@[simp] theorem completeRefresh_faultnLow (read : Bank) : (completeRefresh read s).faultnLow = s.faultnLow :=
  (congrArg State.faultnLow (completeRefresh_frame s read) :)

end Sys2Proof.Machine
end

