-- ==== Sys2Proof/Laws/Step.lean ====
section
/-!
SUPPORT. What a step can be, said once: what is kept by the millisecond of an empty queue, by each thing an event can do,
and by the end of a command, is kept by every step. What falls due in a millisecond is said too.
-/
namespace Sys2Proof.Machine

/-! ### A property kept by every event -/

/-- A property that everything a step can do keeps. -/
structure Keeps (Inv : State → Prop) : Prop where
  queue : ∀ s q, Inv s → Inv { s with pending := q }
  tick : ∀ s, s.inReset = false → Inv s → Inv (passMillisecond s)
  settle : ∀ old s, Inv s → Inv (settle old s)
  coldReset : ∀ release s, Inv s → Inv (coldResetState release s)
  receive : ∀ p rx s, Inv s → Inv (s.setPort p { s.port p with rx := rx })
  transmit : ∀ p s, Inv s → Inv (transmitHead p s)
  dropped : ∀ p c s, Inv s → Inv (s.setFlag (checkFlag p c))
  misfit : ∀ s, Inv s → Inv (s.setFlag .frameKind)
  hand : ∀ p f s, Inv s → Inv (s.hand p f)
  setpoint : ∀ f s, Inv s → Inv (takeSetpoint f s)
  feedback : ∀ f s, Inv s → Inv (applyFeedback f s)
  weather : ∀ p s, Inv s → Inv (applyWeather p s)
  event : ∀ p s, Inv s → Inv (takeEvent p s)
  response : ∀ p s, Inv s → Inv (takeResponse p s)
  request : ∀ p s, Inv s → Inv (takeRequest (requestKey p) s)
  kick : ∀ s, Inv s → Inv (kickWatchdog s)
  invalid : ∀ s, Inv s → Inv (s.setFlag .invalidMgmt)
  command : ∀ c args s, argumentsFit c args = true → Inv s → Inv (runCommand c args s).state
  process : ∀ w rest s, s.waiting = w :: rest → Inv s → Inv (processWaiting w { s with waiting := rest })
  stale : ∀ i s, Inv s → Inv (becomeStale s i)
  timeouts : ∀ s, Inv s → Inv (takeTimeouts s)
  discard : ∀ s, Inv s → Inv (discardExpired s)
  weatherExpiry : ∀ s, s.weatherTimer = some 0 → Inv s → Inv (weatherExpires s)
  verification : ∀ s, s.pendingState = .verifying → Inv s → Inv (completeVerification s)
  warmRestart : ∀ s, Inv s → Inv (makeWarmRestart s)
  due : ∀ l s, l = [] ∨ s.waiting ≠ [] → Inv s → Inv { s with due := l }
  began : ∀ s, Inv s → Inv { s with frameClass := none }
  refresh : ∀ read s, s.refresh.isSome = true → Inv s → Inv (completeRefresh read s)
  saturation : ∀ row s, Inv s → Inv (saturationCleared row s)
  upset : ∀ changes s, s.bankPresent = true → Inv s → Inv (upsetActive changes s)
  watchdog : ∀ s, s.watchdog = .running → s.watchdogTimer = some 0 → Inv s → Inv (watchdogExpires s)
  substitute : ∀ s, s.watchdog = .substituting → s.substituteTimer = some 0 → Inv s → Inv (substituteExpires s)
  prewarn : ∀ g s, Inv s → Inv (prewarnExpires s g)
  level : ∀ low taken s, Inv s → Inv { s with holdnLow := low, sampled := taken }
  pressStart : ∀ s, Inv s → Inv { s with press := .debounce, pressTime := 0, longTime := s.longPressNow }
  debounce : ∀ s, s.press = .debounce → 60 ≤ s.pressTime → Inv s → Inv { s with press := .armed }
  release : ∀ s, Inv s → Inv { s with press := .released }
  shortPress : ∀ s, s.press = .armed → Inv s → Inv (shortPress s)
  longPress : ∀ s, s.press = .armed → s.longTime ≤ s.pressTime → Inv s → Inv (longPressActs s)
  line : ∀ i f s, (∀ l : LineGen, l.demand = .off → f l = l) → Inv s → Inv (s.modifyLine i f)

variable {Inv : State → Prop}

/-- An arrival of any class keeps it. -/
theorem Keeps.takeClass (k : Keeps Inv) (p : Port) (f : Frame) (c : FrameClass) (s : State) (h : Inv s) :
    Inv (takeClass p f c s) := by
  cases c with
  | bad check => exact k.dropped _ _ _ h
  | frameKind => exact k.misfit _ h
  | ignored => exact h
  | transit => exact k.hand _ _ _ h
  | upstreamBound => exact k.hand _ _ _ h
  | localSetpoint => exact k.setpoint _ _ h
  | feedback => exact k.hand _ _ _ (k.feedback _ _ h)
  | weather => exact k.hand _ _ _ (k.weather _ _ h)
  | event => exact k.event _ _ h
  | paramRsp => exact k.response _ _ h
  | paramReq => exact k.request _ _ h
  | management =>
    simp only [Machine.takeClass, takeManagement]
    have h1 : Inv (if (s.bankPresent && s.config.kickOnManagement) = true then kickWatchdog s else s) := by
      split
      · exact k.kick _ h
      · exact h
    generalize (if (s.bankPresent && s.config.kickOnManagement) = true then kickWatchdog s else s) = t at *
    have h2 : Inv (executeManagement (framePayload f) t).state := by
      unfold executeManagement
      split
      · exact k.invalid _ h1
      · split
        · exact k.command _ _ _ ‹_› h1
        · exact h1
    split
    · generalize responseFrame (framePayload f) (executeManagement (framePayload f) t) = answer
      generalize (executeManagement (framePayload f) t).state = u at *
      obtain ⟨_, e⟩ | ⟨hw, _, e⟩ | ⟨hw, _, e⟩ := takeRestart_cases answer u <;> rw [e]
      · exact k.warmRestart _ (k.hand _ _ _ h2)
      · exact k.due _ _ (.inr (by simpa using hw)) (k.hand _ _ _ h2)
      · exact k.due _ _ (.inr hw) h2
    · exact k.hand _ _ _ h2

/-- A RESTART in its turn keeps it. -/
theorem Keeps.restartInTurn (k : Keeps Inv) (s : State) (answer : Frame) (h : Inv s) : Inv (restartInTurn s answer) :=
  k.warmRestart _ (k.hand _ _ _ h)

/-- What acts at the completion of a processing keeps it. -/
theorem Keeps.atCompletion (k : Keeps Inv) (d : Due) (act : State → State) (s : State) (a : Inv s → Inv (act s))
    (h : Inv s) : Inv (atCompletion d act s) := by
  obtain ⟨_, e⟩ | ⟨hw, _, e⟩ | ⟨_, _, e⟩ := atCompletion_cases d act s <;> rw [e]
  · exact a h
  · exact k.due _ _ (.inr hw) h
  · exact h

/-- What is due keeps it. -/
theorem Keeps.takeDue (k : Keeps Inv) (s : State) (d : Due) (h : Inv s) : Inv (takeDue s d) := by
  obtain ⟨_, e⟩ | ⟨_, _, e⟩ | ⟨_, hp, e⟩ | ⟨_, _, hr, e⟩ | ⟨_, _, e⟩ | e := takeDue_cases s d <;> rw [e]
  · exact k.warmRestart _ h
  · exact k.restartInTurn _ _ h
  · exact k.verification _ hp h
  · exact k.refresh _ _ hr h
  · exact k.saturation _ _ h
  · exact h

/-- The completion of a processing keeps it. -/
theorem Keeps.completeProcessing (k : Keeps Inv) (s : State) (h : Inv s) : Inv (completeProcessing s) := by
  have all : ∀ (acts : List Due) (t : State), Inv t → Inv (acts.foldl Machine.takeDue t) := by
    intro acts
    induction acts with
    | nil => exact fun _ h => h
    | cons d rest ih =>
      intro t h
      rw [List.foldl_cons]
      exact ih _ (k.takeDue t d h)
  exact all _ _ (k.began _ (k.due [] _ (.inl rfl) h))

/-- HOLDn taking a level keeps it. -/
theorem Keeps.holdnTakes (k : Keeps Inv) (low : Bool) (s : State) (h : Inv s) : Inv (holdnTakes low s) := by
  unfold Machine.holdnTakes
  split
  · exact h
  · split
    · exact k.level _ s.sampled _ h
    · split
      · exact k.level _ s.sampled _ h
      · have h1 := k.level low true _ h
        cases low
        · simp only [Bool.false_eq_true, if_false]
          unfold pressEnds
          split
          · exact h1
          · exact k.release _ h1
          · exact k.shortPress _ ‹_› h1
          · exact k.release _ h1
        · simp only [if_true]
          unfold pressBegins
          split
          · exact k.pressStart _ h1
          all_goals exact h1

/-- An end mark keeps it. -/
theorem Keeps.frameArrives (k : Keeps Inv) (p : Port) (bytes : Frame) (s : State) (h : Inv s) :
    Inv (frameArrives p bytes s) := by
  unfold Machine.frameArrives
  split
  · exact h
  · exact k.takeClass _ _ _ _ (k.receive _ _ _ h)

/-- Every command keeps it. -/
theorem Keeps.exec (k : Keeps Inv) {c : Instr} {s t : State} (e : exec c s = .next t) (h : Inv s) : Inv t := by
  have fin : ∀ {new : State}, finish s new = .next t → Inv new → Inv t := by
    intro new e h'
    cases e
    exact k.settle _ _ h'
  cases c with
  | coldReset cause low =>
    refine fin e ?_
    split
    · exact k.coldReset _ _ h
    · exact h
  | localSetpointProcessing =>
    refine fin e ?_
    split
    · exact h
    · have h1 := k.process _ _ _ ‹_› h
      exact k.completeProcessing _ h1
  | axisBecomesStale i => exact fin e (k.stale _ _ h)
  | deferredTimeout => exact fin e (k.timeouts _ h)
  | discardExpiry => exact fin e (k.discard _ h)
  | transmitFrame p => exact fin e (k.transmit _ _ h)
  | weatherTimerExpiry =>
    refine fin e ?_
    split
    · exact k.weatherExpiry _ ‹_› h
    · exact h
  | verificationCompletion =>
    refine fin e ?_
    split
    · exact k.atCompletion _ _ _ (k.verification _ ‹_›) h
    · exact h
  | warmRestart =>
    refine fin e ?_
    split
    · exact h
    · exact k.warmRestart _ h
  | refreshCompletion =>
    refine fin e ?_
    split
    · exact k.atCompletion _ _ _ (k.refresh _ _ (Option.isSome_of_mem ‹_›)) h
    · exact h
  | bankUpset changes =>
    refine fin e ?_
    split
    · exact k.upset _ _ ‹_› h
    · exact h
  | watchdogExpiry =>
    refine fin e ?_
    split
    · split
      · exact k.watchdog _ ‹_› ‹_› h
      · exact h
    all_goals exact h
  | substituteTimerExpiry =>
    refine fin e ?_
    split
    · split
      · exact k.substitute _ ‹_› ‹_› h
      · exact h
    all_goals exact h
  | prewarnExpiry g => exact fin e (k.prewarn _ _ h)
  | pressStart => exact fin e (k.holdnTakes _ _ h)
  | debounceExpiry =>
    refine fin e ?_
    split
    · split
      · exact k.debounce _ ‹_› ‹_› h
      · exact h
    all_goals exact h
  | pressRelease => exact fin e (k.holdnTakes _ _ h)
  | longPress =>
    refine fin e ?_
    split
    · split
      · exact k.longPress _ ‹_› ‹_› h
      · exact h
    all_goals exact h
  | warnOnTimeEnd i =>
    refine fin e (k.line _ _ _ (fun l hl => ?_) h)
    simp [lineOnTimeEnds, hl, LineDemand.flashes]
  | warnPeriodEnd i =>
    refine fin e (k.line _ _ _ (fun l hl => ?_) h)
    simp [linePeriodEnds, hl, LineDemand.flashes]
  | beginMark p =>
    refine fin e ?_
    unfold frameBegins
    split
    · split
      · exact h
      · exact k.receive _ _ _ h
    · exact h
  | badFrame p bytes => exact fin e (k.frameArrives _ _ _ h)
  | unknownKindFrame p bytes => exact fin e (k.frameArrives _ _ _ h)
  | _ => exact fin e (k.frameArrives _ _ _ h)

/-- Every step keeps it. -/
theorem Keeps.step (k : Keeps Inv) {s t : State} (e : step s = .next t) (h : Inv s) : Inv t := by
  unfold Machine.step at e
  split at e
  · cases e
    unfold Machine.tick
    split
    · exact h
    · exact k.tick _ (by simpa using ‹¬s.inReset = true›) h
  · exact k.exec e (k.queue _ _ h)

/-! ### What falls due in a millisecond -/

theorem mem_dueIf (b : Bool) (c d : Instr) : c ∈ dueIf b d ↔ b = true ∧ c = d := by
  cases b <;> simp [dueIf]

theorem mem_prewarnDue (s : State) (c : Instr) :
    c ∈ s.prewarnDue ↔ ∃ g r, g < 8 ∧ s.gang g = some r ∧ runsOut r.prewarnLeft = true ∧ c = .prewarnExpiry g := by
  simp only [State.prewarnDue, State.gangList, List.mem_flatMap, List.mem_filterMap, mem_dueIf, List.mem_range]
  constructor
  · rintro ⟨⟨g, r⟩, ⟨h, hg, e⟩, h1, h2⟩
    refine ⟨g, r, ?_⟩
    cases hh : s.gang h <;> simp [hh] at e
    obtain ⟨rfl, rfl⟩ := e
    exact ⟨hg, hh, h1, h2⟩
  · rintro ⟨g, r, hg, h, h1, h2⟩
    exact ⟨(g, r), ⟨g, hg, by simp [h]⟩, h1, h2⟩

theorem mem_pressDue (s : State) (c : Instr) :
    c ∈ s.pressDue ↔
      (s.press = .debounce ∧ 60 ≤ s.pressTime + 1 ∧ c = .debounceExpiry) ∨
        (s.press = .armed ∧ s.longTime ≤ s.pressTime + 1 ∧ c = .longPress) := by
  unfold State.pressDue
  cases s.press <;> simp [mem_dueIf]

end Sys2Proof.Machine
end

