-- ==== Sys2Proof/WellFormed.lean ====
section
/-!
DEFINITION. Which commands can be: an index operand names a place that exists, and the bytes of an arrival carry the
kind, and a management request the command, that its row is for (sections 10.1 and 10.3). A command that does not
pass is still given a meaning: an index that names nothing leaves the machine as it was, and the bytes of an arrival
decide what it is (log entry 4).
-/
namespace Sys2Proof

/-- Does the kind byte of a frame have a value (section 10.1)? -/
def namesKind (k : Byte) (bytes : Frame) : Bool := bytes[2]? == some k

/-- Does a MGMT-REQ carry a command value (section 10.3)? -/
def namesCommand (c : Byte) (bytes : Frame) : Bool := namesKind 0x41 bytes && bytes[7]? == some c

/-- Does a MGMT-REQ carry one of the fourteen command values (section 10.3)? -/
def namesKnownCommand (bytes : Frame) : Bool :=
  match bytes[7]? with
  | some c => decide (1 ≤ c.toNat) && decide (c.toNat ≤ 14)
  | none => false

/-- The index operands of a command lie in their ranges (R107, R102, R120), and its bytes fit its row. -/
def Instr.wellFormed : Instr → Bool
  | .axisBecomesStale axis => decide (axis < Config.axisRows)
  | .prewarnExpiry gang => decide (gang < Config.gangRows)
  | .warnOnTimeEnd line => decide (line < Config.warningLines)
  | .warnPeriodEnd line => decide (line < Config.warningLines)
  | .bankUpset changes => changes.all fun c => decide (c.1 < Config.imageBytes)
  | .coldReset _ _ => true
  | .badFrame _ _ => true
  | .unknownKindFrame _ _ => true
  | .ignoredFrame _ => true
  | .transitFrame _ => true
  | .upstreamBoundFrame _ => true
  | .localSetpointArrival bytes => namesKind 0x11 bytes
  | .localSetpointProcessing => true
  | .deferredTimeout => true
  | .discardExpiry => true
  | .transmitFrame _ => true
  | .feedbackArrival bytes => namesKind 0x21 bytes
  | .weatherArrival bytes => namesKind 0x51 bytes
  | .weatherTimerExpiry => true
  | .eventArrival bytes => namesKind 0x22 bytes
  | .paramRspArrival bytes => namesKind 0x32 bytes
  | .paramReqArrival bytes => namesKind 0x31 bytes
  | .tableWrite bytes => namesCommand 0x01 bytes
  | .tableRead bytes => namesCommand 0x02 bytes
  | .copyActive bytes => namesCommand 0x03 bytes
  | .discardPending bytes => namesCommand 0x04 bytes
  | .activate bytes => namesCommand 0x05 bytes
  | .verificationCompletion => true
  | .gangHold bytes => namesCommand 0x06 bytes
  | .gangRelease bytes => namesCommand 0x07 bytes
  | .clearTrip bytes => namesCommand 0x08 bytes
  | .clearFlags bytes => namesCommand 0x09 bytes
  | .clearSaturation bytes => namesCommand 0x0A bytes
  | .readAxis bytes => namesCommand 0x0B bytes
  | .readGang bytes => namesCommand 0x0C bytes
  | .readDeferred bytes => namesCommand 0x0D bytes
  | .restart bytes => namesCommand 0x0E bytes
  | .unknownCommand bytes => namesKind 0x41 bytes && !namesKnownCommand bytes
  | .warmRestart => true
  | .refreshCompletion => true
  | .watchdogExpiry => true
  | .substituteTimerExpiry => true
  | .pressStart => true
  | .debounceExpiry => true
  | .pressRelease => true
  | .longPress => true
  | .beginMark _ => true

end Sys2Proof
end

