-- ==== Sys2Proof/Tests/Slice0.lean ====
section
/-!
SUPPORT. Tests: what WellFormed refuses; each command on a small state, its expected result worked out from the rule by
hand; and for every claim with hypotheses a state and operands that meet them.
-/
namespace Sys2Proof.Tests

open Sys2Proof Sys2Proof.Machine

/-! ### Small states -/

/-- A gang row: C 1000, Db 10, A 1000, B 100, F 50, K 500, Sg 100, Hg 200, settle 5 in 2 cycles, W 100 80 60 0 percent,
permission 2, envelope ±100,000, prewarn 1 s. -/
def gangRow0 : GangRow :=
  { validByte := 1, ceiling := 1000, breakaway := 10, approach := 1000, band := 100, floor := 50, tripLimit := 500,
    slewStep := 100, holdStep := 200, settleVelocity := 5, settleCycles := 2, wind0 := 100, wind1 := 80, wind2 := 60,
    wind3 := 0, permission := 2, envelopeLow := 0xFFFE7960, envelopeHigh := 0x186A0, prewarn := 1 }

/-- A bank with S 3, subordinate 5, upstream segment 1, CRC checks off, watchdog on; axis row 0 is node 10 of gang 0 with
echo check and read-back, axis row 1 node 11 of gang 0 mounted the other way round; interlock row 0 blocks gang 0 on
gang 1, which has no member. -/
def bank0 : Bank :=
  { config := { defaultConfig with
      upstreamSegment := 1, segment := 3, subordinate := 5, options := 0x04, warn0 := { mask := 1, period := 0, duty := 4 } }
    axes := ((List.replicate 64 invalidAxis).set 0 { flags := 0x19, node := 10, gang := 0, offset := 5 }).set 1
      { flags := 0x03, node := 11, gang := 0, offset := 0 }
    gangs := ((List.replicate 8 invalidGang).set 0 gangRow0).set 1 gangRow0
    interlocks := (List.replicate 16 invalidInterlock).set 0
      { validByte := 1, subject := 0, protectedLow := 500, protectedHigh := 600, condition := 1, conditionLow := 0,
        conditionHigh := 10 } }

/-- A gang record in a state with nothing else set. -/
def gangIn (st : GangState) : GangRec := { GangRec.created with state := st, holds := HoldSet.empty }

/-- A fresh axis record at a common position. -/
def axisAt (pos : Int) : AxisRec := { AxisRec.cleared with reported := true, ready := true, position := pos }

/-- The bridge with the bank active, gang 0 in a state, both axes fresh at 100. -/
def on (st : GangState) : State :=
  { State.reset with
    bankPresent := true, active := bank0, verifiedCrc := some 0x1234, flags := 0, faultnLow := false
    axes := ((List.replicate 64 none).set 0 (some (axisAt 100))).set 1 (some (axisAt 100))
    forwards := ((List.replicate 64 none).set 0 (some ForwardRec.cleared)).set 1 (some ForwardRec.cleared)
    gangs := (List.replicate 8 none).set 0 (some (gangIn st))
    fences := (List.replicate 8 none).set 0 (some FenceResult.cleared)
    watchdog := .running, watchdogTimer := some 200
    windClass := 0, weatherStale := false, weatherTimer := some 3000 }

/-- A port inside a frame that has brought no byte yet. -/
def rx (p : Port) (s : State) : State := s.setPort p { s.port p with rx := .receiving [] }

/-- A frame with its own sync word and a zero trailer (the CRC checks are off in `bank0`). -/
def frame (kind : Byte) (payload : List Byte) : Frame :=
  [0x5A, 0xA5, kind, byteOf payload.length] ++ payload ++ [0, 0]

/-- A MGMT-REQ to the bridge with sequence 7. -/
def mgmt (command : Byte) (args : List Byte) : Frame := frame 0x41 ([1, 126, 7, command] ++ args)

/-- The next state of a command. -/
def after (c : Instr) (s : State) : State :=
  match exec c s with
  | .next t => t
  | .fault _ => s
  | .refused _ => s

/-- The payload of the last frame on the upstream queue. -/
def lastUp (s : State) : List Byte := framePayload (s.up.queue.getLastD [])

/-- A SETPOINT for S with cycle 9 and one slot: node, ENABLE, raw demand. -/
def setpoint (segment node : Byte) (raw : Half) : Frame :=
  frame 0x11 ([segment, 9, 127, 1, 0x01] ++ List.replicate 15 0 ++ [node] ++ bytes16 raw)

/-- The same with a slot for node 10, a second one for it and one for node 99: ENABLE set in all, demands 1000, 500, 7. -/
def threeSlots : Frame :=
  frame 0x11 ([3, 9, 127, 3, 0x15] ++ List.replicate 15 0 ++ [10] ++ bytes16 1000 ++ [10] ++ bytes16 500 ++ [99] ++
    bytes16 7)

/-- A state with one controller frame waiting. -/
def waitingFor (f : Frame) (s : State) : State := { s with waiting := [{ origin := .controller 40, bytes := f }] }

/-- A FEEDBACK of S: node, cycle 8, raw position and velocity, echo, status bits. -/
def feedback (node : Byte) (pos : Word) (vel echo : Half) (status : Byte) : Frame :=
  frame 0x21 ([3, node, 8] ++ bytes32 pos ++ bytes16 vel ++ bytes16 echo ++ [status])

/-- Key of a read of object 0x1018 subindex 1 of node 10. -/
def readKey : ParamKey := { node := 10, object := 0x1018, subindex := 1, write := false, data := none }

/-- Key of a write of it. -/
def writeKey : ParamKey := { readKey with write := true, data := some 0x11223344 }

/-- A PARAM-RSP to a key from a drive of S, with a result and a reason. -/
def response (k : ParamKey) (result : Byte) (reason : Half) (data : Option Word) : Frame :=
  frame 0x32 (answerPayload 3 k result reason data)

/-- A state with one entry in the deferred table. -/
def holding (e : DeferredStatus) (k : ParamKey) (s : State) : State := { s with deferred := [{ key := k, status := e }] }

/-! ### What WellFormed refuses -/

theorem test_wellFormed_refuses_axis : (Instr.axisBecomesStale 64).wellFormed = false := by decide
theorem test_wellFormed_refuses_gang : (Instr.prewarnExpiry 8).wellFormed = false := by decide
theorem test_wellFormed_refuses_line :
    (Instr.warnOnTimeEnd 4).wellFormed = false ∧ (Instr.warnPeriodEnd 4).wellFormed = false := by decide
theorem test_wellFormed_refuses_offset : (Instr.bankUpset [(0, 1), (1068, 1)]).wellFormed = false := by decide
theorem test_wellFormed_refuses_kind :
    (Instr.localSetpointArrival (frame 0x21 [])).wellFormed = false ∧
    (Instr.feedbackArrival (frame 0x11 [])).wellFormed = false ∧
    (Instr.weatherArrival (frame 0x22 [])).wellFormed = false ∧
    (Instr.eventArrival (frame 0x51 [])).wellFormed = false ∧
    (Instr.paramRspArrival (frame 0x31 [])).wellFormed = false ∧
    (Instr.paramReqArrival (frame 0x32 [])).wellFormed = false := by decide
theorem test_wellFormed_refuses_command :
    (Instr.tableWrite (mgmt 0x02 [])).wellFormed = false ∧ (Instr.tableRead (mgmt 0x01 [])).wellFormed = false ∧
    (Instr.copyActive (mgmt 0x04 [])).wellFormed = false ∧ (Instr.discardPending (mgmt 0x03 [])).wellFormed = false ∧
    (Instr.activate (mgmt 0x06 [])).wellFormed = false ∧ (Instr.gangHold (mgmt 0x07 [])).wellFormed = false ∧
    (Instr.gangRelease (mgmt 0x06 [])).wellFormed = false ∧ (Instr.clearTrip (mgmt 0x09 [])).wellFormed = false ∧
    (Instr.clearFlags (mgmt 0x08 [])).wellFormed = false ∧ (Instr.clearSaturation (mgmt 0x0B [])).wellFormed = false ∧
    (Instr.readAxis (mgmt 0x0A [])).wellFormed = false ∧ (Instr.readGang (mgmt 0x0D [])).wellFormed = false ∧
    (Instr.readDeferred (mgmt 0x0C [])).wellFormed = false ∧ (Instr.restart (mgmt 0x0D [])).wellFormed = false ∧
    (Instr.unknownCommand (mgmt 0x0E [])).wellFormed = false := by decide
theorem test_wellFormed_takes_bounds :
    (Instr.axisBecomesStale 63).wellFormed = true ∧ (Instr.prewarnExpiry 7).wellFormed = true ∧
    (Instr.warnOnTimeEnd 3).wellFormed = true ∧ (Instr.bankUpset [(1067, 1)]).wellFormed = true ∧
    (Instr.restart (mgmt 0x0E [])).wellFormed = true ∧ (Instr.unknownCommand (mgmt 0x0F [])).wellFormed = true := by decide

/-! ### The link CRC -/

/-- The check value of the CRC with polynomial 0x1021 and initial value all ones, "123456789" (R152; the value is the
published one of that CRC). -/
theorem test_crc_check_value : linkCrc [0x31, 0x32, 0x33, 0x34, 0x35, 0x36, 0x37, 0x38, 0x39] = 0x29B1 := by
  decide +kernel

/-! ### Commands -/

/-- R190, R97: power-on with the button down at its end; a pulse of 9 microseconds is no reset, one of 10 is. -/
theorem test_coldReset :
    (let t := after (.coldReset .powerOn (some true)) (on .cruise)
     t.bankPresent = false ∧ t.flags = 0x800000 ∧ t.press = .debounce ∧ t.gang 0 = none) ∧
    (after (.coldReset (.resetnLow 9) (some false)) (on .cruise)).bankPresent = true ∧
    (after (.coldReset (.resetnLow 10) (some false)) (on .cruise)).bankPresent = false := by decide
/-- R190: in reset no frame begins and FAULTn is low; the reset ends by its own command. -/
theorem test_coldReset_stays :
    let s := after (.coldReset (.resetnLow 10) none) (on .cruise)
    s.inReset = true ∧ s.faultnLow = true ∧ (after (.beginMark .upstream) s).up.rx = .idle ∧
      (after .pressStart s).press = .released ∧
      (after (.coldReset (.resetnLow 0) (some false)) s).inReset = false := by decide
/-- R151: the second sync byte is the complement of the first. -/
theorem test_badFrame_sync :
    let t := after (.badFrame .upstream [0x5A, 0xA4, 0x11, 0, 0, 0]) (rx .upstream (on .idle))
    t.flags = 0x000001 ∧ t.faultnLow = true ∧ t.up.rx = .idle := by decide
/-- R151: a length byte that does not match, on the downstream port. -/
theorem test_badFrame_length :
    (after (.badFrame .downstream [0x5A, 0xA5, 0x21, 1, 0, 0]) (rx .downstream (on .idle))).flags = 0x000008 := by decide
/-- R153: no kind has value 0x77. -/
theorem test_unknownKindFrame :
    (after (.unknownKindFrame .upstream (frame 0x77 [3])) (rx .upstream (on .idle))).flags = 0x000040 := by decide
/-- R161: a SETPOINT for a segment above the subordinate one. -/
theorem test_ignoredFrame :
    let t := after (.ignoredFrame (setpoint 6 10 0)) (rx .upstream (on .idle))
    t.flags = 0 ∧ t.down.queue = [] ∧ t.waiting = [] := by decide
/-- R164: a SETPOINT for the subordinate segment. -/
theorem test_transitFrame :
    (after (.transitFrame (setpoint 5 10 0)) (rx .upstream (on .idle))).down.queue = [setpoint 5 10 0] := by decide
/-- R165: a STATUS from below. -/
theorem test_upstreamBoundFrame :
    (after (.upstreamBoundFrame (frame 0x43 [4])) (rx .downstream (on .idle))).up.queue = [frame 0x43 [4]] := by decide
/-- R162, R172: the frame waits and kicks the watchdog (timeout code 4, 200 ms). -/
theorem test_localSetpointArrival :
    let t := after (.localSetpointArrival (setpoint 3 10 0)) (rx .upstream { on .idle with watchdogTimer := some 5, now := 40 })
    t.waiting = [{ origin := .controller 40, bytes := setpoint 3 10 0 }] ∧ t.watchdogTimer = some 200 ∧
      t.newerArrival = some 40 := by decide
/-- R168, R170: the first swap comes with the arrival of the SETPOINT, and with it the route and the CRC enables. -/
theorem test_localSetpointArrival_unconfigured :
    let f := buildFrame .setpoint (framePayload (setpoint 3 10 0))
    let s := rx .upstream { State.reset with pendingBank := bank0, pendingState := .readyToSwap, pendingCrc := some 1 }
    let t := after (.localSetpointArrival f) s
    classify s .downstream (feedback 10 0 0 0 0) = .bad .crc ∧ t.bankPresent = true ∧ t.waiting.length = 1 ∧
      classify t .downstream (feedback 10 0 0 0 0) = .feedback ∧ (t.axis 1).isSome = true := by decide +kernel
/-- R44, R32, R33: in CRUISE a demand of 1000 from standstill is forwarded as the slew step 100; the second slot for the
node and the slot for no row are stopped, and the latter is reported. -/
theorem test_processing_slots :
    let t := after .localSetpointProcessing (waitingFor threeSlots (on .cruise))
    (t.forward 0).map (fun w => (w.velocity, w.recentRaw, w.enable)) = some (100, 100, true) ∧
      t.down.queue.map framePayload =
        [[3, 9, 127, 3, 0x01] ++ List.replicate 15 0 ++ [10, 0, 100, 10, 0, 0, 99, 0, 0]] ∧
      t.flags = 0x002000 ∧ t.reportedNodes = [99] := by decide +kernel
/-- R19: in IDLE the gang enters PREWARN for its 1 s and forwards 0. -/
theorem test_processing_prewarn :
    let t := after .localSetpointProcessing (waitingFor (setpoint 3 10 1000) (on .idle))
    (t.gang 0).map (fun r => (r.state, r.prewarnLeft)) = some (.prewarn, some 1000) ∧
      (t.forward 0).map (fun w => w.velocity) = some 0 := by decide +kernel
/-- R60: stale limit 4, a count of 5. -/
theorem test_axisBecomesStale :
    let s := { on .cruise with axes := (on .cruise).axes.set 0 (some { axisAt 100 with freshness := 5 }) }
    let t := after (.axisBecomesStale 0) s
    (t.axis 0).map (fun a => a.stale) = some true ∧ t.flags = 0x001000 ∧
      (t.gang 0).map (fun r => (r.state, r.holds.stale)) = some (.holding, true) := by decide
/-- R140, R141: in flight for 8 frames, discard period 1,024. -/
theorem test_deferredTimeout :
    (after .deferredTimeout (holding (.issued 8) readKey (on .idle))).deferred =
      [{ key := readKey, status := .complete .noAnswer none 1024 }] ∧
    (after .deferredTimeout (holding (.issued 7) readKey (on .idle))).deferred =
      [{ key := readKey, status := .issued 7 }] := by decide
/-- R141: DISCARD carries node, subindex and object. -/
theorem test_discardExpiry :
    let t := after .discardExpiry (holding (.complete .ok none 0) readKey (on .idle))
    t.deferred = [] ∧ t.flags = 0x010000 ∧ t.events.map (fun e => (e.code, e.data)) = [(0xF007, some 0x0A011018)] := by decide
/-- R155. -/
theorem test_transmitFrame :
    let t := after (.transmitFrame .upstream) { on .idle with up := { resetPort with queue := [[1], [2]] } }
    t.up.queue = [[2]] ∧ t.up.onLine = some [1] := by decide
/-- R54 to R57: offset 5; −32,768 is taken as −32,767; READY clear holds a moving gang. -/
theorem test_feedbackArrival :
    let t := after (.feedbackArrival (feedback 10 100 0x8000 0 0)) (rx .downstream (on .cruise))
    (t.axis 0).map (fun a => (a.position, a.velocity, a.ready)) = some (105, -32767, false) ∧
      (t.gang 0).map (fun r => (r.state, r.holds.notReady)) = some (.holding, true) ∧
      t.up.queue = [feedback 10 100 0x8000 0 0] := by decide
/-- R58, R14, R13: FAULT trips the gang with one GANG_TRIPPED record. -/
theorem test_feedbackArrival_fault :
    let t := after (.feedbackArrival (feedback 10 100 0 0 3)) (rx .downstream (on .cruise))
    (t.gang 0).map (fun r => (r.state, r.firstTrip)) = some (.tripped, some .driveFault) ∧ t.flags = 0x000800 ∧
      t.events.map (fun e => (e.code, e.gang, e.data)) = [(0xF001, some 0, some 0x03000000)] := by decide
/-- R91, R94: thresholds 100, 150, 200; a gust of 150 in class 0. -/
theorem test_weatherArrival :
    let t := after (.weatherArrival (frame 0x51 [3, 120, 0, 150, 0, 0])) (rx .downstream (on .cruise))
    t.windClass = 2 ∧ t.weatherTimer = some 3000 ∧
      t.events.map (fun e => (e.code, e.data)) = [(0xF004, some 0x00020100)] := by decide
/-- R41, R94: a change to class 2, whose percent is 60, while a frame is in its processing acts on the ceiling of 1000 from
the next frame on. -/
theorem test_weatherArrival_waiting :
    let s := after (.weatherArrival (frame 0x51 [3, 120, 0, 150, 0, 0]))
      (rx .downstream (waitingFor (setpoint 3 10 1000) (on .cruise)))
    let t := after .localSetpointProcessing s
    let u := after .localSetpointProcessing (waitingFor (setpoint 3 10 1000) t)
    s.windClass = 2 ∧ s.frameClass = some 0 ∧ t.frameClass = none ∧
      (t.gang 0).map (·.currentCeiling) = some 1000 ∧ (u.gang 0).map (·.currentCeiling) = some 600 := by decide +kernel
/-- R91: hysteresis 10; a gust of 145 keeps class 2, one of 139 falls to class 1. -/
theorem test_weather_hysteresis :
    gustClass defaultConfig false 2 145 = 2 ∧ gustClass defaultConfig false 2 139 = 1 ∧
      gustClass defaultConfig true 2 145 = 1 := by decide
/-- R93, R9: permission 2 is less than class 3. -/
theorem test_weatherTimerExpiry :
    let t := after .weatherTimerExpiry { on .cruise with weatherTimer := some 0 }
    t.windClass = 3 ∧ t.weatherStale = true ∧ t.flags = 0x100000 ∧
      (t.gang 0).map (fun r => (r.state, r.holds.wind)) = some (.holding, true) := by decide
/-- R93: a timer that an arrival has restarted does not expire. -/
theorem test_weatherTimerExpiry_restarted : after .weatherTimerExpiry (on .cruise) = on .cruise := by decide
/-- R166, R180, R148. -/
theorem test_eventArrival :
    let t := after (.eventArrival (frame 0x22 [3, 10, 0x12, 0x34]))
      (rx .downstream { on .idle with openGrant := some { row := 0, node := 10, seen := false } })
    t.events = [{ source := .node 10, code := 0x1234, gang := some 0, data := none, cycle := 0 }] ∧
      t.openGrant.map (fun o => o.seen) = some true ∧ t.up.queue = [] := by decide
/-- R148: after the next frame's arrival an EVENT no longer counts for the cycle. -/
theorem test_eventArrival_late :
    let t := after (.eventArrival (frame 0x22 [3, 10, 0x12, 0x34]))
      (rx .downstream (waitingFor (setpoint 3 10 0) { on .idle with openGrant := some { row := 0, node := 10, seen := false } }))
    t.events.length = 1 ∧ t.openGrant.map (fun o => o.seen) = some false := by decide
/-- R137: an OK to a read completes it with its data. -/
theorem test_paramRspArrival :
    (after (.paramRspArrival (response readKey 0 0 (some 77))) (rx .downstream (holding (.issued 2) readKey (on .idle)))).deferred =
      [{ key := readKey, status := .complete .ok (some 77) 1024 }] := by decide
/-- R136: an answer to nothing is dropped with a LATE_RESPONSE record. -/
theorem test_paramRspArrival_late :
    (after (.paramRspArrival (response readKey 0 0 (some 77))) (rx .downstream (on .idle))).events.map (fun e => (e.code, e.data)) =
      [(0xF006, some 0x0A011018)] := by decide
/-- R132, R133: a new request is latched and answered RETRY. -/
theorem test_paramReqArrival :
    let t := after (.paramReqArrival (frame 0x31 [3, 10, 0x10, 0x18, 1, 0])) (rx .upstream (on .cruise))
    t.deferred = [{ key := readKey, status := .queued }] ∧
      lastUp t = [3, 10, 0x10, 0x18, 1, 0, 0x10, 0, 0, 0, 0, 0, 0, 0] := by decide
/-- R132: a write into the protected range 0x2000 to 0x20FF is turned away while the gang moves. -/
theorem test_paramReqArrival_moving :
    let t := after (.paramReqArrival (frame 0x31 [3, 10, 0x20, 0xFF, 1, 1, 0, 0, 0, 9])) (rx .upstream (on .cruise))
    t.deferred = [] ∧ (lastUp t)[6]? = some 0x12 := by decide
/-- R114: an axis row, valid with sign −1. -/
theorem test_tableWrite :
    let t := after (.tableWrite (mgmt 0x01 [1, 2, 0x03, 12, 4, 0, 0, 0, 9])) (rx .upstream (on .idle))
    t.pendingBank.axisRow 2 = { flags := 3, node := 12, gang := 4, offset := 9 } ∧ lastUp t = [1, 7, 1, 0] := by decide
/-- R115: node 127 is out of range. -/
theorem test_tableWrite_badField :
    let t := after (.tableWrite (mgmt 0x01 [1, 2, 0x03, 127, 4, 0, 0, 0, 9])) (rx .upstream (on .idle))
    t.pendingBank = defaultBank ∧ lastUp t = [1, 7, 1, 4] := by decide
/-- R116: the active axis row 0 with the verified CRC. -/
theorem test_tableRead :
    lastUp (after (.tableRead (mgmt 0x02 [0, 1, 0])) (rx .upstream (on .idle))) =
      [1, 7, 2, 0, 0x19, 10, 0, 0, 0, 0, 5, 0x12, 0x34] := by decide
/-- R188, R116: flag bits 5 to 7, which only an upset sets, are sent as 0; an invalid row is sent as zeros. -/
theorem test_tableRead_reserved :
    (let s := { on .idle with active := { bank0 with axes := bank0.axes.set 0 { flags := 0xF9, node := 10, gang := 0, offset := 5 } } }
     (lastUp (after (.tableRead (mgmt 0x02 [0, 1, 0])) (rx .upstream s)))[4]? = some 0x19) ∧
    (let s := { on .idle with active := { bank0 with axes := bank0.axes.set 0 { flags := 0xF8, node := 10, gang := 0, offset := 5 } } }
     ((lastUp (after (.tableRead (mgmt 0x02 [0, 1, 0])) (rx .upstream s))).drop 4).take 7 = List.replicate 7 0) := by decide
/-- R117. -/
theorem test_copyActive :
    (after (.copyActive (mgmt 0x03 [])) (rx .upstream (on .idle))).pendingBank = bank0 := by decide
/-- R118. -/
theorem test_discardPending :
    (after (.discardPending (mgmt 0x04 [])) (rx .upstream { on .idle with pendingBank := bank0 })).pendingBank =
      defaultBank := by decide
/-- R119: STARTED. -/
theorem test_activate :
    let t := after (.activate (mgmt 0x05 [0xAB, 0xCD])) (rx .upstream (on .idle))
    t.pendingState = .verifying ∧ t.expectedCrc = some 0xABCD ∧ lastUp t = [1, 7, 5, 1] := by decide
/-- VERIFYING of a bank with an expected CRC. -/
def verifying (b : Bank) (crc : Half) : State :=
  { on .idle with pendingState := .verifying, expectedCrc := some crc, pendingBank := b }
/-- A CRC that does not match is the first failure (R121, check 1). -/
theorem verifyFailure_of_crc (b : Bank) : verifyFailure (verifying b (b.crc + 1)) = some (.crcMismatch, none) := by
  have h : (some (b.crc + 1) != some b.crc) = true := by simp
  unfold verifyFailure
  rw [if_pos (show ((verifying b (b.crc + 1)).expectedCrc != some (verifying b (b.crc + 1)).pendingBank.crc) = true from h)]
/-- R121, R122: the CRC check fails first; no index is given as 0xFF. -/
theorem test_verificationCompletion (b : Bank) :
    let t := after .verificationCompletion (verifying b (b.crc + 1))
    t.pendingState = .editing ∧ t.flags = 0x020000 ∧
      t.events.map (fun e => (e.code, e.data)) = [(0xF005, some 0x01FF0000)] := by
  have hp : (verifying b (b.crc + 1)).pendingState = .verifying := rfl
  simp only [after, exec, execVerificationCompletion, atCompletion, completeVerification, hp, verifyFailure_of_crc, finish, if_true]
  refine ⟨rfl, ?_, rfl⟩
  show 0#24 ||| Flag.mask .activateFail = 0x020000
  decide
/-- R121: nodes repeated in rows 0 and 5 and in rows 1 and 2 (log entry 40). -/
theorem test_duplicateNode :
    let row := fun (n : Byte) => ({ flags := 1, node := n, gang := 0, offset := 0 } : AxisRow)
    ({ bank0 with axes := [row 10, row 11, row 11, row 12, row 13, row 10] } : Bank).duplicateNode = some 2 := by decide
/-- R121, R129: with a frame in its processing the completion waits for that; after a RESTART it has nothing to complete,
and the bank does not come to its swap. -/
theorem test_verificationCompletion_waiting :
    let s := waitingFor (setpoint 3 10 0) (verifying bank0 0)
    let t := after .verificationCompletion (after (.restart (mgmt 0x0E [])) (rx .upstream s))
    (after .verificationCompletion s).due = [.verification] ∧ t.due = [.restart none] ∧
      (after .localSetpointProcessing t).pendingState = .editing ∧
      (after .localSetpointProcessing t).flags = 0x800000 := by decide +kernel
/-- R6, R11: GANG HOLD takes CRUISE to HOLDING. -/
theorem test_gangHold :
    let t := after (.gangHold (mgmt 0x06 [0])) (rx .upstream (on .cruise))
    (t.gang 0).map (fun r => (r.state, r.holds.toByte)) = some (.holding, 0x20) ∧ lastUp t = [1, 7, 6, 0] := by decide
/-- R11: gang 1 has no record. -/
theorem test_gangHold_badIndex :
    lastUp (after (.gangHold (mgmt 0x06 [1])) (rx .upstream (on .cruise))) = [1, 7, 6, 3] := by decide
/-- R7: removing a cause leaves the state. -/
theorem test_gangRelease :
    let s := { on .held with gangs := (on .held).gangs.set 0 (some ((gangIn .idle).addHold .command)) }
    let t := after (.gangRelease (mgmt 0x07 [0])) (rx .upstream s)
    (t.gang 0).map (fun r => (r.state, r.holds.isEmpty)) = some (.held, true) := by decide
/-- R26: a tripped gang without a faulty member goes to HELD. -/
theorem test_clearTrip :
    let s := { on .held with gangs := (on .held).gangs.set 0 (some ((gangIn .cruise).addTrip .skew)) }
    let t := after (.clearTrip (mgmt 0x08 [0])) (rx .upstream s)
    (t.gang 0).map (fun r => (r.state, r.firstTrip, r.skew, r.recovery)) = some (.held, none, 0, none) ∧
      lastUp t = [1, 7, 8, 0] := by decide
/-- R26: NOT_ALLOWED while a member reports FAULT. -/
theorem test_clearTrip_fault :
    let s := { on .held with
      gangs := (on .held).gangs.set 0 (some ((gangIn .cruise).addTrip .driveFault))
      axes := (on .held).axes.set 1 (some { axisAt 100 with fault := true }) }
    lastUp (after (.clearTrip (mgmt 0x08 [0])) (rx .upstream s)) = [1, 7, 8, 5] := by decide
/-- R178: WATCHDOG stays while SUBSTITUTING, FRAME_KIND goes; the answer carries the flags. -/
theorem test_clearFlags :
    let t := after (.clearFlags (mgmt 0x09 [0, 0, 0, 0xC0]))
      (rx .upstream { on .held with flags := 0x0000C0, watchdog := .substituting, watchdogTimer := none })
    t.flags = 0x000080 ∧ lastUp t = [1, 7, 9, 0, 0, 0, 0, 0x80] := by decide
/-- R175: clearing WATCHDOG while LATCHED starts the watchdog and lifts the cause. -/
theorem test_clearFlags_watchdog :
    let s := { on .held with
      flags := 0x000080, watchdog := .latched, watchdogTimer := none
      gangs := (on .held).gangs.set 0 (some ((gangIn .held).addHold .watchdog)) }
    let t := after (.clearFlags (mgmt 0x09 [0, 0, 0, 0x80])) (rx .upstream s)
    t.flags = 0 ∧ t.watchdog = .running ∧ t.watchdogTimer = some 200 ∧
      (t.gang 0).map (fun r => r.holds.isEmpty) = some true := by decide
/-- R149. -/
theorem test_clearSaturation :
    let s := { on .idle with grantRecs := (List.replicate 64 clearGrant).set 1 { count := 6, saturated := true } }
    let t := after (.clearSaturation (mgmt 0x0A [1])) (rx .upstream s)
    t.grantRec 1 = clearGrant ∧ lastUp t = [1, 7, 10, 0] := by decide
/-- R149: a frame taken first; the mark is still there while it is processed, and gone after it. -/
theorem test_clearSaturation_waiting :
    let s := { waitingFor (setpoint 3 10 0) (on .idle) with
      grantRecs := (List.replicate 64 clearGrant).set 1 { count := 6, saturated := true } }
    let t := after (.clearSaturation (mgmt 0x0A [1])) (rx .upstream s)
    (t.grantRec 1).saturated = true ∧ lastUp t = [1, 7, 10, 0] ∧
      (after .localSetpointProcessing t).grantRec 1 = clearGrant := by decide +kernel
/-- R71, section 10.3: reported, ready. -/
theorem test_readAxis :
    (lastUp (after (.readAxis (mgmt 0x0B [1])) (rx .upstream (on .idle)))).take 16 =
      [1, 7, 11, 0, 0x03, 0, 0, 0, 0, 0, 0, 0, 0, 0, 100, 0] := by decide
/-- R185, section 10.3: state 3, no cause, two members. -/
theorem test_readGang :
    let p := lastUp (after (.readGang (mgmt 0x0C [0])) (rx .upstream (on .cruise)))
    p.take 8 = [1, 7, 12, 0, 3, 0, 0, 0] ∧ p.length = 47 ∧ p[46]? = some 2 := by decide
/-- R143: one QUEUED entry. -/
theorem test_readDeferred :
    lastUp (after (.readDeferred (mgmt 0x0D [])) (rx .upstream (holding .queued readKey (on .idle)))) =
      [1, 7, 13, 0, 1, 0, 10, 0x10, 0x18, 1, 0, 0, 0, 0, 0, 0, 0, 0, 0, 0, 0, 0, 0, 0, 0, 0, 0, 0] := by decide
/-- R186, R187: answered, and with no frame waiting made. -/
theorem test_restart :
    let t := after (.restart (mgmt 0x0E [])) (rx .upstream (on .cruise))
    t.due = [] ∧ lastUp t = [1, 7, 14, 0] ∧ (t.gang 0).map (fun r => r.state) = some .held := by decide
/-- R187: with a frame in its processing the restart is made at its completion, the frame handed over. -/
theorem test_restart_waiting :
    let s := after (.restart (mgmt 0x0E [])) (rx .upstream (waitingFor (setpoint 3 10 1000) (on .cruise)))
    let t := after .localSetpointProcessing s
    s.gangState 0 = some .cruise ∧ t.gangState 0 = some .held ∧ t.refresh = some bank0 ∧ t.down.queue.length = 1 := by
  decide +kernel
/-- R187: the answer to a second RESTART waits for the effects of the first, and stands behind the STATUS of the
cycle. -/
theorem test_restart_twice :
    let again := fun s => after (.restart (mgmt 0x0E [])) (rx .upstream s)
    let s := again (again (waitingFor (setpoint 3 10 1000) (on .cruise)))
    let t := after .localSetpointProcessing s
    s.up.queue.map frameKind = [0x42] ∧ t.up.queue.map frameKind = [0x42, 0x43, 0x42] ∧ t.due = [] := by
  decide +kernel
/-- R184. -/
theorem test_unknownCommand :
    let t := after (.unknownCommand (mgmt 0x0F [])) (rx .upstream (on .cruise))
    t.flags = 0x080000 ∧ lastUp t = [1, 7, 15, 6] := by decide
/-- R28, R186: HELD with RESTART. -/
theorem test_warmRestart :
    let t := after .warmRestart { on .cruise with flags := 0x000040 }
    (t.gang 0).map (fun r => (r.state, r.holds.toByte)) = some (.held, 0x80) ∧ t.flags = 0x800000 ∧
      t.refresh = some bank0 := by decide
/-- A refresh that reads an image with another CRC than the verified one. -/
def refreshingOther : State := { on .cruise with refresh := some bank0, verifiedCrc := some (bank0.crc + 1) }
/-- R29, R30: the record of an axis row kept by a swap stays, and in a newly valid gang its p starts at 0. -/
theorem test_forwardAtSwap :
    let old : AxisRow := { flags := 0x19, node := 10, gang := 0, offset := 5 }
    let w := { ForwardRec.cleared with velocity := 70, recentRaw := 70, previousRaw := 68, enable := true }
    (∀ joins, (forwardAtSwap old { old with gang := 1 } joins (some w)).map (fun v => (v.last, v.recentRaw, v.previousRaw, v.enable)) =
      some (if joins then 0 else 70, 70, 68, true)) ∧
    forwardAtSwap old { old with node := 12 } true (some w) = some ForwardRec.cleared ∧
    forwardAtSwap old { old with flags := 0 } false (some w) = none := by decide
/-- R128: the active bank is lost. -/
theorem test_refreshCompletion :
    (after .refreshCompletion refreshingOther).bankPresent = false ∧
    (after .refreshCompletion refreshingOther).flags = 0x040000 ∧
    (after .refreshCompletion refreshingOther).gang 0 = none ∧
    (after .refreshCompletion refreshingOther).watchdog = .stopped := by
  have h : completeRefresh bank0 refreshingOther = loseBank refreshingOther := if_neg (by simp [refreshingOther])
  have e : after .refreshCompletion refreshingOther = settle refreshingOther (loseBank refreshingOther) := by
    rw [← h]; rfl
  rw [e]
  decide
/-- R128: a frame that waits as the refresh completes is a frame of the refresh, and its STATUS is sent before the bank is
lost. No image has the CRC of this state. -/
theorem test_refreshCompletion_waiting :
    let s := after .refreshCompletion (waitingFor (setpoint 3 10 1000) { refreshingOther with verifiedCrc := none })
    let t := after .localSetpointProcessing s
    s.due = [.refresh bank0] ∧ s.bankPresent = true ∧ t.bankPresent = false ∧ t.due = [] ∧
      t.up.queue.map frameKind = [0x43] ∧ t.flags = 0x040000 := by decide +kernel
/-- R126, section 10.5: byte 1 of the image is the segment S. -/
theorem test_bankUpset :
    (after (.bankUpset [(1, 0xEE)]) (on .cruise)).active.config.segment = 0xEE := by decide +kernel
/-- R173, R174: two valid axes; no history, so 10 ms. -/
theorem test_watchdogExpiry :
    let t := after .watchdogExpiry { on .cruise with watchdogTimer := some 0 }
    t.watchdog = .substituting ∧ t.flags = 0x000080 ∧ t.substituteTimer = some 10 ∧
      (t.gang 0).map (fun r => (r.state, r.holds.watchdog)) = some (.holding, true) ∧
      t.waiting.map (fun w => (framePayload w.bytes).take 5) = [[3, 1, 127, 2, 0]] := by decide
/-- R172: a timer that a frame has kicked does not expire. -/
theorem test_watchdogExpiry_kicked : after .watchdogExpiry (on .cruise) = on .cruise := by decide
/-- R174: cycle times 3 ms apart. -/
theorem test_substituteTimerExpiry :
    let t := after .substituteTimerExpiry
      { on .held with watchdog := .substituting, substituteTimer := some 0, olderArrival := some 4, newerArrival := some 7 }
    t.substituteTimer = some 3 ∧ t.waiting.length = 1 := by decide
/-- R20. -/
theorem test_prewarnExpiry :
    let s := { on .prewarn with gangs := (on .idle).gangs.set 0 (some { gangIn .prewarn with prewarnLeft := some 0 }) }
    ((after (.prewarnExpiry 0) s).gang 0).map (fun r => (r.state, r.prewarnLeft, r.prewarnDone)) =
      some (.prewarn, none, true) := by decide
/-- R98: long-press code 1 is 3,000 ms. -/
theorem test_pressStart :
    let t := after .pressStart { on .cruise with pressTime := 9, longTime := 5 }
    t.press = .debounce ∧ t.pressTime = 0 ∧ t.longTime = 3000 ∧ t.sampled = true := by decide
/-- R190: a press that ends within its millisecond is seen at the next sample. -/
theorem test_pressStart_sampled :
    let s := after .pressRelease (after .pressStart (on .cruise))
    s.press = .debounce ∧ s.holdnLow = false ∧ (tick s).pending = [.pressRelease] := by decide
/-- R98. -/
theorem test_debounceExpiry :
    let t := after .debounceExpiry { on .cruise with press := .debounce, pressTime := 60 }
    t.press = .armed ∧ t.pressTime = 60 := by decide
/-- R99. -/
theorem test_pressRelease :
    let t := after .pressRelease { on .cruise with press := .armed, holdnLow := true }
    t.press = .released ∧ t.operatorHold = true ∧ t.flags = 0x200000 ∧
      (t.gang 0).map (fun r => (r.state, r.holds.operator)) = some (.holding, true) := by decide
/-- R100. -/
theorem test_longPress :
    let s := { on .held with
      press := .armed, pressTime := 3000, operatorHold := true
      gangs := (on .held).gangs.set 0 (some ((gangIn .held).addHold .operator)) }
    let t := after .longPress s
    t.press = .long ∧ t.operatorHold = false ∧ t.flags = 0x400000 ∧
      (t.gang 0).map (fun r => r.holds.isEmpty) = some true := by decide
/-- R103, R104: PREWARN asks for STEADY on the line that watches the gang; its OWN demand flashes 125 of 250 ms. -/
theorem test_warnOnTimeEnd :
    let s := { on .cruise with lines := [{ demand := .own, time := 125, level := true }, offLine, offLine, offLine] }
    (after (.warnOnTimeEnd 0) s).lines[0]? = some { demand := .own, time := 125, level := false } := by decide
theorem test_warnPeriodEnd :
    let s := { on .cruise with lines := [{ demand := .own, time := 250, level := false }, offLine, offLine, offLine] }
    (after (.warnPeriodEnd 0) s).lines[0]? = some { demand := .own, time := 0, level := true } := by decide
/-- R104: an end of the on time that a new period has overtaken. -/
theorem test_warnOnTimeEnd_overtaken :
    let s := { on .cruise with lines := [LineGen.take .fast, offLine, offLine, offLine] }
    (after (.warnOnTimeEnd 0) s).lines[0]? = some (LineGen.take .fast) := by decide
/-- R150. -/
theorem test_beginMark : (after (.beginMark .downstream) (on .idle)).down.rx = .receiving [] := by decide
/-- R150: an end mark in IDLE is discarded whatever the bytes. -/
theorem test_endMark_idle : after (.gangHold (mgmt 0x06 [0])) (on .cruise) = on .cruise := by decide
/-- R124: the frame of a controller at which a bank waits makes the swap. -/
theorem test_swap :
    let s := { waitingFor (setpoint 3 10 0) (on .idle) with pendingState := .readyToSwap, pendingCrc := some 0x55AA }
    let t := after .localSetpointProcessing s
    t.active = defaultBank ∧ t.verifiedCrc = some 0x55AA ∧ t.pendingBank = bank0 ∧ t.pendingState = .editing ∧
      t.gang 0 = none ∧ t.weatherStale = true := by decide +kernel

/-! ### Hypotheses of the claims can be met -/

/-- A port that has just taken a begin mark receives the whole frame at its end mark. -/
theorem receives_rx (p : Port) (s : State) (f : Frame) : Receives (rx p s) p f f := by cases p <;> rfl

/-- A management frame to a state: what the claims about commands ask, but for the class. -/
theorem arrives_mgmt (s : State) (c : Byte) (args : List Byte)
    (h : classify (rx .upstream s) .upstream (mgmt c args) = .management)
    (hc : u8 (framePayload (mgmt c args)) 3 = c) (ha : (framePayload (mgmt c args)).drop 4 = args) :
    ManagementArrives (rx .upstream s) (mgmt c args) (mgmt c args) c args :=
  ⟨receives_rx _ _ _, h, hc, ha⟩

theorem witness_StepRunsFirstQueuedCommand :
    ({ State.reset with pending := [.pressStart, .longPress] } : State).pending = .pressStart :: [.longPress] := rfl

/-- Timers in their last and in an earlier millisecond, a press one before and at its point, lines that flash and not. -/
def idling : State :=
  { on .prewarn with
    watchdogTimer := some 1, substituteTimer := some 2, weatherTimer := some 1
    gangs := ((List.replicate 8 none).set 0 (some { gangIn .prewarn with prewarnLeft := some 1 })).set 7
      (some { gangIn .prewarn with prewarnLeft := some 2 })
    press := .debounce, pressTime := 59
    lines := [{ demand := .own, time := 124, level := true }, { demand := .fast, time := 249, level := false },
      LineGen.take .steady, offLine] }
theorem witness_IdleStepIsOneMillisecond :
    idling.pending = [] ∧ idling.watchdogTimer = some 1 ∧ idling.substituteTimer = some 2 ∧
    idling.weatherTimer = some 1 ∧ (idling.gang 0).map (fun r => r.prewarnLeft) = some (some 1) ∧
    (idling.gang 7).map (fun r => r.prewarnLeft) = some (some 2) ∧ idling.press = .debounce ∧
    60 ≤ idling.pressTime + 1 ∧ idling.lines[1]?.map (fun l => l.demand) = some .fast := by decide
theorem witness_IdleStepIsOneMillisecond_armed :
    let s := { idling with press := .armed, pressTime := 2999, longTime := 3000 }
    s.pending = [] ∧ s.press = .armed ∧ s.longTime ≤ s.pressTime + 1 ∧ { s with press := .long }.press = .long := by decide
/-- A bridge that runs and one in reset; a level of HOLDn not seen before. -/
theorem witness_IdleStepIsOneMillisecond_sample :
    idling.inReset = false ∧ ({ State.reset with inReset := true } : State).pending = [] ∧
    ({ on .idle with holdnLow := true } : State).press = .released ∧ idling.holdnLow = false ∧
    idling.press ≠ .released := by decide

/-- Stopped timers, places without a record, and the presses that run no time. -/
theorem witness_IdleStepIsOneMillisecond_stopped :
    State.reset.watchdogTimer = none ∧ State.reset.substituteTimer = none ∧ State.reset.weatherTimer = none ∧
    idling.gang 6 = none ∧ State.reset.press ≠ .debounce ∧ idling.press ≠ .armed := by decide

theorem witness_ColdResetLeavesResetValues :
    (ResetCause.resetnLow 10 = .powerOn ∨ ∃ n, ResetCause.resetnLow 10 = .resetnLow n ∧ 10 ≤ n) ∧ (9 : Nat) < 10 ∧
    (on .idle).inReset = false ∧ ({ State.reset with inReset := true } : State).inReset = true ∧
    ∀ cause release, Instr.warmRestart ≠ .coldReset cause release :=
  ⟨.inr ⟨10, rfl, Nat.le_refl _⟩, by decide, rfl, rfl, nofun⟩

theorem witness_BadFrameSetsFlagOfFirstFailedCheck_sync :
    Receives (rx .upstream (on .idle)) .upstream [0x5A] [0x5A] ∧ ([0x5A] : Frame).length < 2 ∧
    Receives (rx .downstream (on .idle)) .downstream [0x5A, 0xA4] [0x5A, 0xA4] ∧
    u8 [0x5A, 0xA4] 1 ≠ ~~~(u8 [0x5A, 0xA4] 0) :=
  ⟨receives_rx _ _ _, by decide, receives_rx _ _ _, by decide⟩
theorem witness_BadFrameSetsFlagOfFirstFailedCheck_length :
    Receives (rx .upstream (on .idle)) .upstream [0x5A, 0xA5, 0x11, 0, 0] [0x5A, 0xA5, 0x11, 0, 0] ∧
    ¬(([0x5A, 0xA5, 0x11, 0, 0] : Frame).length < 2 ∨ u8 [0x5A, 0xA5] 1 ≠ ~~~(u8 [0x5A, 0xA5] 0)) ∧
    ([0x5A, 0xA5, 0x11, 0, 0] : Frame).length < 6 :=
  ⟨receives_rx _ _ _, by decide, by decide⟩
/-- A frame whose trailer is wrong, where the active row turns the check off. -/
theorem witness_BadFrameSetsFlagOfFirstFailedCheck_good :
    let f := frame 0x11 [3]
    (on .idle).bankPresent = true ∧ (on .idle).active.config.options.getLsbD 0 = false ∧
    (on .idle).active.config.options.getLsbD 1 = false ∧ ¬(f.length < 2 ∨ u8 f 1 ≠ ~~~(u8 f 0)) ∧
    ¬(f.length < 6 ∨ (u8 f 3).toNat ≠ f.length - 6) ∧
    linkCrc ((f.drop 2).take (f.length - 4)) ≠ u16 f (f.length - 2) := by decide +kernel
/-- While no bank is active the CRC is checked; this trailer is wrong. -/
theorem witness_BadFrameSetsFlagOfFirstFailedCheck_crc :
    let f := frame 0x11 [3]
    Receives (rx .upstream State.reset) .upstream f f ∧ ¬(f.length < 2 ∨ u8 f 1 ≠ ~~~(u8 f 0)) ∧
    ¬(f.length < 6 ∨ (u8 f 3).toNat ≠ f.length - 6) ∧ (rx .upstream State.reset).bankPresent = false ∧
    linkCrc ((f.drop 2).take (f.length - 4)) ≠ u16 f (f.length - 2) :=
  ⟨receives_rx _ _ _, by decide, by decide, rfl, by decide +kernel⟩

theorem witness_UnknownOrMisfittingFrameIsDropped_kind :
    let f := frame 0x77 [3]
    Receives (rx .upstream (on .idle)) .upstream f f ∧
    failedCheck (crcCheckOn (rx .upstream (on .idle)) .upstream) f = none ∧
    u8 f 2 ∉ [0x11#8, 0x21, 0x22, 0x31, 0x32, 0x41, 0x42, 0x43, 0x51] ∧
    framePayload (frame 0x11 []) = [] ∧ (framePayload (frame 0x41 [1])).length = 1 :=
  ⟨receives_rx _ _ _, by decide, by decide, by decide, by decide⟩
/-- A SETPOINT for S with 65 slots promised, a FEEDBACK of S one byte short, a MGMT-REQ without a command. -/
theorem witness_UnknownOrMisfittingFrameIsDropped_fit :
    (GoodFrame (rx .upstream (on .idle)) .upstream (frame 0x11 [3, 0, 0, 65]) .setpoint ∧
      Misfit .setpoint (framePayload (frame 0x11 [3, 0, 0, 65])) ∧
      ¬ForManagement (rx .upstream (on .idle)) .setpoint (framePayload (frame 0x11 [3, 0, 0, 65])) ∧
      u8 (framePayload (frame 0x11 [3, 0, 0, 65])) 0 = (rx .upstream (on .idle)).config.segment) ∧
    (GoodFrame (rx .downstream (on .idle)) .downstream (frame 0x21 [3, 0, 0, 0, 0, 0, 0, 0, 0, 0, 0]) .feedback ∧
      Misfit .feedback (framePayload (frame 0x21 [3, 0, 0, 0, 0, 0, 0, 0, 0, 0, 0]))) ∧
    (GoodFrame (rx .upstream (on .idle)) .upstream (frame 0x41 [1, 126, 7]) .mgmtReq ∧
      ForManagement (rx .upstream (on .idle)) .mgmtReq (framePayload (frame 0x41 [1, 126, 7])) ∧
      Misfit .mgmtReq (framePayload (frame 0x41 [1, 126, 7]))) := by decide

/-- A MGMT-REQ for node 126 without a command, to a bridge with no bank active. -/
theorem witness_UnknownOrMisfittingFrameIsDropped_unconfigured :
    let f := buildFrame .mgmtReq [1, 126, 7]
    Receives (rx .upstream State.reset) .upstream f f ∧ GoodFrame (rx .upstream State.reset) .upstream f .mgmtReq ∧
    (rx .upstream State.reset).bankPresent = false ∧ u8 (framePayload f) 1 = 126 ∧ (framePayload f).length < 4 :=
  ⟨receives_rx _ _ _, by decide +kernel, rfl, by decide +kernel, by decide +kernel⟩

/-- Transit at both ends of the range 4 to 5; a STATUS, and a FEEDBACK of another segment; a downward kind from below. -/
theorem witness_FramesAreForwardedUnchangedOrIgnored_forwarded :
    (∀ g ∈ [4#8, 5], GoodFrame (rx .upstream (on .idle)) .upstream (setpoint g 10 0) .setpoint ∧
      ¬ForManagement (rx .upstream (on .idle)) .setpoint (framePayload (setpoint g 10 0)) ∧
      3 < (u8 (framePayload (setpoint g 10 0)) 0).toNat ∧ (u8 (framePayload (setpoint g 10 0)) 0).toNat ≤ 5) ∧
    GoodFrame (rx .downstream (on .idle)) .downstream (frame 0x43 [4]) .status ∧
    GoodFrame (rx .downstream (on .idle)) .downstream (frame 0x21 [4]) .feedback ∧
    u8 (framePayload (frame 0x21 [4])) 0 ≠ (rx .downstream (on .idle)).config.segment ∧
    GoodFrame (rx .downstream (on .idle)) .downstream (frame 0x31 [3]) .paramReq := by decide
/-- Segments 2 and 6 beside the range 3 to 5, a FEEDBACK for S from above, and a FEEDBACK while no bank is active. -/
theorem witness_FramesAreForwardedUnchangedOrIgnored_ignored :
    (∀ g ∈ [2#8, 6], GoodFrame (rx .upstream (on .idle)) .upstream (setpoint g 10 0) .setpoint ∧
      ¬ForManagement (rx .upstream (on .idle)) .setpoint (framePayload (setpoint g 10 0)) ∧
      u8 (framePayload (setpoint g 10 0)) 0 ≠ (rx .upstream (on .idle)).config.segment) ∧
    GoodFrame (rx .upstream (on .idle)) .upstream (frame 0x21 [3]) .feedback ∧
    u8 (framePayload (frame 0x21 [3])) 0 = (rx .upstream (on .idle)).config.segment ∧
    GoodFrame (rx .upstream State.reset) .upstream (buildFrame .feedback [3]) .feedback := by decide +kernel

/-- While no bank is active: a SETPOINT for another segment than the waiting bank's, and a MGMT-REQ for node 10. -/
theorem witness_FramesAreForwardedUnchangedOrIgnored_unconfigured :
    let s := rx .upstream { State.reset with pendingBank := bank0, pendingState := .readyToSwap }
    let f := buildFrame .setpoint (framePayload (setpoint 4 10 0))
    let m := buildFrame .mgmtReq [3, 10, 7, 14]
    s.bankPresent = false ∧ GoodFrame s .upstream f .setpoint ∧
    u8 (framePayload f) 0 ≠ s.pendingBank.config.segment ∧ GoodFrame s .upstream m .mgmtReq ∧
    u8 (framePayload m) 1 ≠ 126 := by decide +kernel

theorem witness_PortsAndQueuesTakeAndLose_queues :
    ({ State.reset with up := { resetPort with queue := List.replicate 15 [] } } : State).up.queue.length < 16 ∧
    16 ≤ ({ State.reset with down := { resetPort with queue := List.replicate 16 [] } } : State).down.queue.length ∧
    State.reset.events.length < 32 ∧
    32 ≤ ({ State.reset with
      events := List.replicate 32 { source := .bridge, code := 0xF001, gang := none, data := none, cycle := 0 } } : State
      ).events.length := by decide

theorem witness_PortsAndQueuesTakeAndLose :
    ((on .idle).port .upstream).rx = .idle ∧ ((rx .downstream (on .idle)).port .downstream).rx ≠ .idle ∧
    (({ on .idle with up := { resetPort with queue := [[1], [2]] } } : State).port .upstream).queue = [1] :: [[2]] ∧
    ((on .idle).port .downstream).queue = [] := by decide

/-- The bridge with a bank active and every invariant met, whatever runs. -/
theorem witness_Shaped : (on .cruise).Shaped ∧ (on .cruise).active.Shaped ∧ (on .cruise).pendingBank.Shaped := by decide
theorem witness_QueuesBounded : (on .cruise).QueuesBounded := by decide
theorem witness_WatchdogSound : (on .cruise).WatchdogSound := by decide
theorem witness_WatchdogHolds : (on .cruise).WatchdogHolds := by decide
theorem witness_GangsSound : (on .cruise).GangsSound := by decide
theorem witness_AxesInRange : (on .cruise).AxesInRange := by decide
theorem witness_OperatorSound : (on .cruise).OperatorSound := by decide
theorem witness_BanksSound : (on .cruise).BanksSound := by decide
theorem witness_Unconfigured : (on .cruise).Unconfigured := by decide
theorem witness_WeatherSound : (on .cruise).WeatherSound :=
  ⟨by decide, nofun, by decide, fun _ => ⟨3000, rfl, Nat.le_refl _⟩⟩
theorem witness_PointersSound :
    ({ on .cruise with highPtr := .row 63, lowPtr := some 63 } : State).PointersSound :=
  ⟨fun _ h => by cases h; decide, fun _ h => by cases h; decide⟩
theorem witness_DueSound :
    ({ waitingFor (setpoint 3 10 0) (on .cruise) with due := [.restart none], frameClass := some 3 } : State).DueSound :=
  fun _ => nofun
theorem witness_FaultnSound : (on .cruise).FaultnSound :=
  ⟨fun h => absurd h (by decide), fun ⟨k, _, h, _⟩ => absurd h (by simp [on])⟩
/-- A gang in HOLDING with a cause while the watchdog is SUBSTITUTING, and the operator's mark. -/
theorem witness_invariants_held :
    let r := ((gangIn .cruise).addHold .watchdog).addHold .operator
    let s := { on .held with
      gangs := (List.replicate 8 none).set 7 (some r), flags := 0x000080, faultnLow := true
      watchdog := .substituting, watchdogTimer := none, substituteTimer := some 10, operatorHold := true }
    s.GangsSound ∧ s.WatchdogSound ∧ s.WatchdogHolds ∧ s.OperatorSound ∧ s.flag .watchdog = true := by decide
/-- A full deferred table with one request in flight. -/
def fullTable : State :=
  { on .idle with deferred :=
      ((List.range 7).map fun i =>
        { key := { readKey with subindex := byteOf i }, status := .complete .ok none (i + 1) }) ++
      [{ key := writeKey, status := .readbackSent 8 }] }
theorem witness_DeferredSound : fullTable.DeferredSound ∧ fullTable.deferred.length = 8 := by
  refine ⟨⟨by decide, by decide, ?_⟩, by decide⟩
  intro e he
  simp only [fullTable, List.mem_append, List.mem_map, List.mem_range, List.mem_singleton] at he
  rcases he with ⟨i, hi, rfl⟩ | rfl
  · exact ⟨by omega, by omega⟩
  · exact Nat.le_refl 8
/-- A step of a state that meets the invariants. -/
theorem witness_step : ∃ t, step { on .cruise with pending := [.weatherTimerExpiry] } = .next t := ⟨_, rfl⟩
/-- A step of an idle queue. -/
theorem witness_step_idle : ∃ t, step (on .cruise) = .next t := ⟨_, rfl⟩

/-- CLEAR FLAGS clears a flag. -/
theorem witness_StickyFlagsFallOnlyByClearOrRestart :
    ∃ t, exec (.clearFlags (mgmt 0x09 [0, 0, 0, 0x40])) (rx .upstream { on .idle with flags := 0x40 }) = .next t ∧
      (rx .upstream { on .idle with flags := 0x40 }).flag .frameKind = true ∧ t.flag .frameKind = false :=
  ⟨_, rfl, by decide, by decide⟩

theorem witness_SetpointArrivalKicksAndWaits :
    Receives (rx .upstream (on .idle)) .upstream (setpoint 3 10 0) (setpoint 3 10 0) ∧
    classify (rx .upstream (on .idle)) .upstream (setpoint 3 10 0) = .localSetpoint :=
  ⟨receives_rx _ _ _, by decide⟩

/-- Four frames wait already, substitute cycles run, and a frame that makes the swap of an unconfigured bridge. -/
theorem witness_SetpointArrivalKicksAndWaits_cases :
    (let s := rx .upstream { on .idle with
       waiting := List.replicate 4 { origin := .substitute, bytes := [] }
       watchdog := .substituting, watchdogTimer := none, substituteTimer := some 10 }
     classify s .upstream (setpoint 3 10 0) = .localSetpoint ∧ s.waiting.length = 4 ∧ s.watchdog = .substituting) ∧
    (let s := rx .upstream { State.reset with pendingBank := bank0, pendingState := .readyToSwap }
     s.bankPresent = false ∧ s.waiting.length < 4 ∧
     classify s .upstream (buildFrame .setpoint (framePayload (setpoint 3 10 0))) = .localSetpoint) := by decide +kernel

/-- Frames of each class with a bank active and with none. -/
theorem witness_FrameClassesAreThoseOfTheRoute :
    (on .idle).bankPresent = true ∧ classify (on .idle) .upstream (setpoint 3 10 0) = .localSetpoint ∧
    classify (on .idle) .upstream (frame 0x31 [3, 10, 0, 0, 0, 1]) = .paramReq ∧
    classify (on .idle) .upstream (mgmt 0 []) = .management ∧
    classify (on .idle) .downstream (feedback 10 0 0 0 0) = .feedback ∧
    classify (on .idle) .downstream (frame 0x51 [3, 120, 0, 0, 0, 0]) = .weather ∧
    classify (on .idle) .downstream (frame 0x22 [3, 10, 0, 0]) = .event ∧
    classify (on .idle) .downstream (response readKey 0 0 none) = .paramRsp ∧
    State.reset.bankPresent = false ∧
    classify State.reset .upstream (buildFrame .mgmtReq [1, 126, 7, 14]) = .management ∧
    classify State.reset .downstream (buildFrame .feedback [3]) = .upstreamBound := by decide +kernel

theorem witness_WatchdogExpiryHoldsGangsAndSubstitutes :
    ({ on .idle with watchdogTimer := some 0 } : State).watchdogTimer = some 0 ∧ (on .idle).watchdog = .running ∧
    (on .idle).watchdogTimer ≠ some 0 ∧ ({ on .idle with watchdog := .latched } : State).watchdog ≠ .running ∧
    (let s := { on .idle with watchdog := .substituting, watchdogTimer := none, substituteTimer := some 0 }
     s.watchdog = .substituting ∧ s.substituteTimer = some 0) ∧
    (on .idle).watchdog ≠ .substituting := by decide

theorem witness_ClearFlagsClearsWhatMayBeCleared :
    ManagementArrives (rx .upstream (on .idle)) (mgmt 0x09 [0, 0, 0, 0xC0]) (mgmt 0x09 [0, 0, 0, 0xC0]) 0x09
      [0, 0, 0, 0xC0] := arrives_mgmt _ _ _ (by decide) (by decide) (by decide)
/-- A mask that names every flag, while substitute cycles run, an axis is stale and the weather is stale. -/
theorem witness_ClearFlagsClearsWhatMayBeCleared_exceptions :
    let s := rx .upstream { on .idle with
      flags := 0x101080, watchdog := .substituting, watchdogTimer := none
      axes := (on .idle).axes.set 1 (some { axisAt 100 with stale := true })
      weatherStale := true, weatherTimer := none, windClass := 3 }
    ManagementArrives s (mgmt 0x09 [0xFF, 0xFF, 0xFF, 0xFF]) (mgmt 0x09 [0xFF, 0xFF, 0xFF, 0xFF]) 0x09
      [0xFF, 0xFF, 0xFF, 0xFF] ∧
    (s.flag .watchdog && s.flag .stale && s.flag .weatherStale) = true ∧ s.watchdog = .substituting ∧
    s.anyAxisStale = true ∧ s.weatherStale = true ∧
    (after (.clearFlags (mgmt 0x09 [0xFF, 0xFF, 0xFF, 0xFF])) s).flags = 0x101080 :=
  ⟨arrives_mgmt _ _ _ (by decide) (by decide) (by decide), by decide, rfl, by decide, rfl, by decide +kernel⟩

theorem witness_StatusPayloadHasItsLayout :
    (List.replicate 2 ({ source := .bridge, code := 0xF001, gang := some 7, data := none, cycle := 0 } : EventRecord)
      ).length ≤ 2 := by decide

/-- A travelling gang with one cause of another kind, and a tripped one. -/
theorem witness_HoldAndTripCausesActAtTheirEvent :
    (∃ r, (on .prewarn).gang 0 = some r ∧ r.holds.has .command = false ∧ r.state ∈ [GangState.idle, .prewarn]) ∧
    (∃ r, (on .settle).gang 0 = some r ∧ r.state ∈ [GangState.breakaway, .cruise, .approach, .settle] ∧
      r.state ≠ .tripped) ∧
    (∃ r, (on .tripped).gang 0 = some r ∧ r.state = .tripped) ∧
    ((gangIn .cruise).addHold .wind).holds.has .wind = true ∧ (on .idle).gang 7 = none :=
  ⟨⟨_, rfl, by decide, by decide⟩, ⟨_, rfl, by decide, by decide⟩, ⟨_, rfl, rfl⟩, by decide, by decide⟩

theorem witness_GangHoldAndReleaseActOnTheNamedGang :
    ManagementArrives (rx .upstream (on .idle)) (mgmt 0x06 [0]) (mgmt 0x06 [0]) 0x06 [0] ∧
    ManagementArrives (rx .upstream (on .idle)) (mgmt 0x07 [8]) (mgmt 0x07 [8]) 0x07 [8] :=
  ⟨arrives_mgmt _ _ _ (by decide) (by decide) (by decide), arrives_mgmt _ _ _ (by decide) (by decide) (by decide)⟩

/-- CLEAR TRIP of a gang without a record, of a travelling one, of a tripped one, and of a tripped one with a member at
the envelope bound plus K plus 1. -/
theorem witness_ClearTripReleasesOrRefuses :
    ManagementArrives (rx .upstream (on .tripped)) (mgmt 0x08 [0]) (mgmt 0x08 [0]) 0x08 [0] ∧
    ManagementArrives (rx .upstream (on .idle)) (mgmt 0x08 [7]) (mgmt 0x08 [7]) 0x08 [7] ∧
    (rx .upstream (on .idle)).gang 7 = none ∧ (rx .upstream (on .tripped)).gang 0 = some (gangIn .tripped) ∧
    (let s := rx .upstream { on .tripped with axes := (on .tripped).axes.set 1 (some (axisAt 100501)) }
     1 ∈ s.members 0 ∧ s.axis 1 = some (axisAt 100501) ∧
      (s.gangRow 0).high + (s.gangRow 0).skewLimit < (axisAt 100501).position) :=
  ⟨arrives_mgmt _ _ _ (by decide) (by decide) (by decide), arrives_mgmt _ _ _ (by decide) (by decide) (by decide),
    rfl, rfl, by decide⟩

/-- A held gang that a frame of zeros takes to IDLE, and a tripped one that CLEAR TRIP takes to HELD. -/
theorem witness_HeldAndTrippedAreLeftOnlyAsStated :
    (∃ t, exec .localSetpointProcessing (waitingFor (setpoint 3 10 0) (on .held)) = .next t ∧
      (waitingFor (setpoint 3 10 0) (on .held)).gangState 0 = some .held ∧ t.gangState 0 = some .idle) ∧
    (∃ t, exec (.clearTrip (mgmt 0x08 [0])) (rx .upstream (on .tripped)) = .next t ∧
      (rx .upstream (on .tripped)).gangState 0 = some .tripped ∧ t.gangState 0 = some .held) :=
  ⟨⟨after .localSetpointProcessing (waitingFor (setpoint 3 10 0) (on .held)), rfl, by decide +kernel, by decide +kernel⟩,
    ⟨after (.clearTrip (mgmt 0x08 [0])) (rx .upstream (on .tripped)), rfl, by decide +kernel, by decide +kernel⟩⟩

/-- The processing of one frame for a cruising gang. -/
def cruising : State := waitingFor (setpoint 3 10 1000) (on .cruise)
theorem witness_Processes : ∃ w rest, Processes cruising w rest ∧ ¬Misfit .setpoint (framePayload w.bytes) :=
  ⟨_, _, ⟨rfl, rfl, by decide, rfl⟩, by decide⟩
/-- A frame for S at which a bank waits that keeps S. -/
def swapping : State :=
  { cruising with pendingBank := bank0, pendingState := .readyToSwap, pendingCrc := some 0x55AA }
/-- The same on a bridge with no bank active, and a substitute frame. -/
theorem witness_ProcessesSwapping :
    (∃ w rest, ProcessesSwapping swapping w rest) ∧
    (∃ w rest, ProcessesSwapping
      { waitingFor (setpoint 3 10 1000) State.reset with
        pendingBank := bank0, pendingState := .readyToSwap, pendingCrc := some 0x55AA } w rest) ∧
    (∃ w rest, ProcessesSwapping
      { swapping with waiting := [{ origin := .substitute, bytes := setpoint 3 10 0 }] } w rest) :=
  ⟨⟨_, _, ⟨rfl, rfl, rfl, by decide, rfl, fun _ => rfl, nofun⟩⟩, ⟨_, _, ⟨rfl, rfl, rfl, by decide, rfl, nofun, fun _ => nofun⟩⟩,
    ⟨_, _, ⟨rfl, rfl, rfl, by decide, rfl, fun _ => rfl, nofun⟩⟩⟩
theorem witness_ProcessingLeavesSkewWithinTripLimit :
    cruising.refresh = none ∧ cruising.freshMembers 0 ≠ [] ∧ (cruising.freshMembers 1).length < 2 ∧
    ∃ t, exec .localSetpointProcessing cruising = .next t ∧
      (t.gang 0).map (fun r => (r.state, r.recovery)) = some (.cruise, none) :=
  ⟨rfl, by decide, by decide, after .localSetpointProcessing cruising, rfl, by decide +kernel⟩
theorem witness_ProcessingLeavesSkewWithinTripLimit_swap :
    swapping.refresh = none ∧
    ∃ t, exec .localSetpointProcessing swapping = .next t ∧
      (t.gang 0).map (fun r => (r.state, r.recovery)) = some (.held, none) ∧
      CarriesAxis t.active (framePayload (setpoint 3 10 1000)) 0 ∧ (t.forward 0).isSome = true :=
  ⟨rfl, after .localSetpointProcessing swapping, rfl, by decide +kernel,
    ⟨0, by decide, by decide, by decide +kernel⟩, by decide +kernel⟩
/-- What the skew pass leaves of gang 0, from a record and the positions of its two members. -/
def measuredAt (a b : Int) (r : GangRec) : Option (GangState × Option TripCause × Option Nat) :=
  ((skewPass { on .cruise with
    axes := ((List.replicate 64 none).set 0 (some (axisAt a))).set 1 (some (axisAt b))
    gangs := (List.replicate 8 none).set 0 (some r) }).gang 0).map fun r => (r.state, r.firstTrip, r.recovery)
/-- A gang in RECOVERY with a recovery skew of 600. -/
def recovering : GangRec := { gangIn .cruise with recovery := some 600 }
/-- Gang 0 with K 500 and B 100, its two members a skew apart: at K and above, and, with a recovery skew of 600, at its
threshold of 625 and above; a member at the envelope plus K and beyond it. -/
theorem witness_ProcessingLeavesSkewWithinTripLimit_tests :
    ((measuredAt 0 500 (gangIn .cruise)) = some (.cruise, none, none) ∧
      (measuredAt 0 501 (gangIn .cruise)) = some (.tripped, some .skew, none)) ∧
    ((measuredAt 0 500 recovering) = some (.cruise, none, none) ∧
      (measuredAt 0 625 recovering) = some (.cruise, none, some 600) ∧
      (measuredAt 0 626 recovering) = some (.tripped, some .skew, none)) ∧
    ((measuredAt 100500 100500 (gangIn .cruise)) = some (.cruise, none, none) ∧
      (measuredAt 100500 100501 (gangIn .cruise)) = some (.tripped, some .overtravel, none)) ∧
    (measuredAt 100000 100501 (gangIn .cruise)) = some (.tripped, some .skew, none) :=
  ⟨⟨by decide, by decide⟩, ⟨by decide, by decide, by decide⟩, ⟨by decide, by decide⟩, by decide⟩
theorem witness_ProcessingForwardsWithinCruiseCeiling :
    CarriesAxis cruising.active (framePayload (setpoint 3 10 1000)) 0 ∧
    ∃ t, exec .localSetpointProcessing cruising = .next t ∧ (t.forward 0).isSome = true ∧
      (t.gang (cruising.active.axisRow 0).gang.toNat).isSome = true :=
  ⟨⟨0, by decide, by decide, by decide⟩, after .localSetpointProcessing cruising, rfl, by decide +kernel,
    by decide +kernel⟩
/-- A held gang with a demand stays held; a refresh forwards zero too. -/
theorem witness_ProcessingForwardsWithinCruiseCeiling_zero :
    (∃ t, exec .localSetpointProcessing (waitingFor (setpoint 3 10 1000) (on .held)) = .next t ∧
      t.gangState 0 = some .held) ∧
    ({ cruising with refresh := some bank0 } : State).refresh.isSome = true :=
  ⟨⟨after .localSetpointProcessing (waitingFor (setpoint 3 10 1000) (on .held)), rfl, by decide +kernel⟩, rfl⟩
theorem witness_ProcessingHandsFrameThenStatus :
    cruising.down.queue.length ≤ 14 ∧ cruising.up.queue.length ≤ 15 ∧
    ({ cruising with down := { resetPort with queue := List.replicate 14 [] } } : State).down.queue.length ≤ 14 ∧
    ({ cruising with up := { resetPort with queue := List.replicate 15 [] } } : State).up.queue.length ≤ 15 := by decide
/-- Two of three records leave with the STATUS. -/
theorem witness_ProcessingHandsFrameThenStatus_records :
    let record := fun (n : Half) =>
      ({ source := .node 10, code := n, gang := none, data := none, cycle := 0 } : EventRecord)
    (after .localSetpointProcessing { cruising with events := [record 1, record 2, record 3] }).events = [record 3] := by
  decide +kernel

/-- A bridge in each state with both axes fresh, records of the whole table, and members of gang 0. -/
theorem witness_StatePassTakesOneStepPerGang :
    (∀ st ∈ [GangState.idle, .prewarn, .breakaway, .cruise, .approach, .settle, .holding, .held, .tripped],
      (on st).Shaped ∧ (on st).gang 0 = some (gangIn st)) ∧
    (on .idle).members 0 = [0, 1] ∧ cruising.refresh = none ∧
    (∀ i ∈ (on .idle).members 0, (on .idle).axisDemand (slotsOf (framePayload (setpoint 3 10 0))) i = 0) ∧
    (on .idle).axisDemand (slotsOf (framePayload (setpoint 3 10 1000))) 0 ≠ 0 := by decide
/-- A raw demand of -32,768 in the first of two slots of node 10, none for node 11, and rows of nodes 0 and 127. -/
theorem witness_StatePassTakesOneStepPerGang_demand :
    let slot := fun (raw : Half) => ({ node := 10, enable := true, quickstop := false, raw := raw } : Slot)
    let slots := [slot 0x8000, slot 5]
    slots[0]? = some (slot 0x8000) ∧ ((on .idle).active.axisRow 0).node = 10 ∧ (slot 0x8000).raw.toInt = -32768 ∧
    (on .idle).axisDemand slots 0 = -32767 ∧ (on .idle).axisDemand [slot 5] 0 = 5 ∧
    (∀ sl ∈ slots, sl.node ≠ ((on .idle).active.axisRow 1).node) ∧
    (∀ n ∈ [0#8, 127],
      ({ on .idle with active := { bank0 with axes := bank0.axes.set 0 { flags := 0x19, node := n, gang := 0, offset := 5 } } }
        : State).active.axisRow 0 = { flags := 0x19, node := n, gang := 0, offset := 5 }) := by decide
/-- PREWARN_DONE, a direction, start positions at and below the breakaway distance of 10, and a member in motion. -/
theorem witness_StatePassTakesOneStepPerGang_cases :
    ({ gangIn .prewarn with prewarnDone := true, direction := 1 } : GangRec).prewarnDone = true ∧
    (∀ start ∈ [(90 : Int), 91],
      ({ on .breakaway with axes := (on .breakaway).axes.set 0 (some { axisAt 100 with start := some start }) } : State).brokenAway 0 =
        decide (start = 90)) ∧
    (on .settle).atRest 0 = true ∧
    (∀ fromRest, ({ on .settle with
        forwards := (on .settle).forwards.set 0 (some { ForwardRec.cleared with velocity := 5, fromRest := fromRest }) } : State
      ).atRest 0 = fromRest) ∧
    ({ on .settle with axes := (on .settle).axes.set 0 (some { axisAt 100 with velocity := 6 }) } : State).atRest 0 = false ∧
    ({ on .cruise with active := { bank0 with gangs := bank0.gangs.set 0 { gangRow0 with prewarn := 0 } } } : State
      ).gangRow 0 = { gangRow0 with prewarn := 0 } := by decide
/-- Slots of each class: node 10 twice, node 99 of no row; a refreshing frame too. -/
theorem witness_RewrittenSlotsFollowTheirClass :
    (∃ w rest, Processes (waitingFor threeSlots (on .cruise)) w rest ∧ ¬Misfit .setpoint (framePayload w.bytes) ∧
      (u8 (framePayload w.bytes) 3).toNat = 3) ∧
    (on .cruise).active.axisOfNode 10 = some 0 ∧ (on .cruise).active.axisOfNode 99 = none ∧
    (on .cruise).forward 0 = some ForwardRec.cleared ∧ (on .cruise).down.queue.length ≤ 14 ∧
    ¬CarriesAxis (on .cruise).active (framePayload threeSlots) 1 ∧
    (on .cruise).events.length + (slotsOf (framePayload threeSlots)).length ≤ 32 :=
  ⟨⟨_, _, ⟨rfl, rfl, by decide, rfl⟩, by decide, by decide⟩, by decide, by decide, rfl, by decide, by
    rintro ⟨k, hk, -, h⟩
    have hk' : k < 3 := hk
    match k, hk' with
    | 0, _ => exact absurd h (by decide)
    | 1, _ => exact absurd h (by decide)
    | 2, _ => exact absurd h (by decide), by decide⟩
/-- The node of the two rows, and the gang with a record when the passes are made. -/
theorem witness_RewrittenSlotsFollowTheirClass_decided :
    within 1 126 (u8 (framePayload threeSlots) 20).toNat = true ∧
    (let s := waitingFor threeSlots (on .cruise)
     let passed := gangPasses (slotsOf (framePayload threeSlots)) (freshnessStep { s with waiting := [], lastCycle := 9, draws := 1 })
     (passed.gang (s.active.axisRow 0).gang.toNat).isSome = true) := by decide +kernel

theorem witness_PrewarnAndFlashPointsActAlone :
    (∀ left ∈ [none, some 0, some 1],
      ({ on .prewarn with gangs := (on .prewarn).gangs.set 0 (some { gangIn .prewarn with prewarnLeft := left }) } : State
        ).gang 0 = some { gangIn .prewarn with prewarnLeft := left }) ∧
    (∃ l, idling.lines[0]? = some l ∧ l.demand = .own ∧ l.time < 125 ∧
      (idling.config.line 0).periodMs * (idling.config.line 0).duty.toNat / 8 = 125 ∧ (idling.config.line 0).periodMs = 250) ∧
    (∃ l, idling.lines[1]? = some l ∧ l.demand = .fast ∧ 125 ≤ l.time ∧ l.time < 250) ∧
    (∃ l, idling.lines[2]? = some l ∧ l.demand = .steady) ∧ (∃ l, idling.lines[3]? = some l ∧ l.demand = .off) ∧
    ({ demand := .fast, time := 250, level := false } : LineGen).time = 250 ∧
    ({ mask := 1, period := 0, duty := 8 } : LineRow).periodMs ≤ ({ mask := 1, period := 0, duty := 8 } : LineRow).periodMs * 8 / 8 :=
  ⟨by decide, ⟨_, rfl, rfl, by decide, by decide, by decide⟩, ⟨_, rfl, rfl, by decide, by decide⟩, ⟨_, rfl, rfl⟩,
    ⟨_, rfl, rfl⟩, by decide, by decide⟩

/-- Last velocities at the cruise ceiling both ways; a demand against the direction, with it, and none. -/
theorem witness_DecidedVelocityFollowsItsSteps :
    -((on .cruise).gangRow 0).cruise ≤ -1000 ∧ (1000 : Int) ≤ ((on .cruise).gangRow 0).cruise ∧
    (gangIn .holding).state = .holding ∧ (1 : Int) * -5 < 0 ∧ (1 : Int) ≠ 0 ∧ (0 : Int) ≤ 1 * 5 ∧
    ((on .cruise).gangRow 0).approachDistance = 1000 ∧ (on .cruise).isFresh 2 = false ∧
    (on .cruise).isFresh 0 = true ∧ 0 ∈ (on .cruise).members 0 ∧ ((on .cruise).gangRow 0).band ≠ 0 ∧
    (on .cruise).axis 0 = some (axisAt 100) := by decide

/-- A bank that waits for the swap, with and without an active one; a new S the old frame is transit for, and one it is
not; a substitute frame. -/
theorem witness_SwapExchangesBanksAndMakesWeatherStale :
    (swapping.waiting = { origin := .controller 40, bytes := setpoint 3 10 1000 } :: [] ∧ swapping.Shaped ∧
      swapping.pendingState = .readyToSwap ∧ swapping.due = [] ∧
      ¬Misfit .setpoint (framePayload (setpoint 3 10 1000))) ∧
    u8 (framePayload (setpoint 3 10 1000)) 0 =
      (if swapping.bankPresent then swapping.active.config.segment else swapping.pendingBank.config.segment) ∧
    ({ State.reset with pendingBank := bank0 } : State).pendingBank.config.segment =
      u8 (framePayload (setpoint 3 10 1000)) 0 ∧
    (let new := { bank0.config with segment := 2 }
     new.segment.toNat < 3 ∧ 3 ≤ new.subordinate.toNat) ∧
    (let new := { bank0.config with segment := 4 }
     3 < new.segment.toNat) ∧
    ({ swapping with waiting := [{ origin := .substitute, bytes := [] }] } : State).waiting =
      { origin := .substitute, bytes := [] } :: [] := by decide
/-- A swap that keeps gang 0 and axis 0, makes gang 1 valid anew, drops axis 1, and moves axis 0 to gang 1. -/
def bank1 : Bank :=
  { bank0 with
    axes := (List.replicate 64 invalidAxis).set 0 { flags := 0x19, node := 10, gang := 1, offset := 6 }
    config := { bank0.config with segment := 4, options := 0x00, warn0 := { mask := 2, period := 0, duty := 4 } } }
theorem witness_SwapBringsRecordsIntoLine :
    let s := { swapping with pendingBank := bank1 }
    s.Shaped ∧ (bank1.gangRow 0).valid = true ∧ s.gang 0 = some (gangIn .cruise) ∧ (bank1.gangRow 1).valid = true ∧
    s.gang 1 = none ∧ (bank1.gangRow 2).valid = false ∧ (bank1.axisRow 1).valid = false ∧
    (s.active.axisRow 0).node = (bank1.axisRow 0).node ∧ s.axis 0 = some (axisAt 100) ∧
    s.forward 0 = some ForwardRec.cleared ∧ s.watchdog = .running ∧ bank1.config.watchdogEnabled = false ∧
    s.active.config.line 0 ≠ bank1.config.line 0 ∧ s.lines[0]? = some offLine := by decide
/-- The fourth state of the watchdog, and a latched and a stopped one. -/
theorem witness_SwapBringsRecordsIntoLine_watchdog :
    ({ swapping with watchdog := .latched } : State).watchdog = .latched ∧
    ({ swapping with watchdog := .stopped, flags := 0x80 } : State).flag .watchdog = true ∧
    swapping.flag .watchdog = false ∧ swapping.pendingBank.config.watchdogEnabled = true ∧
    (gangIn .cruise).holds.wind = false := by decide

/-- Axis rows kept by the swap, one in gang 0, which stays, and one moved to gang 1, newly valid. -/
theorem witness_SwapBringsRecordsIntoLine_joins :
    let moved : AxisRow := { flags := 0x03, node := 11, gang := 1, offset := 0 }
    let s := { swapping with pendingBank := { bank1 with axes := bank1.axes.set 1 moved } }
    (∀ i ∈ [0, 1], (s.active.axisRow i).valid = true ∧ (s.pendingBank.axisRow i).valid = true ∧
      (s.active.axisRow i).node = (s.pendingBank.axisRow i).node ∧ s.forward i = some ForwardRec.cleared) ∧
    (s.pendingBank.gangRow (s.pendingBank.axisRow 0).gang.toNat).valid = true ∧ s.gang 0 ≠ none ∧
    (s.pendingBank.gangRow (s.pendingBank.axisRow 1).gang.toNat).valid = true ∧ s.gang 1 = none := by decide
/-- A class below 3 at the swap, with room for its record. -/
theorem witness_SwapBringsRecordsIntoLine_wind :
    swapping.events.length < 32 ∧ swapping.windClass ≠ 3 ∧
    ((swapBanks (.controller 40) swapping).events.map fun e => (e.code, e.data)) = [(0xF004, some 0x00030300)] := by
  decide +kernel

theorem witness_FeedbackUpdatesItsAxisRecordAlone :
    (∃ a, Receives (rx .downstream (on .cruise)) .downstream (feedback 10 100 0x8000 0 1) (feedback 10 100 0x8000 0 1) ∧
      classify (rx .downstream (on .cruise)) .downstream (feedback 10 100 0x8000 0 1) = .feedback ∧
      (rx .downstream (on .cruise)).active.axisOfNode (u8 (framePayload (feedback 10 100 0x8000 0 1)) 1) = some 0 ∧
      (rx .downstream (on .cruise)).axis 0 = some a ∧ (rx .downstream (on .cruise)).up.queue.length < 16) ∧
    (classify (rx .downstream (on .cruise)) .downstream (feedback 12 0 0 0 0) = .feedback ∧
      (rx .downstream (on .cruise)).active.axisOfNode (u8 (framePayload (feedback 12 0 0 0 0)) 1) = none) :=
  ⟨⟨_, receives_rx _ _ _, by decide, by decide, rfl, by decide⟩, by decide, by decide⟩

/-- An axis at an echo count of 2 in a cruising gang, with ENABLE forwarded; FAULT set and READY clear. -/
theorem witness_FeedbackTripsHoldsAndCountsEchoes :
    let s := rx .downstream { on .cruise with
      axes := (on .cruise).axes.set 0 (some { axisAt 100 with echoCount := 2 })
      forwards := (on .cruise).forwards.set 0 (some { ForwardRec.cleared with enable := true }) }
    let f := feedback 10 100 0 7 2
    Receives s .downstream f f ∧ classify s .downstream f = .feedback ∧
    s.active.axisOfNode (u8 (framePayload f) 1) = some 0 ∧ s.axis 0 = some { axisAt 100 with echoCount := 2 } ∧
    s.forward 0 = some { ForwardRec.cleared with enable := true } ∧
    s.gang (s.active.axisRow 0).gang.toNat = some (gangIn .cruise) ∧ (gangIn .cruise).Sound ∧
    (u8 (framePayload f) 11).getLsbD 1 = true ∧ (u8 (framePayload f) 11).getLsbD 0 = false ∧
    (gangIn .cruise).state.moving = true ∧ (s.active.axisRow 0).flags.getLsbD 3 = true ∧
    (u16 (framePayload f) 9).toInt ≠ 0 :=
  ⟨receives_rx _ _ _, by decide, by decide, rfl, rfl, rfl, by decide, by decide, by decide, rfl, by decide, by decide⟩

/-- A report with READY clear: nothing in IDLE, a cause in PREWARN. -/
theorem witness_FeedbackTripsHoldsAndCountsEchoes_notReady :
    let f := feedback 10 100 0 0 0
    (u8 (framePayload f) 11).getLsbD 0 = false ∧
    (after (.feedbackArrival f) (rx .downstream (on .idle))).gang 0 = some (gangIn .idle) ∧
    ((after (.feedbackArrival f) (rx .downstream (on .prewarn))).gang 0).map (fun r => (r.state, r.holds.notReady)) =
      some (.held, true) := by decide
/-- A report with READY set while the other member is stale or not ready, or neither. -/
theorem witness_FeedbackTripsHoldsAndCountsEchoes_removals :
    let s := rx .downstream { on .held with
      gangs := (on .held).gangs.set 0 (some (((gangIn .held).addHold .stale).addHold .notReady)) }
    let f := feedback 10 100 0 0 1
    classify s .downstream f = .feedback ∧ (u8 (framePayload f) 11).getLsbD 0 = true ∧
    ((s.members 0).filter fun j => j != 0) = [1] ∧
    (after (.feedbackArrival f) s).gang 0 = some (gangIn .held) := by decide

theorem witness_AxisBecomesStaleBeyondItsLimit_frame :
    let s := { cruising with axes := cruising.axes.set 0 (some { axisAt 100 with freshness := 4 }) }
    (∃ w rest, Processes s w rest) ∧ s.axis 0 = some { axisAt 100 with freshness := 4 } ∧
    s.gang (s.active.axisRow 0).gang.toNat = some (gangIn .cruise) :=
  ⟨⟨_, _, ⟨rfl, rfl, by decide, rfl⟩⟩, rfl, rfl⟩
theorem witness_AxisBecomesStaleBeyondItsLimit :
    ((on .idle).active.axisRow 0).valid = true ∧ (on .idle).axis 0 = some (axisAt 100) ∧
    (on .idle).config.staleLimit.toNat < ({ axisAt 100 with freshness := 5 } : AxisRec).freshness ∧
    ({ axisAt 100 with freshness := 4 } : AxisRec).freshness ≤ (on .idle).config.staleLimit.toNat := by decide

/-- A blocking row ahead of the lead: gang 1 is tripped. -/
def blocked : State :=
  { on .cruise with gangs := ((on .cruise).gangs.set 1 (some ((gangIn .held).addTrip .skew))) }
theorem witness_FenceResultIsNearestBoundAhead :
    blocked.freshMembers 0 ≠ [] ∧ blocked.freshMembers 2 = [] ∧ (blocked.fenceResult 0 1).blocking = [0] ∧
    (100 : Int) ≤ (blocked.active.interlockRow 0).protectedHigh.toInt ∧
    ¬(blocked.active.interlockRow 0).protectedLow.toInt ≤ 100 := by decide
/-- The row blocks and gives the near edge 500; behind the lead it gives none, and a row at the bound leaves ENVELOPE. -/
theorem witness_FenceResultIsNearestBoundAhead_sources :
    (blocked.fenceResult 0 1).fence = some 500 ∧ (blocked.fenceResult 0 1).source = .row 0 ∧
    (blocked.fenceResult 0 (-1)).source = .envelope ∧ (blocked.fenceResult 0 (-1)).fence = some (-100000) ∧
    (blocked.fenceResult 0 1).lead = some 0 ∧ (blocked.fenceResult 2 1).remaining = some 0 := by decide
theorem witness_FencePassLeavesInterlockExactlyInsideRows :
    let s := { blocked with axes := blocked.axes.set 0 (some (axisAt 600)) }
    s.Shaped ∧ s.gang 0 = some (gangIn .cruise) ∧ (gangIn .cruise).holds.interlock = false ∧ s.insideRows 0 = [0] ∧
    blocked.insideRows 0 = [] ∧ s.events.length + 8 ≤ 32 ∧
    (fencePass s).events.map (fun e => (e.code, e.gang, e.data)) = [(0xF002, some 0, some 0x00000000)] := by decide

/-- Present classes below, at and above the rise class. -/
theorem witness_WindClassRisesAndFallsWithHysteresis :
    defaultConfig.t1.toNat < defaultConfig.t2.toNat ∧ defaultConfig.t2.toNat < defaultConfig.t3.toNat ∧
    1 < riseClass defaultConfig 150 ∧ riseClass defaultConfig 149 ≤ 3 ∧ riseClass defaultConfig 149 = 1 := by decide

theorem witness_WeatherArrivalClassifiesAndMovesWind :
    let s := rx .downstream (on .cruise)
    (∀ n ∈ [120#8, 121], Receives s .downstream (frame 0x51 [3, n, 0, 150, 0, 0]) (frame 0x51 [3, n, 0, 150, 0, 0]) ∧
      classify s .downstream (frame 0x51 [3, n, 0, 150, 0, 0]) = .weather) ∧
    u8 (framePayload (frame 0x51 [3, 120, 0, 150, 0, 0])) 1 = s.config.weatherNode ∧
    u8 (framePayload (frame 0x51 [3, 121, 0, 150, 0, 0])) 1 ≠ s.config.weatherNode ∧
    gustClass s.config s.weatherStale s.windClass 150 ≠ s.windClass ∧
    gustClass s.config s.weatherStale s.windClass 99 = s.windClass := by
  refine ⟨fun n hn => ⟨receives_rx _ _ _, ?_⟩, by decide, by decide, by decide, by decide⟩
  simp only [List.mem_cons, List.not_mem_nil, or_false] at hn
  rcases hn with rfl | rfl <;> decide

/-- No frame in its processing, and one with a class kept for it already. -/
theorem witness_WeatherArrivalClassifiesAndMovesWind_waiting :
    (rx .downstream (on .cruise)).waiting = [] ∧ cruising.waiting ≠ [] ∧ cruising.frameClass = none ∧
    ({ cruising with frameClass := some 1 } : State).frameClass.getD cruising.windClass = 1 := by decide
theorem witness_WeatherExpiryForcesClassThree :
    State.reset.weatherTimer ≠ some 0 ∧ (on .idle).weatherTimer ≠ some 0 ∧
    ({ on .idle with weatherTimer := some 0 } : State).weatherTimer = some 0 ∧ (on .idle).windClass ≠ 3 ∧
    ({ on .idle with windClass := 3 } : State).windClass = 3 := by decide

theorem witness_PressesAreClassifiedByTheirLength :
    (on .idle).press = .released ∧ (on .idle).inReset = false ∧ (on .idle).sampled = false ∧
    ({ State.reset with inReset := true } : State).inReset = true ∧ ({ on .idle with sampled := true } : State).sampled = true ∧
    (∀ n ∈ [59, 60], ({ on .idle with press := .debounce, pressTime := n } : State).pressTime = n) ∧
    (∀ n ∈ [2999, 3000], ({ on .idle with press := .armed, pressTime := n } : State).longTime = 3000) ∧
    ({ on .idle with press := .long } : State).press = .long := by decide

/-- Line 0 watches gang 0 alone: a gang that goes to HOLDING touches it. -/
theorem witness_WarningLineFollowsItsGangs :
    (on .holding).lines[0]? = some offLine ∧ (on .holding).bankPresent = true ∧
    ((on .holding).config.line 0).mask.getLsbD 0 = true ∧
    ((on .cruise).gang 0).map (·.state) ≠ ((on .holding).gang 0).map (·.state) ∧
    ((on .cruise).gang 1).map (·.state) = ((on .holding).gang 1).map (·.state) ∧
    cruising.refresh = none ∧ cruising.lines[0]? = some offLine := by decide

theorem witness_TableWriteChecksThenWritesOneRow :
    let s := rx .upstream (on .idle)
    (∀ sel ∈ [1#8, 4],
      ManagementArrives s (mgmt 0x01 (sel :: 63 :: [0, 0, 0, 0, 0, 0, 0])) (mgmt 0x01 (sel :: 63 :: [0, 0, 0, 0, 0, 0, 0]))
        0x01 (sel :: 63 :: [0, 0, 0, 0, 0, 0, 0])) ∧
    s.pendingState = .editing ∧ s.refresh = none ∧ tableOf 1 = some .axis ∧
    ([0, 0, 0, 0, 0, 0, 0] : List Byte).length = Table.axis.rowBytes ∧ (63#8).toNat < Table.axis.rows ∧
    s.pendingBank.writeRow .axis 63 [1, 0, 0, 0, 0, 0, 0] = none ∧
    (s.pendingBank.writeRow .axis 63 [0, 0, 0, 0, 0, 0, 0]).isSome = true ∧ s.pendingBank.Shaped ∧
    (u8 [1, 126, 7, 0x3B, 0x9A, 0xCA, 0] 0).getLsbD 0 = true ∧
    (s.pendingBank.writeRow .config 0 bank0.config.toBytes).isSome = true ∧
    (s.pendingBank.writeRow .gang 7 gangRow0.toBytes).isSome = true ∧
    (s.pendingBank.writeRow .interlock 15 (bank0.interlockRow 0).toBytes).isSome = true := by
  refine ⟨fun sel hs => ?_, rfl, rfl, by decide, by decide, by decide, by decide, by decide, by decide, by decide,
    by decide, by decide, by decide⟩
  simp only [List.mem_cons, List.not_mem_nil, or_false] at hs
  rcases hs with rfl | rfl <;> exact arrives_mgmt _ _ _ (by decide) (by decide) (by decide)

theorem witness_ReadCommandsOnlyAnswer :
    ManagementArrives (rx .upstream (on .idle)) (mgmt 0x02 [1, 2, 7]) (mgmt 0x02 [1, 2, 7]) 0x02 [1, 2, 7] ∧
    (rx .upstream (on .idle)).refresh = none ∧ tableOf 2 = some .gang ∧ (7#8).toNat < Table.gang.rows ∧
    ManagementArrives (rx .upstream (on .idle)) (mgmt 0x0B [1]) (mgmt 0x0B [1]) 0x0B [1] ∧
    (rx .upstream (on .idle)).axis 1 = some (axisAt 100) ∧ (rx .upstream (on .idle)).forward 1 = some ForwardRec.cleared ∧
    (rx .upstream (on .idle)).axis 64 = none ∧
    ManagementArrives (rx .upstream (on .idle)) (mgmt 0x0C [0]) (mgmt 0x0C [0]) 0x0C [0] ∧
    (rx .upstream (on .idle)).gang 0 = some (gangIn .idle) ∧ (rx .upstream (on .idle)).gang 8 = none ∧
    ManagementArrives (rx .upstream (on .idle)) (mgmt 0x0D []) (mgmt 0x0D []) 0x0D [] :=
  ⟨arrives_mgmt _ _ _ (by decide) (by decide) (by decide), rfl, by decide, by decide,
    arrives_mgmt _ _ _ (by decide) (by decide) (by decide), rfl, rfl, rfl,
    arrives_mgmt _ _ _ (by decide) (by decide) (by decide), rfl, rfl,
    arrives_mgmt _ _ _ (by decide) (by decide) (by decide)⟩

/-- A selector of 4, a gang with a fence result, and an entry in the table. -/
theorem witness_ReadCommandsOnlyAnswer_fields :
    ManagementArrives (rx .upstream (on .idle)) (mgmt 0x02 [1, 4, 0]) (mgmt 0x02 [1, 4, 0]) 0x02 [1, 4, 0] ∧
    3 < (4#8).toNat ∧ (rx .upstream (on .idle)).fence 0 = some FenceResult.cleared ∧
    (∀ st ∈ [DeferredStatus.queued, .issued 8, .readbackDue, .readbackSent 8, .complete (.driveRefused 1) none 1024],
      (rx .upstream (holding st writeKey (on .idle))).deferred[0]? = some { key := writeKey, status := st }) :=
  ⟨arrives_mgmt _ _ _ (by decide) (by decide) (by decide), by decide, rfl, by decide⟩

theorem witness_CopyActiveCopiesEveryRow :
    ManagementArrives (rx .upstream (on .idle)) (mgmt 0x03 []) (mgmt 0x03 []) 0x03 [] ∧
    (rx .upstream (on .idle)).pendingState = .editing ∧ (rx .upstream (on .idle)).refresh = none :=
  ⟨arrives_mgmt _ _ _ (by decide) (by decide) (by decide), rfl, rfl⟩
/-- The command to a bridge with no bank active is refused with NOT_ALLOWED. -/
theorem witness_CopyActiveCopiesEveryRow_unconfigured :
    let f := buildFrame .mgmtReq [1, 126, 7, 0x03]
    ManagementArrives (rx .upstream State.reset) f f 0x03 [] ∧ (rx .upstream State.reset).bankPresent = false ∧
    lastUp (after (.copyActive f) (rx .upstream State.reset)) = [1, 7, 3, 5] :=
  ⟨⟨receives_rx _ _ _, by decide +kernel, by decide +kernel, by decide +kernel⟩, rfl, by decide +kernel⟩
theorem witness_DiscardPendingRestoresResetContents :
    ManagementArrives (rx .upstream (on .idle)) (mgmt 0x04 []) (mgmt 0x04 []) 0x04 [] ∧
    (rx .upstream (on .idle)).pendingState = .editing ∧ (rx .upstream (on .idle)).refresh = none :=
  ⟨arrives_mgmt _ _ _ (by decide) (by decide) (by decide), rfl, rfl⟩

theorem witness_ActivationRunsTheNineChecks :
    ManagementArrives (rx .upstream (on .idle)) (mgmt 0x05 [0xAB, 0xCD]) (mgmt 0x05 [0xAB, 0xCD]) 0x05 [0xAB, 0xCD] ∧
    (rx .upstream (on .idle)).pendingState = .editing ∧ (rx .upstream (on .idle)).refresh = none ∧
    (on .idle).pendingState ≠ .verifying :=
  ⟨arrives_mgmt _ _ _ (by decide) (by decide) (by decide), rfl, rfl, by decide⟩
/-- A bank whose CRC does not match fails; the default bank under its own CRC meets every check. -/
theorem witness_ActivationRunsTheNineChecks_completion :
    (verifying bank0 (bank0.crc + 1)).pendingState = .verifying ∧
    verifyFailure (verifying bank0 (bank0.crc + 1)) = some (.crcMismatch, none) ∧
    verifyFailure (verifying defaultBank defaultBank.crc) = none := by
  refine ⟨rfl, verifyFailure_of_crc _, ?_⟩
  have h : ∀ b : Bank, ((verifying b b.crc).expectedCrc != some (verifying b b.crc).pendingBank.crc) = false := by
    intro b; simp [verifying]
  unfold verifyFailure
  rw [h]
  decide

/-- A completion while a frame waits, before and after a RESTART, and the processing that makes it. -/
theorem witness_ActivationRunsTheNineChecks_waiting :
    let s := waitingFor (setpoint 3 10 0) (verifying bank0 0)
    s.pendingState = .verifying ∧ s.waiting ≠ [] ∧ (∀ owed, Due.restart owed ∉ s.due) ∧
    Due.restart none ∈ ({ s with due := [.restart none] } : State).due ∧
    (processWaiting { origin := .controller 40, bytes := setpoint 3 10 0 } { s with waiting := [] }).pendingState =
      .verifying :=
  ⟨rfl, nofun, nofun, by decide, by decide +kernel⟩
/-- Checks 3, 5 and 9 are the first to fail: nodes 10 of rows 0 and 63, which names no valid gang besides; gang 1 without a
member; and a moving gang 7 that the pending bank would drop. -/
theorem witness_ActivationRunsTheNineChecks_order :
    let twice := { bank0 with axes := bank0.axes.set 63 { flags := 1, node := 10, gang := 5, offset := 0 } }
    let sound := { bank0 with
      gangs := (List.replicate 8 invalidGang).set 0 gangRow0, interlocks := List.replicate 16 invalidInterlock }
    verifyFailure (verifying twice twice.crc) = some (.duplicateNode, some 63) ∧
    verifyFailure (verifying bank0 bank0.crc) = some (.emptyGang, some 1) ∧
    verifyFailure { verifying sound sound.crc with gangs := (List.replicate 8 none).set 7 (some (gangIn .cruise)) } =
      some (.movingMembership, some 7) := by
  intro twice sound
  have h : ∀ b : Bank, ((verifying b b.crc).expectedCrc != some (verifying b b.crc).pendingBank.crc) = false := by
    intro b; simp [verifying]
  have h' : ∀ (b : Bank) (l : List (Option GangRec)),
      (({ verifying b b.crc with gangs := l } : State).expectedCrc !=
        some ({ verifying b b.crc with gangs := l } : State).pendingBank.crc) = false := fun b _ => h b
  unfold verifyFailure
  rw [h, h, h']
  decide +kernel

theorem witness_RefreshFindsAlteredBank :
    (on .idle).bankPresent = true ∧ State.reset.bankPresent = false ∧ (on .idle).refresh = none ∧
    ({ on .idle with refresh := some bank0 } : State).refresh = some bank0 := by decide
theorem witness_RefreshFindsAlteredBank_crc :
    ({ on .idle with refresh := some bank0, verifiedCrc := some (linkCrc bank0.image) } : State).verifiedCrc =
      some (linkCrc bank0.image) ∧
    ({ on .idle with refresh := some bank0, verifiedCrc := none } : State).verifiedCrc ≠ some (linkCrc bank0.image) :=
  ⟨rfl, nofun⟩

/-- A completion while a frame waits, before and after a RESTART, and the processing that makes it. -/
theorem witness_RefreshFindsAlteredBank_waiting :
    let s := waitingFor (setpoint 3 10 0) { on .idle with refresh := some bank0 }
    s.refresh = some bank0 ∧ s.waiting ≠ [] ∧ (∀ owed, Due.restart owed ∉ s.due) ∧
    Due.restart none ∈ ({ s with due := [.restart none] } : State).due ∧
    ({ s with due := [.refresh bank0] } : State).due = [.refresh bank0] :=
  ⟨rfl, nofun, nofun, by decide, rfl⟩

theorem witness_BankImageRoundTrips :
    bank0.Shaped ∧ bank0.image.length = 1068 := by decide +kernel

/-- Node 127; a protected write to a moving gang; a repeat of a COMPLETE and of a QUEUED entry; a full table; room. -/
theorem witness_ParamRequestTakesFirstCase :
    let s := rx .upstream (on .cruise)
    (∀ f ∈ [frame 0x31 [3, 127, 0x10, 0x18, 1, 0], frame 0x31 [3, 10, 0x20, 0, 1, 1, 0, 0, 0, 9], frame 0x31 [3, 10, 0x10, 0x18, 1, 0]],
      classify s .upstream f = .paramReq) ∧
    s.active.axisOfNode 10 = some 0 ∧ (gangIn .cruise).state.moving = true ∧
    s.config.protectedLo.toNat ≤ 0x2000 ∧ 0x2000 ≤ s.config.protectedHi.toNat ∧
    requestKey (framePayload (frame 0x31 [3, 10, 0x10, 0x18, 1, 0])) = readKey ∧
    (holding (.complete .ok none 1) readKey s).deferred.find? (fun e => e.key == readKey) =
      some { key := readKey, status := .complete .ok none 1 } ∧
    s.deferred.length < 8 := by decide
theorem witness_ParamRequestTakesFirstCase_receives :
    Receives (rx .upstream (on .cruise)) .upstream (frame 0x31 [3, 10, 0x10, 0x18, 1, 0])
      (frame 0x31 [3, 10, 0x10, 0x18, 1, 0]) := receives_rx _ _ _

/-- Answers 0, 1, 2 and 3 to an ISSUED read, and an answer to a verifying read. -/
theorem witness_ParamResponseSettlesRequestInFlight :
    let s := rx .downstream (holding (.issued 7) readKey (on .idle))
    (∀ code ∈ [0#8, 1, 2, 3], classify s .downstream (response readKey code 5 none) = .paramRsp ∧
      s.deferred.find? (fun e => e.inFlightKey == some (responseKey (framePayload (response readKey code 5 none)))) =
        some { key := readKey, status := .issued 7 }) ∧
    (let s' := rx .downstream (holding (.readbackSent 0) writeKey (on .idle))
     s'.deferred.find? (fun e => e.inFlightKey == some (responseKey (framePayload (response writeKey.readback 0 0 (some 9))))) =
        some { key := writeKey, status := .readbackSent 0 }) ∧
    (∀ e ∈ (on .idle).deferred, e.inFlightKey ≠ some readKey) := by decide
theorem witness_ParamResponseSettlesRequestInFlight_receives :
    Receives (rx .downstream (on .cruise)) .downstream (response readKey 0 0 none) (response readKey 0 0 none) :=
  receives_rx _ _ _

theorem witness_TimeoutsAndDiscardsActOnTheirEntries :
    ((holding (.complete .ok none 0) readKey (on .idle)).deferred.filter fun e =>
        match e.status with
        | .complete _ _ n => n == 0
        | _ => false) ≠ [] ∧
    (on .idle).events.length + 1 ≤ 32 ∧ (on .idle).deferred.filter DeferredEntry.expired = [] ∧
    (holding .queued writeKey (on .idle)).events.length + (holding .queued writeKey (on .idle)).deferred.length ≤ 32 := by decide
/-- A frame processed with a countdown at its last, a request at its eighth frame and a write the review takes. -/
theorem witness_TimeoutsAndDiscardsActOnTheirEntries_frame :
    let k := { writeKey with object := 0x2000 }
    let s := { cruising with backoff := 2, deferred :=
      [{ key := readKey, status := .complete .ok none 1 }, { key := writeKey, status := .issued 7 }, { key := k, status := .queued }] }
    (∃ w rest, Processes s w rest) ∧ s.protectedMoving k = true ∧
    (after .localSetpointProcessing s).deferred =
      [{ key := writeKey, status := .complete .noAnswer none 1023 }, { key := k, status := .complete .moving none 1023 }] :=
  ⟨⟨_, _, ⟨rfl, rfl, by decide, rfl⟩⟩, by decide, by decide +kernel⟩

/-- An axis of each tier that asks for the window, a requester that does, and nobody. -/
theorem witness_WindowGoesToOneCandidateAtMost :
    (∀ low ∈ [0#8, 4],
      let s := { on .idle with
        active := { bank0 with axes := bank0.axes.set 0 { flags := 0x19 ||| low, node := 10, gang := 0, offset := 5 } }
        axes := (on .idle).axes.set 0 (some { axisAt 100 with eventPending := true }) }
      s.openGrant = none ∧ (arbitrate s).1.openGrant = some { row := 0, node := 10, seen := false } ∧
        (arbitrate s).1.highPtr = (if low = 0 then .row 0 else .low)) ∧
    (let s := holding .queued readKey (on .idle)
     s.openGrant = none ∧ (arbitrate s).2.2.isSome = true ∧ (arbitrate s).1.highPtr = .bridge) ∧
    ((arbitrate (on .idle)).1.openGrant = none ∧ (arbitrate (on .idle)).2.2 = none) := by decide
/-- The processing of a frame with an open grant, an axis that asks for the window, and room downstream. -/
theorem witness_WindowGoesToOneCandidateAtMost_frame :
    let s := { cruising with
      axes := cruising.axes.set 1 (some { axisAt 100 with eventPending := true })
      openGrant := some { row := 0, node := 10, seen := true } }
    (∃ w rest, Processes s w rest ∧ ¬Misfit .setpoint (framePayload w.bytes)) ∧ s.down.queue.length ≤ 14 ∧
    (let t := after .localSetpointProcessing s
     t.openGrant = some { row := 1, node := 11, seen := false } ∧ t.highPtr = .row 1 ∧
      t.grantRec 0 = { count := 1, saturated := false } ∧
      t.down.queue.map (fun f => u8 (framePayload f) 2) = [11]) :=
  ⟨⟨_, _, ⟨rfl, rfl, by decide, rfl⟩, by decide⟩, by decide, by decide +kernel⟩
theorem witness_WindowGoesToOneCandidateAtMost_pointers : (on .idle).PointersSound := ⟨nofun, nofun⟩

/-- The processing that closes a sixth grant with an event. -/
theorem witness_EventsOfGrantsCountToSaturation_frame :
    let s := { cruising with
      grantRecs := (List.replicate 64 clearGrant).set 0 { count := 5, saturated := false }
      openGrant := some { row := 0, node := 10, seen := true } }
    (∃ w rest, Processes s w rest) ∧ s.openGrant = some { row := 0, node := 10, seen := true } ∧
    (s.grantRec 0).count = 5 ∧
    (let t := after .localSetpointProcessing s
     t.grantRec 0 = { count := 6, saturated := true } ∧ t.flag .eventSaturated = true ∧ t.openGrant = none) :=
  ⟨⟨_, _, ⟨rfl, rfl, by decide, rfl⟩⟩, rfl, by decide, by decide +kernel⟩
theorem witness_EventsOfGrantsCountToSaturation :
    (Receives (rx .downstream (on .idle)) .downstream (frame 0x22 [3, 10, 0x12, 0x34]) (frame 0x22 [3, 10, 0x12, 0x34]) ∧
      classify (rx .downstream (on .idle)) .downstream (frame 0x22 [3, 10, 0x12, 0x34]) = .event) ∧
    (∀ seen ∈ [true, false],
      ({ on .idle with openGrant := some { row := 0, node := 10, seen := seen } } : State).openGrant =
        some { row := 0, node := 10, seen := seen }) ∧
    ({ on .idle with grantRecs := (List.replicate 64 clearGrant).set 0 { count := 5, saturated := false } } : State
      ).grantRec 0 = { count := 5, saturated := false } ∧
    ManagementArrives (rx .upstream (on .idle)) (mgmt 0x0A [63]) (mgmt 0x0A [63]) 0x0A [63] ∧ (on .idle).axis 63 = none :=
  ⟨⟨receives_rx _ _ _, by decide⟩, by decide, by decide, arrives_mgmt _ _ _ (by decide) (by decide) (by decide), by decide⟩
/-- CLEAR SATURATION of a row with a record, with no frame waiting, with one, and with a RESTART due as well. -/
theorem witness_EventsOfGrantsCountToSaturation_clear :
    (∀ s ∈ [on .idle, cruising, { cruising with due := [.restart none] }],
      ManagementArrives (rx .upstream s) (mgmt 0x0A [1]) (mgmt 0x0A [1]) 0x0A [1] ∧ (rx .upstream s).axis 1 ≠ none) ∧
    (rx .upstream (on .idle)).waiting = [] ∧ (rx .upstream cruising).waiting ≠ [] ∧
    (∀ owed, Due.restart owed ∉ (rx .upstream cruising).due) ∧
    Due.restart none ∈ (rx .upstream { cruising with due := [.restart none] }).due ∧
    ({ cruising with due := [.saturation 1] } : State).due = [.saturation 1] := by
  refine ⟨fun s hs => ?_, rfl, nofun, nofun, by decide, rfl⟩
  simp only [List.mem_cons, List.not_mem_nil, or_false] at hs
  rcases hs with rfl | rfl | rfl <;> exact ⟨arrives_mgmt _ _ _ (by decide) (by decide) (by decide), by decide⟩

theorem witness_RestartIsAnsweredThenMade :
    ManagementArrives (rx .upstream (on .idle)) (mgmt 0x0E []) (mgmt 0x0E []) 0x0E [] ∧ (rx .upstream (on .idle)).waiting = [] ∧
    ManagementArrives (rx .upstream cruising) (mgmt 0x0E []) (mgmt 0x0E []) 0x0E [] ∧ (rx .upstream cruising).waiting ≠ [] ∧
    (∀ owed, Due.restart owed ∉ (rx .upstream cruising).due) ∧ cruising.due = [] ∧
    (∀ answers ∈ [[], [setpoint 3 10 0]],
      let d := Due.restart none :: answers.map fun answer => .restart (some answer)
      (rx .upstream { cruising with due := d }).due = d ∧ Due.restart none ∈ d) ∧
    (on .idle).inReset = false ∧ ({ State.reset with inReset := true } : State).inReset = true :=
  ⟨arrives_mgmt _ _ _ (by decide) (by decide) (by decide), rfl, arrives_mgmt _ _ _ (by decide) (by decide) (by decide), nofun,
    nofun, rfl, by decide, rfl, rfl⟩

/-- Commands 0 and 15; READ AXIS without its argument; TABLE WRITE with one byte. -/
theorem witness_CommandsTurnedAwayOnlyAnswer :
    ManagementArrives (rx .upstream (on .idle)) (mgmt 0x00 []) (mgmt 0x00 []) 0x00 [] ∧
    ManagementArrives (rx .upstream (on .idle)) (mgmt 0x0F []) (mgmt 0x0F []) 0x0F [] ∧
    ManagementArrives (rx .upstream (on .idle)) (mgmt 0x0B []) (mgmt 0x0B []) 0x0B [] ∧
    ManagementArrives (rx .upstream (on .idle)) (mgmt 0x01 [1]) (mgmt 0x01 [1]) 0x01 [1] :=
  ⟨arrives_mgmt _ _ _ (by decide) (by decide) (by decide), arrives_mgmt _ _ _ (by decide) (by decide) (by decide),
    arrives_mgmt _ _ _ (by decide) (by decide) (by decide), arrives_mgmt _ _ _ (by decide) (by decide) (by decide)⟩
/-- TABLE WRITE of an axis row one byte short, during the refresh and in VERIFYING. -/
theorem witness_CommandsTurnedAwayOnlyAnswer_rowLength :
    tableOf (u8 [1#8, 0, 0, 0, 0, 0, 0, 0] 0) = some .axis ∧
    ([1#8, 0, 0, 0, 0, 0, 0, 0] : List Byte).length ≠ 2 + Table.axis.rowBytes ∧
    ∀ s ∈ [rx .upstream { on .idle with refresh := some bank0 }, rx .upstream (verifying bank0 0)],
      ManagementArrives s (mgmt 0x01 [1, 0, 0, 0, 0, 0, 0, 0]) (mgmt 0x01 [1, 0, 0, 0, 0, 0, 0, 0]) 0x01
        [1, 0, 0, 0, 0, 0, 0, 0] := by
  refine ⟨by decide, by decide, fun s hs => ?_⟩
  simp only [List.mem_cons, List.not_mem_nil, or_false] at hs
  rcases hs with rfl | rfl <;> exact arrives_mgmt _ _ _ (by decide) (by decide) (by decide)
/-- COPY ACTIVE in VERIFYING, and TABLE READ during the refresh. -/
theorem witness_CommandsTurnedAwayOnlyAnswer_busy :
    (let s := rx .upstream { on .idle with pendingState := .verifying, expectedCrc := some 0 }
     ManagementArrives s (mgmt 0x03 []) (mgmt 0x03 []) 0x03 [] ∧ s.pendingState ≠ .editing) ∧
    (let s := rx .upstream { on .idle with refresh := some bank0 }
     ManagementArrives s (mgmt 0x02 [0, 0, 0]) (mgmt 0x02 [0, 0, 0]) 0x02 [0, 0, 0] ∧ s.refresh.isSome = true) ∧
    commandOf 0x03 = some .copyActive ∧ argumentsFit .copyActive [] = true ∧
    commandOf 0x02 = some .tableRead ∧ argumentsFit .tableRead [0, 0, 0] = true :=
  ⟨⟨arrives_mgmt _ _ _ (by decide) (by decide) (by decide), by decide⟩,
    ⟨arrives_mgmt _ _ _ (by decide) (by decide) (by decide), rfl⟩, by decide, by decide, by decide, by decide⟩

end Sys2Proof.Tests
end

section
/-!
PROOFS. Fences and interlocks (chapter 4): which rows block and which are inside, the lead and the effective fence as
the first of the best, and what the fence pass does to the gang records and to the event queue.
-/
namespace Sys2Proof.Machine

variable (s : State)

/-! ### The first of the best -/

/-- What stands after a list, each element replacing it where it has a strictly better score. -/
def firstBest {β : Type} (score : β → Int) (b : β) (l : List β) : β :=
  l.foldl (fun best n => if score best < score n then n else best) b

/-- In a list of rising rank it is the first of the best: the lowest rank among equals. -/
theorem firstBest_lowest_rank {β : Type} {score : β → Int} {rank : β → Nat} {b : β} {l : List β}
    (hl : (b :: l).Pairwise fun x y => rank x < rank y) :
    firstBest score b l ∈ b :: l ∧
      ∀ x ∈ b :: l, score x ≤ score (firstBest score b l) ∧
        (score x = score (firstBest score b l) → rank (firstBest score b l) ≤ rank x) := by
  induction l generalizing b with
  | nil =>
    simp only [List.mem_singleton, forall_eq]
    exact ⟨rfl, Int.le_refl _, fun _ => Nat.le_refl _⟩
  | cons n l ih =>
    obtain ⟨hb, hn⟩ := List.pairwise_cons.mp hl
    by_cases hlt : score b < score n
    · have hstep : firstBest score b (n :: l) = firstBest score n l := by
        rw [firstBest, List.foldl_cons, if_pos hlt, ← firstBest]
      obtain ⟨hmem, hbest⟩ := ih hn
      rw [hstep]
      refine ⟨List.mem_cons_of_mem _ hmem, fun x hx => ?_⟩
      rcases List.mem_cons.mp hx with rfl | hx
      · have := (hbest n List.mem_cons_self).1
        exact ⟨by omega, fun e => by omega⟩
      · exact hbest x hx
    · have hstep : firstBest score b (n :: l) = firstBest score b l := by
        rw [firstBest, List.foldl_cons, if_neg hlt, ← firstBest]
      obtain ⟨hmem, hbest⟩ := ih (hl.sublist ((List.sublist_cons_self n l).cons_cons b))
      rw [hstep]
      refine ⟨?_, fun x hx => ?_⟩
      · rcases List.mem_cons.mp hmem with he | hmem
        · exact List.mem_cons.mpr (.inl he)
        · exact List.mem_cons_of_mem _ (List.mem_cons_of_mem _ hmem)
      · obtain ⟨hle, htie⟩ := hbest b List.mem_cons_self
        rcases List.mem_cons.mp hx with rfl | hx
        · exact ⟨hle, htie⟩
        · rcases List.mem_cons.mp hx with rfl | hx
          · have := hb x List.mem_cons_self
            exact ⟨by omega, fun e => Nat.le_trans (htie (by omega)) (Nat.le_of_lt this)⟩
          · exact hbest x (List.mem_cons_of_mem _ hx)

/-! ### Rows that block, rows inside -/

/-- The condition of a row is false: a member of the condition gang not fresh or outside the region, or that gang
TRIPPED (R77). -/
theorem State.conditionHolds_eq_false_iff (row : InterlockRow) :
    s.conditionHolds row = false ↔
      (∃ i ∈ s.members row.condition.toNat, ∀ a, s.axis i = some a →
        a.reported = false ∨ a.stale = true ∨ a.position < row.conditionLow.toInt ∨
          row.conditionHigh.toInt < a.position) ∨
      ∃ r, s.gang row.condition.toNat = some r ∧ r.state = .tripped := by
  unfold State.conditionHolds
  rw [Bool.and_eq_false_iff, List.all_eq_false]
  refine or_congr (exists_congr fun i => and_congr_right fun _ => ?_) ?_
  · cases s.axis i with
    | none => simp
    | some a => grind [AxisRec.fresh, InterlockRow.permits]
  · cases s.gang row.condition.toNat <;> simp

theorem State.mem_blockingRows (g k : Nat) :
    k ∈ s.blockingRows g ↔
      k < 16 ∧ (s.active.interlockRow k).valid = true ∧ (s.active.interlockRow k).subject.toNat = g ∧
        s.conditionHolds (s.active.interlockRow k) = false := by
  simp [State.blockingRows, Config.interlockRows, and_assoc]

theorem State.mem_insideRows (g k : Nat) :
    k ∈ s.insideRows g ↔
      k ∈ s.blockingRows g ∧ ∃ m ∈ s.freshMembers g, (s.active.interlockRow k).protectedLow.toInt ≤ m.2.position ∧
        m.2.position ≤ (s.active.interlockRow k).protectedHigh.toInt := by
  simp [State.insideRows, InterlockRow.protects]

theorem State.blockingRows_rising (g : Nat) : (s.blockingRows g).Pairwise (· < ·) := List.pairwise_lt_range.filter _

theorem State.insideRows_rising (g : Nat) : (s.insideRows g).Pairwise (· < ·) := (s.blockingRows_rising g).filter _

/-- The lowest inside row stands first (R81). -/
theorem State.insideRows_min? (g : Nat) : (s.insideRows g).min? = (s.insideRows g).head? :=
  List.min?_eq_head? ((s.insideRows_rising g).imp fun h => Nat.min_eq_left (Nat.le_of_lt h))

/-! ### The lead -/

theorem State.freshMembers_rising (g : Nat) : (s.freshMembers g).Pairwise fun m n => m.1 < n.1 := by
  refine (List.pairwise_lt_range.filter _).filterMap _ fun i j hij m hm n hn => ?_
  cases hi : s.axis i <;> cases hj : s.axis j <;> grind

/-- A member with the position that stands in its record. -/
def memberPlace (m : Nat × AxisRec) : Nat × Int := (m.1, m.2.position)

/-- The lead is the first of the members furthest along d (R74). -/
theorem leadOf_cons (d : Int) (m : Nat × AxisRec) (rest : List (Nat × AxisRec)) :
    leadOf d (m :: rest) = some (firstBest (fun b => d * b.2) (memberPlace m) (rest.map memberPlace)) := by
  rw [firstBest, List.foldl_map]
  rfl

/-- The lead of a gang is a fresh member, none is further along d, and none at its place has a lower row (R74). -/
theorem State.leadOf_freshMembers {g : Nat} {d : Int} {i : Nat} {pos : Int}
    (h : leadOf d (s.freshMembers g) = some (i, pos)) :
    (∃ a, (i, a) ∈ s.freshMembers g ∧ a.position = pos) ∧
      ∀ m ∈ s.freshMembers g, d * m.2.position ≤ d * pos ∧ (m.2.position = pos → i ≤ m.1) := by
  have hrising : ((s.freshMembers g).map memberPlace).Pairwise fun a b => a.1 < b.1 :=
    List.pairwise_map.mpr (s.freshMembers_rising g)
  cases hl : s.freshMembers g with
  | nil => rw [hl] at h; cases h
  | cons m rest =>
    rw [hl, leadOf_cons, Option.some_inj] at h
    rw [hl, List.map_cons] at hrising
    obtain ⟨hmem, hbest⟩ := firstBest_lowest_rank (score := fun b => d * b.2) hrising
    rw [h, ← List.map_cons] at hmem hbest
    obtain ⟨n, hn, he⟩ := List.mem_map.mp hmem
    obtain ⟨rfl, rfl⟩ := Prod.mk.inj he
    refine ⟨⟨n.2, hn, rfl⟩, fun n' hn' => ?_⟩
    obtain ⟨hle, hrank⟩ := hbest _ (List.mem_map_of_mem hn')
    exact ⟨hle, fun e => hrank (congrArg (d * ·) e)⟩

/-! ### The effective fence -/

/-- A row offers its near edge while its region is not wholly behind the lead (R78). -/
theorem InterlockRow.candidate_eq_some_iff (row : InterlockRow) {d : Int} (hd : d = 1 ∨ d = -1) (lead edge : Int) :
    row.candidate d lead = some edge ↔
      (if d = 1 then lead ≤ row.protectedHigh.toInt else row.protectedLow.toInt ≤ lead) ∧
        edge = if d = 1 then row.protectedLow.toInt else row.protectedHigh.toInt := by
  rcases hd with rfl | rfl <;> simp [InterlockRow.candidate, eq_comm]

/-- The envelope bound in direction d (R75). -/
def State.envelopeBound (s : State) (g : Nat) (d : Int) : Int := if d > 0 then (s.gangRow g).high else (s.gangRow g).low

/-- The edge a row offers, with the row as its source. -/
def State.offeredBound (s : State) (d lead : Int) (i : Nat) : Option (Int × FenceSource) :=
  ((s.active.interlockRow i).candidate d lead).map fun edge => (edge, .row i)

/-- Every bound ahead of the lead with its source: the envelope, then the edges offered by rising row. -/
def State.boundsAhead (s : State) (g : Nat) (d lead : Int) : List (Int × FenceSource) :=
  (s.envelopeBound g d, .envelope) :: (s.blockingRows g).filterMap (s.offeredBound d lead)

/-- Place of a source in the order in which ties are won: ENVELOPE, then the rows (R79). -/
def FenceSource.rank : FenceSource → Nat
  | .envelope => 0
  | .row i => i + 1
  | .absent => 0

theorem State.mem_boundsAhead (g : Nat) (d lead : Int) (b : Int × FenceSource) :
    b ∈ s.boundsAhead g d lead ↔
      b = (s.envelopeBound g d, .envelope) ∨
        ∃ k ∈ s.blockingRows g, (s.active.interlockRow k).candidate d lead = some b.1 ∧ b.2 = .row k := by
  rw [State.boundsAhead, List.mem_cons, List.mem_filterMap]
  refine or_congr_right (exists_congr fun k => and_congr_right fun _ => ?_)
  rw [State.offeredBound, Option.map_eq_some_iff]
  constructor
  · rintro ⟨edge, hedge, rfl⟩
    exact ⟨hedge, rfl⟩
  · rintro ⟨hedge, hsource⟩
    exact ⟨b.1, hedge, Prod.ext rfl hsource.symm⟩

theorem State.boundsAhead_rising (g : Nat) (d lead : Int) :
    (s.boundsAhead g d lead).Pairwise fun a b => a.2.rank < b.2.rank := by
  have offered {i : Nat} {b : Int × FenceSource} (h : s.offeredBound d lead i = some b) : b.2.rank = i + 1 := by
    obtain ⟨edge, -, rfl⟩ := Option.map_eq_some_iff.mp h
    rfl
  refine List.pairwise_cons.mpr ⟨fun b hb => ?_, (s.blockingRows_rising g).filterMap _ fun i j hij a ha b hb => ?_⟩
  · obtain ⟨i, -, hi⟩ := List.mem_filterMap.mp hb
    exact (offered hi).symm ▸ Nat.succ_pos i
  · rw [offered ha, offered hb]; omega

/-- The effective fence is the first of the bounds ahead that is furthest against d (R79). -/
theorem State.effectiveFence_eq_firstBest (g : Nat) (d lead : Int) :
    s.effectiveFence g d lead =
      firstBest (fun b => -(d * b.1)) (s.envelopeBound g d, .envelope)
        ((s.blockingRows g).filterMap (s.offeredBound d lead)) := by
  rw [firstBest, List.foldl_filterMap]
  unfold State.effectiveFence State.offeredBound
  refine congrArg (fun f => List.foldl f _ _) (funext fun best => funext fun i => ?_)
  cases (s.active.interlockRow i).candidate d lead with
  | none => rfl
  | some edge => simp only [Option.map_some, Int.neg_lt_neg_iff]

/-- The effective fence is one of the bounds ahead, none of them is nearer, and none as near has an earlier source
(R79). -/
theorem State.effectiveFence_nearest (g : Nat) (d lead : Int) :
    s.effectiveFence g d lead ∈ s.boundsAhead g d lead ∧
      ∀ b ∈ s.boundsAhead g d lead, d * (s.effectiveFence g d lead).1 ≤ d * b.1 ∧
        (d * b.1 = d * (s.effectiveFence g d lead).1 → (s.effectiveFence g d lead).2.rank ≤ b.2.rank) := by
  have h := firstBest_lowest_rank (score := fun b : Int × FenceSource => -(d * b.1)) (s.boundsAhead_rising g d lead)
  rw [← s.effectiveFence_eq_firstBest] at h
  simp only [Int.neg_le_neg_iff, Int.neg_inj] at h
  exact h

/-- What supplied the effective fence: the envelope, or the lowest of the rows that offer it, strictly nearer than the
envelope (R75, R79). -/
theorem State.effectiveFence_source (g : Nat) (d lead : Int) :
    s.effectiveFence g d lead = (s.envelopeBound g d, .envelope) ∨
      ∃ k ∈ s.blockingRows g,
        (s.active.interlockRow k).candidate d lead = some (s.effectiveFence g d lead).1 ∧
        (s.effectiveFence g d lead).2 = .row k ∧
        d * (s.effectiveFence g d lead).1 < d * s.envelopeBound g d ∧
        ∀ j ∈ s.blockingRows g,
          (s.active.interlockRow j).candidate d lead = some (s.effectiveFence g d lead).1 → k ≤ j := by
  obtain ⟨hmem, hbest⟩ := s.effectiveFence_nearest g d lead
  refine ((s.mem_boundsAhead g d lead _).mp hmem).imp_right fun ⟨k, hk, hoffer, hsource⟩ => ?_
  rw [hsource] at hbest
  refine ⟨k, hk, hoffer, hsource, ?_, fun j hj hjoffer => ?_⟩
  · obtain ⟨hle, htie⟩ := hbest _ ((s.mem_boundsAhead g d lead _).mpr (.inl rfl))
    exact Int.lt_iff_le_and_ne.mpr ⟨hle, fun e => absurd (htie e.symm) (Nat.not_succ_le_zero k)⟩
  · obtain ⟨-, htie⟩ := hbest (_, .row j) ((s.mem_boundsAhead g d lead _).mpr (.inr ⟨j, hj, hjoffer, rfl⟩))
    exact Nat.le_of_succ_le_succ (htie rfl)

/-- The effective fence is no farther than the edge of any row that offers one (R79). -/
theorem State.effectiveFence_le_offered {g k : Nat} {d lead edge : Int} (hk : k ∈ s.blockingRows g)
    (h : (s.active.interlockRow k).candidate d lead = some edge) :
    d * (s.effectiveFence g d lead).1 ≤ d * edge :=
  ((s.effectiveFence_nearest g d lead).2 (edge, .row k)
    ((s.mem_boundsAhead g d lead _).mpr (.inr ⟨k, hk, h, rfl⟩))).1

/-- The effective fence is no farther than the envelope bound (R75). -/
theorem State.effectiveFence_le_envelope (g : Nat) (d lead : Int) :
    d * (s.effectiveFence g d lead).1 ≤ d * s.envelopeBound g d :=
  ((s.effectiveFence_nearest g d lead).2 _ ((s.mem_boundsAhead g d lead _).mpr (.inl rfl))).1

/-! ### The fence result -/

@[simp] theorem State.fenceResult_blocking (g : Nat) (d : Int) : (s.fenceResult g d).blocking = s.blockingRows g := by
  unfold State.fenceResult; split
  · rfl
  · split <;> rfl

@[simp] theorem State.fenceResult_inside (g : Nat) (d : Int) : (s.fenceResult g d).inside = s.insideRows g := by
  unfold State.fenceResult; split
  · rfl
  · split <;> rfl

/-- Without a direction nothing but the row sets is present. -/
theorem State.fenceResult_zero (g : Nat) :
    s.fenceResult g 0 =
      { FenceResult.cleared with blocking := s.blockingRows g, inside := s.insideRows g } := rfl

/-- With a direction and no fresh member r is 0 and the rest is absent. -/
theorem State.fenceResult_of_none_fresh {g : Nat} {d : Int} (hd : d ≠ 0) (h : s.freshMembers g = []) :
    s.fenceResult g d =
      { FenceResult.cleared with
        remaining := some 0, blocking := s.blockingRows g, inside := s.insideRows g } := by
  unfold State.fenceResult; rw [if_neg hd, h]; rfl

/-- With a direction and a lead every figure is present (R74, R79). -/
theorem State.fenceResult_of_lead {g : Nat} {d : Int} {i : Nat} {pos : Int} (hd : d ≠ 0)
    (h : leadOf d (s.freshMembers g) = some (i, pos)) :
    s.fenceResult g d =
      { lead := some i, leadPosition := some pos
        fence := some (s.effectiveFence g d pos).1, source := (s.effectiveFence g d pos).2
        remaining := some (d * ((s.effectiveFence g d pos).1 - pos))
        blocking := s.blockingRows g, inside := s.insideRows g } := by
  unfold State.fenceResult; rw [if_neg hd, h]

/-- A gang with a fresh member has a lead. -/
theorem leadOf_of_ne_nil {d : Int} {l : List (Nat × AxisRec)} (h : l ≠ []) : ∃ i pos, leadOf d l = some (i, pos) := by
  obtain ⟨m, rest, rfl⟩ := List.exists_cons_of_ne_nil h
  exact ⟨_, _, rfl⟩

theorem State.envelopeBound_of_dir {d : Int} (hd : d = 1 ∨ d = -1) (g : Nat) :
    s.envelopeBound g d = if d = 1 then (s.gangRow g).high else (s.gangRow g).low := by
  rcases hd with rfl | rfl <;> rfl

/-- Settles O37: the lead and the effective fence are each the first of the best of a list in rising order. -/
theorem fenceResultIsNearestBoundAhead : Obligations.FenceResultIsNearestBoundAhead := by
  intro s g d hd f
  have hd0 : d ≠ 0 := by omega
  have hblocking : f.blocking = s.blockingRows g := s.fenceResult_blocking g d
  refine ⟨?_, fun k => ?_, fun hnone => ?_, fun hfresh => ?_⟩
  · rw [hblocking, show f.inside = s.insideRows g from s.fenceResult_inside g d]
    exact s.fenceResult_zero g
  · rw [hblocking, s.mem_blockingRows, s.conditionHolds_eq_false_iff]
  · rw [show f = _ from s.fenceResult_of_none_fresh hd0 hnone]
    exact ⟨rfl, rfl, rfl, rfl, rfl⟩
  · obtain ⟨i, pos, hlead⟩ := leadOf_of_ne_nil (d := d) hfresh
    have hf : f = _ := s.fenceResult_of_lead hd0 hlead
    obtain ⟨hmember, hfurthest⟩ := s.leadOf_freshMembers hlead
    refine ⟨i, pos, (s.effectiveFence g d pos).1, congrArg FenceResult.lead hf, congrArg FenceResult.leadPosition hf,
      congrArg FenceResult.fence hf, congrArg FenceResult.remaining hf, hmember, hfurthest, ?_⟩
    intro bound near offers
    have hbound : s.envelopeBound g d = bound := s.envelopeBound_of_dir hd g
    have hoffers (k : Nat) (edge : Int) : (k ∈ s.blockingRows g ∧
        (s.active.interlockRow k).candidate d pos = some edge) ↔ offers k ∧ edge = near k := by
      rw [InterlockRow.candidate_eq_some_iff _ hd, ← hblocking, ← and_assoc]
    rw [show f.source = _ from congrArg FenceResult.source hf, ← hbound]
    refine ⟨?_, s.effectiveFence_le_envelope g d pos, fun k hk => ?_⟩
    · rcases s.effectiveFence_source g d pos with henv | ⟨k, hk, hoffer, hsource, hnearer, hlowest⟩
      · exact .inl ⟨congrArg Prod.snd henv, congrArg Prod.fst henv⟩
      · obtain ⟨hko, hedge⟩ := (hoffers k _).mp ⟨hk, hoffer⟩
        refine .inr ⟨k, hsource, hko, hedge, hnearer, fun j hj he => ?_⟩
        obtain ⟨hjb, hjo⟩ := (hoffers j _).mpr ⟨hj, he.symm⟩
        exact hlowest j hjb hjo
    · obtain ⟨hkb, hko⟩ := (hoffers k _).mpr ⟨hk, rfl⟩
      exact s.effectiveFence_le_offered hkb hko

/-! ### INTERLOCK of one gang -/

/-- A gang record as the fence pass leaves it: with INTERLOCK while there are inside rows, without it otherwise
(R81). -/
def GangRec.interlocked (r : GangRec) (inside : List Nat) : GangRec :=
  if inside = [] then r.removeHold .interlock else r.addHold .interlock

/-- INTERLOCK is in the set exactly while there are inside rows. -/
theorem GangRec.interlocked_iff (r : GangRec) (inside : List Nat) :
    (r.interlocked inside).holds.interlock = true ↔ inside ≠ [] := by
  show (r.interlocked inside).holds.has .interlock = true ↔ _
  unfold GangRec.interlocked
  split <;> simp [*]

/-- A cause that is in the set already changes nothing (R6). -/
theorem GangRec.addHold_of_has {r : GangRec} {c : HoldCause} (h : r.holds.has c = true) : r.addHold c = r := if_pos h

/-- A byte before three zero bytes. -/
theorem word4_of_byte (b : Byte) : word4 b 0 0 0 = b ++ 0#24 :=
  (congrArg (· ++ 0#8) (BitVec.append_assoc (x₁ := b) (x₂ := 0#8) (x₃ := 0#8))).trans
    (BitVec.append_assoc (x₁ := b) (x₂ := 0#16) (x₃ := 0#8))

/-- The record INTERLOCK of a gang offers: at entry alone, with the lowest inside row (R82). -/
def State.interlockRecord (s : State) (g : Nat) : Option EventRecord :=
  match s.gang g, (s.fence g).bind fun f => f.inside.head? with
  | some r, some row =>
    if r.holds.interlock then none
    else some { source := .bridge, code := 0xF002, gang := some g, data := some (byteOf row ++ 0#24),
                cycle := s.lastCycle }
  | _, _ => none

/-- INTERLOCK of a gang has no effect without its record or its fence result, or where it stands already with inside
rows; without inside rows it is removed, and at its entry it is added with a record (R81, R82). -/
theorem interlockCause_cases (g : Nat) :
    ((s.gang g = none ∨ s.fence g = none) ∧ interlockCause s g = s) ∨
      ∃ r f, s.gang g = some r ∧ s.fence g = some f ∧
        ((f.inside = [] ∧ interlockCause s g = s.removeHold .interlock g) ∨
          ∃ row rest, f.inside = row :: rest ∧
            ((r.holds.interlock = true ∧ interlockCause s g = s) ∨
              (r.holds.interlock = false ∧
                interlockCause s g =
                  (s.addHold .interlock g).offer .bridge 0xF002 (some g) (some (byteOf row ++ 0#24))))) := by
  unfold interlockCause
  cases hr : s.gang g with
  | none => exact .inl ⟨.inl rfl, rfl⟩
  | some r =>
    cases hf : s.fence g with
    | none => exact .inl ⟨.inr rfl, rfl⟩
    | some f =>
      refine .inr ⟨r, f, rfl, rfl, ?_⟩
      cases hi : f.inside with
      | nil => exact .inl ⟨rfl, by simp only [hi]⟩
      | cons row rest =>
        refine .inr ⟨row, rest, rfl, ?_⟩
        cases hh : r.holds.interlock with
        | true => exact .inl ⟨rfl, by simp only [hi, hh, if_true]⟩
        | false =>
          refine .inr ⟨rfl, ?_⟩
          simp only [hi, hh, Bool.false_eq_true, if_false]
          rw [State.offerOwn, word4_of_byte, BridgeEvent.code]

@[simp] theorem interlockCause_fences (g : Nat) : (interlockCause s g).fences = s.fences :=
  (congrArg State.fences (interlockCause_frame s g) :)

@[simp] theorem interlockCause_lastCycle (g : Nat) : (interlockCause s g).lastCycle = s.lastCycle :=
  (congrArg State.lastCycle (interlockCause_frame s g) :)

/-- The record of the gang follows its inside rows, the others stay (R81). -/
theorem interlockCause_gang (g h : Nat) :
    (interlockCause s g).gang h =
      if h = g then (s.gang h).map fun r => (s.fence h).elim r fun f => r.interlocked f.inside else s.gang h := by
  by_cases e : h = g
  · subst e
    rw [if_pos rfl]
    rcases interlockCause_cases s h with
      ⟨hn | hn, he⟩ | ⟨r, f, hr, hf, ⟨hi, he⟩ | ⟨row, rest, hi, ⟨hh, he⟩ | ⟨-, he⟩⟩⟩ <;> rw [he]
    · simp [hn]
    · simp [hn]
    · simp [hr, hf, hi, GangRec.interlocked]
    · simp [hr, hf, hi, GangRec.interlocked, r.addHold_of_has (c := .interlock) hh]
    · simp [hr, hf, hi, GangRec.interlocked]
  · rw [if_neg e]
    rcases interlockCause_cases s g with
      ⟨-, he⟩ | ⟨r, f, -, -, ⟨-, he⟩ | ⟨row, rest, -, ⟨-, he⟩ | ⟨-, he⟩⟩⟩ <;> simp [he, e]

/-- With room the event queue takes the record that INTERLOCK of the gang offers, if any (R82, R180). -/
theorem interlockCause_events (g : Nat) (room : s.events.length < 32) :
    (interlockCause s g).events = s.events ++ (s.interlockRecord g).toList := by
  unfold State.interlockRecord
  rcases interlockCause_cases s g with
    ⟨hn | hn, he⟩ | ⟨r, f, hr, hf, ⟨hi, he⟩ | ⟨row, rest, hi, ⟨hh, he⟩ | ⟨hh, he⟩⟩⟩ <;> rw [he]
  · simp [hn]
  · simp [hn]
  · simp [hr, hf, hi]
  · simp [hr, hf, hi, hh]
  · rw [State.offer_room _ _ _ _ _ (by simpa using room)]
    simp [hr, hf, hi, hh]

/-- What a gang's INTERLOCK offers depends on its record, its fence result and the last cycle number alone. -/
theorem State.interlockRecord_congr {s t : State} {g : Nat} (hg : t.gang g = s.gang g) (hf : t.fences = s.fences)
    (hc : t.lastCycle = s.lastCycle) : t.interlockRecord g = s.interlockRecord g := by
  unfold State.interlockRecord
  rw [hg, State.fence_congr hf, hc]

/-! ### INTERLOCK of every gang -/

theorem interlockCause_forEach_fences (n : Nat) : (forEach n interlockCause s).fences = s.fences :=
  forEach_induct (P := fun t => t.fences = s.fences) n s rfl fun t g _ ht => (interlockCause_fences t g).trans ht

theorem interlockCause_forEach_lastCycle (n : Nat) : (forEach n interlockCause s).lastCycle = s.lastCycle :=
  forEach_induct (P := fun t => t.lastCycle = s.lastCycle) n s rfl
    fun t g _ ht => (interlockCause_lastCycle t g).trans ht

/-- Gang records after INTERLOCK of the first n gangs (R81). -/
theorem interlockCause_forEach_gang (n h : Nat) :
    (forEach n interlockCause s).gang h =
      if h < n then (s.gang h).map fun r => (s.fence h).elim r fun f => r.interlocked f.inside else s.gang h :=
  forEach_gang s (P := fun t => t.fences = s.fences)
    (F := fun h r => (s.fence h).elim r fun f => r.interlocked f.inside) n
    (fun t g ht => (interlockCause_fences t g).trans ht)
    (fun t g h ht => by rw [interlockCause_gang, State.fence_congr ht]) rfl h

/-- With room the records of the first n gangs join the event queue in rising order (log entry 11). -/
theorem interlockCause_forEach_events (n : Nat) (room : s.events.length + n ≤ 32) :
    (forEach n interlockCause s).events = s.events ++ (List.range n).filterMap s.interlockRecord := by
  induction n with
  | zero => simp [forEach]
  | succ n ih =>
    have hevents := ih (by omega)
    have hlength : (forEach n interlockCause s).events.length < 32 := by
      have := List.length_filterMap_le s.interlockRecord (List.range n)
      rw [hevents, List.length_append]
      simp only [List.length_range] at this
      omega
    have hrecord : (forEach n interlockCause s).interlockRecord n = s.interlockRecord n :=
      State.interlockRecord_congr (by rw [interlockCause_forEach_gang, if_neg (Nat.lt_irrefl n)])
        (interlockCause_forEach_fences s n) (interlockCause_forEach_lastCycle s n)
    have hstep : forEach (n + 1) interlockCause s = interlockCause (forEach n interlockCause s) n := by
      simp [forEach, List.range_succ]
    rw [hstep, interlockCause_events _ _ hlength, hevents, hrecord, List.range_succ, List.filterMap_append,
      List.append_assoc]
    cases h : s.interlockRecord n <;> simp [h]

/-! ### The fence pass -/

/-- The fence results of every gang that has a record (R73). -/
theorem fenceResults_fence {g : Nat} (hg : g < 8) :
    (fenceResults s).fence g = (s.gang g).map fun r => s.fenceResult g r.direction := by
  simp only [State.fence, fenceResults, Config.gangRows, List.getD_eq_getElem?_getD, List.getElem?_map,
    List.getElem?_range hg, Option.map_some, Option.getD_some]
  cases s.gang g <;> rfl

/-- In every fence result the lowest inside row stands first (R81). -/
theorem fenceResults_min? (g : Nat) :
    ((fenceResults s).fence g).bind (fun f => f.inside.min?) =
      ((fenceResults s).fence g).bind fun f => f.inside.head? := by
  by_cases hg : g < 8
  · rw [fenceResults_fence s hg]
    cases s.gang g with
    | none => rfl
    | some r => simp only [Option.map_some, Option.bind_some, State.fenceResult_inside, State.insideRows_min?]
  · have hnone : (fenceResults s).fence g = none := by
      have hlength : (fenceResults s).fences.length ≤ g := by
        simpa only [fenceResults, Config.gangRows, List.length_map, List.length_range, Nat.not_lt] using hg
      rw [State.fence, List.getD_eq_getElem?_getD, List.getElem?_eq_none hlength]
      rfl
    rw [hnone]
    rfl

/-- INTERLOCK leaves the fence results as they were made. -/
theorem fencePass_fence_eq (g : Nat) : (fencePass s).fence g = (fenceResults s).fence g :=
  State.fence_congr (interlockCause_forEach_fences (fenceResults s) 8) g

/-- The fence pass stores the fence result of each gang that has a record (R73). -/
theorem fencePass_fence {g : Nat} (hg : g < 8) :
    (fencePass s).fence g = (s.gang g).map fun r => s.fenceResult g r.direction :=
  (fencePass_fence_eq s g).trans (fenceResults_fence s hg)

/-- The fence pass leaves each gang record as its inside rows ask (R81). -/
theorem fencePass_gang {g : Nat} (hg : g < 8) :
    (fencePass s).gang g = (s.gang g).map fun r => r.interlocked (s.insideRows g) := by
  have h := interlockCause_forEach_gang (fenceResults s) 8 g
  rw [if_pos hg, fenceResults_fence s hg, show (fenceResults s).gang g = s.gang g from rfl] at h
  refine h.trans ?_
  cases s.gang g <;> simp

/-- Settles O38: INTERLOCK of each gang reads its own record and fence result alone. -/
theorem fencePassLeavesInterlockExactlyInsideRows : Obligations.FencePassLeavesInterlockExactlyInsideRows := by
  constructor
  · intro s g r _ hg hr res
    have hinside : res.inside = s.insideRows g := s.fenceResult_inside g r.direction
    have hfence : (fencePass s).fence g = some res := by rw [fencePass_fence s hg, hr]; rfl
    have hgang : (fencePass s).gang g = some (r.interlocked res.inside) := by
      rw [fencePass_gang s hg, hr, hinside]; rfl
    refine ⟨hfence, _, hgang, r.interlocked_iff _, fun k => ?_, fun _ hi => if_neg hi, fun hh hi => ?_,
      fun hi => if_pos hi⟩
    · rw [hinside, s.mem_insideRows, s.mem_blockingRows]
      simp only [and_assoc]
    · exact (if_neg hi).trans (r.addHold_of_has (c := .interlock) hh)
  · intro s _ room
    refine (interlockCause_forEach_events (fenceResults s) 8 room).trans ?_
    refine congrArg (fun record => s.events ++ (List.range 8).filterMap record) (funext fun g => ?_)
    rw [fencePass_fence_eq, fenceResults_min?]
    rfl

end Sys2Proof.Machine
end

section
/-!
PROOFS. Site inputs (chapter 5): the wind class by rise and fall, a press by its length, the warning lines at a frame
and between frames.
-/
namespace Sys2Proof.Machine

/-! ### Rise and fall of the wind class -/

/-- The rise class is the highest class whose threshold the gust reaches, 0 where it reaches none (R91, step 1). -/
theorem riseClass_cases (c : ConfigRow) (gust : Int) :
    (c.windThreshold 3 ≤ gust ∧ riseClass c gust = 3) ∨
      (gust < c.windThreshold 3 ∧ c.windThreshold 2 ≤ gust ∧ riseClass c gust = 2) ∨
      (gust < c.windThreshold 3 ∧ gust < c.windThreshold 2 ∧ c.windThreshold 1 ≤ gust ∧ riseClass c gust = 1) ∨
      (gust < c.windThreshold 3 ∧ gust < c.windThreshold 2 ∧ gust < c.windThreshold 1 ∧ riseClass c gust = 0) := by
  unfold riseClass
  rcases Int.lt_or_le gust (c.windThreshold 3) with h3 | h3
  · rw [if_neg (Int.not_le.mpr h3)]
    rcases Int.lt_or_le gust (c.windThreshold 2) with h2 | h2
    · rw [if_neg (Int.not_le.mpr h2)]
      rcases Int.lt_or_le gust (c.windThreshold 1) with h1 | h1
      · exact .inr (.inr (.inr ⟨h3, h2, h1, if_neg (Int.not_le.mpr h1)⟩))
      · exact .inr (.inr (.inl ⟨h3, h2, h1, if_pos h1⟩))
    · exact .inr (.inl ⟨h3, h2, if_pos h2⟩)
  · exact .inl ⟨h3, if_pos h3⟩

theorem riseClass_le (c : ConfigRow) (gust : Int) : riseClass c gust ≤ 3 := by
  have := riseClass_cases c gust
  omega

/-- With rising thresholds the rise class reaches exactly the classes whose threshold the gust reaches (R91, step 1). -/
theorem le_riseClass_iff {c : ConfigRow} (h12 : c.t1.toNat < c.t2.toNat) (h23 : c.t2.toNat < c.t3.toNat) (gust : Int)
    {j : Nat} (h1 : 1 ≤ j) (h3 : j ≤ 3) : j ≤ riseClass c gust ↔ c.windThreshold j ≤ gust := by
  have hlow : c.windThreshold 1 < c.windThreshold 2 := Int.ofNat_lt.mpr h12
  have hhigh : c.windThreshold 2 < c.windThreshold 3 := Int.ofNat_lt.mpr h23
  have hcases := riseClass_cases c gust
  obtain rfl | rfl | rfl : j = 1 ∨ j = 2 ∨ j = 3 := by omega
  all_goals omega

/-- One step of the fall, from a class whose threshold less the hysteresis lies above the gust (R91, step 2). -/
theorem fallClass_succ_of_lt {c : ConfigRow} {gust : Int} {k : Nat}
    (h : gust < c.windThreshold (k + 1) - c.hysteresis.toNat) : fallClass c gust (k + 1) = fallClass c gust k := if_pos h

/-- The fall ends at a class whose threshold less the hysteresis the gust reaches (R91, step 2). -/
theorem fallClass_succ_of_le {c : ConfigRow} {gust : Int} {k : Nat}
    (h : c.windThreshold (k + 1) - c.hysteresis.toNat ≤ gust) : fallClass c gust (k + 1) = k + 1 :=
  if_neg (Int.not_lt.mpr h)

theorem fallClass_le (c : ConfigRow) (gust : Int) (k : Nat) : fallClass c gust k ≤ k := by
  induction k with
  | zero => exact Nat.le_refl 0
  | succ k ih =>
    rcases Int.lt_or_le gust (c.windThreshold (k + 1) - c.hysteresis.toNat) with hlow | hreach
    · exact fallClass_succ_of_lt hlow ▸ Nat.le_succ_of_le ih
    · exact Nat.le_of_eq (fallClass_succ_of_le hreach)

/-- The fall does not pass a class whose threshold the gust reaches. -/
theorem le_fallClass {c : ConfigRow} {gust : Int} {r k : Nat} (hk : r ≤ k)
    (hr : 1 ≤ r → c.windThreshold r ≤ gust) : r ≤ fallClass c gust k := by
  induction k with
  | zero => exact hk
  | succ k ih =>
    rcases Int.lt_or_le gust (c.windThreshold (k + 1) - c.hysteresis.toNat) with hlow | hreach
    · rw [fallClass_succ_of_lt hlow]
      obtain hk | rfl : r ≤ k ∨ r = k + 1 := by omega
      · exact ih hk
      · have := hr (Nat.le_add_left 1 k)
        omega
    · rw [fallClass_succ_of_le hreach]; exact hk

/-- The fall ends at class 0 or where the gust reaches the threshold less the hysteresis (R91, step 2). -/
theorem fallClass_reached {c : ConfigRow} {gust : Int} {k : Nat} (h : 1 ≤ fallClass c gust k) :
    c.windThreshold (fallClass c gust k) - c.hysteresis.toNat ≤ gust := by
  induction k with
  | zero => exact absurd h (Nat.not_succ_le_zero 0)
  | succ k ih =>
    rcases Int.lt_or_le gust (c.windThreshold (k + 1) - c.hysteresis.toNat) with hlow | hreach
    · rw [fallClass_succ_of_lt hlow] at h ⊢
      exact ih h
    · rw [fallClass_succ_of_le hreach]
      exact hreach

/-- Every class the fall has left lies above the gust by more than the hysteresis (R91, step 2). -/
theorem lt_of_fallClass_lt {c : ConfigRow} {gust : Int} {j k : Nat} (hj : fallClass c gust k < j) (hk : j ≤ k) :
    gust < c.windThreshold j - c.hysteresis.toNat := by
  induction k with
  | zero => exact absurd (Nat.lt_of_lt_of_le hj hk) (Nat.not_lt_zero _)
  | succ k ih =>
    rcases Int.lt_or_le gust (c.windThreshold (k + 1) - c.hysteresis.toNat) with hlow | hreach
    · rw [fallClass_succ_of_lt hlow] at hj
      obtain hk | rfl : j ≤ k ∨ j = k + 1 := by omega
      · exact ih hj hk
      · exact hlow
    · rw [fallClass_succ_of_le hreach] at hj
      exact absurd (Nat.lt_of_lt_of_le hj hk) (Nat.lt_irrefl _)

theorem gustClass_of_lt_rise {c : ConfigRow} {k : Nat} {gust : Int} (h : k < riseClass c gust) :
    gustClass c false k gust = riseClass c gust := if_pos h

theorem gustClass_of_rise_le {c : ConfigRow} {k : Nat} {gust : Int} (h : riseClass c gust ≤ k) :
    gustClass c false k gust = fallClass c gust k := if_neg (Nat.not_lt.mpr h)

/-- Settles O39: the rise class by its thresholds, the fall by induction on the present class. -/
theorem windClassRisesAndFallsWithHysteresis : Obligations.WindClassRisesAndFallsWithHysteresis := by
  intro c k gust h12 h23 _ rise m threshold
  have hthreshold {j : Nat} (h : 1 ≤ j) : threshold j = c.windThreshold j := by
    simp only [threshold, ConfigRow.windThreshold, show j ≤ 1 ↔ j = 1 by omega]
  have hreach {j : Nat} (h1 : 1 ≤ j) (h3 : j ≤ 3) : j ≤ rise ↔ threshold j ≤ gust :=
    hthreshold h1 ▸ le_riseClass_iff h12 h23 gust h1 h3
  have hm (h : rise ≤ k) : m = fallClass c gust k := gustClass_of_rise_le h
  have hrise : rise ≤ 3 := riseClass_le c gust
  refine ⟨hrise, fun j => hreach, ?_, gustClass_of_lt_rise, fun hle => ?_, rfl⟩
  · rcases Nat.lt_or_ge k rise with hlt | hle
    · exact Nat.le_of_eq (gustClass_of_lt_rise hlt).symm
    · rw [hm hle]
      exact le_fallClass hle fun h1 => hthreshold h1 ▸ (hreach h1 hrise).mp (Nat.le_refl _)
  · rw [hm hle]
    exact ⟨fallClass_le c gust k, fun h1 => hthreshold h1 ▸ fallClass_reached h1,
      fun j hj hk => hthreshold (Nat.one_le_of_lt hj) ▸ lt_of_fallClass_lt hj hk⟩

/-! ### The hold station -/

section HoldStation

variable {s : State}

theorem exec_holdnChange (low : Bool) (s : State) :
    exec (if low then .pressStart else .pressRelease) s = finish s (holdnTakes low s) := by
  cases low <;> rfl

/-- The level the press state has seen is high in RELEASED alone (R97). -/
theorem State.levelSeen_eq_iff (s : State) (low : Bool) :
    s.levelSeen = low ↔ (s.press = .released ↔ low = false) := by
  unfold State.levelSeen
  cases s.press <;> cases low <;> simp

theorem holdnTakes_of_inReset (low : Bool) (h : s.inReset = true) : holdnTakes low s = s := if_pos h

/-- A level that changes again in its millisecond, or that has been seen, is the pin's alone (log entry 38). -/
theorem holdnTakes_level {low : Bool} (hr : s.inReset = false) (h : s.sampled = true ∨ s.levelSeen = low) :
    holdnTakes low s = { s with holdnLow := low } := by
  rcases holdnTakes_cases low s with ⟨hr', -⟩ | ⟨-, -, he⟩ | ⟨-, hs, hl, -⟩
  · rw [hr] at hr'; cases hr'
  · exact he
  · rw [hs] at h
    exact absurd (h.resolve_left nofun) hl

/-- A level the press state has not seen is taken at the sample: a press begins or ends (R98 to R100). -/
theorem holdnTakes_change {low : Bool} (hr : s.inReset = false) (hs : s.sampled = false) (hl : s.levelSeen ≠ low) :
    holdnTakes low s = (if low then pressBegins else pressEnds) { s with holdnLow := low, sampled := true } := by
  rcases holdnTakes_cases low s with ⟨hr', -⟩ | ⟨-, hs' | hl', -⟩ | ⟨-, -, -, he⟩
  · rw [hr] at hr'; cases hr'
  · rw [hs] at hs'; cases hs'
  · exact absurd hl' hl
  · exact he

/-- A press that begins is in DEBOUNCE at time 0 with its long-press time fixed (R98). -/
theorem pressBegins_of_released (h : s.press = .released) :
    pressBegins s = { s with press := .debounce, pressTime := 0, longTime := s.longPressNow } := by
  unfold pressBegins
  rw [h]

/-- A release in DEBOUNCE or LONG has no further effect (R98, R100). -/
theorem pressEnds_of_debounce_or_long (h : s.press = .debounce ∨ s.press = .long) :
    pressEnds s = { s with press := .released } := by
  unfold pressEnds
  rcases h with h | h <;> rw [h]

theorem pressEnds_of_armed (h : s.press = .armed) : pressEnds s = shortPress s := by
  unfold pressEnds
  rw [h]

/-- A SHORT press sets the mark and PRESS_SHORT and touches beside the press the gang records alone (R99). -/
theorem shortPress_eq (s : State) :
    shortPress s =
      { s with
        press := .released, operatorHold := true, flags := s.flags ||| 0x200000#24, gangs := (shortPress s).gangs } :=
  State.addHoldAll_frame (State.setFlag { s with press := .released, operatorHold := true } .pressShort) .operator

/-- A SHORT press puts OPERATOR on every gang (R99). -/
theorem shortPress_gang (s : State) {g : Nat} (hg : g < 8) :
    (shortPress s).gang g = (s.gang g).map fun r => r.addHold .operator :=
  (State.addHoldAll_gang _ .operator g).trans (if_pos hg)

/-- A LONG press clears the mark, sets PRESS_LONG and touches beside the press the gang records alone (R100). -/
theorem longPressActs_eq (s : State) :
    longPressActs s =
      { s with
        press := .long, operatorHold := false, flags := s.flags ||| 0x400000#24,
        gangs := (longPressActs s).gangs } := by
  unfold longPressActs
  split
  · exact State.removeHoldAll_frame _ .operator
  · rename_i h
    rw [← Bool.eq_false_iff.mpr h]
    rfl

/-- A LONG press takes OPERATOR from every gang where the mark was set (R100). -/
theorem longPressActs_gang (s : State) {g : Nat} (hg : g < 8) :
    (longPressActs s).gang g =
      if s.operatorHold then (s.gang g).map fun r => r.removeHold .operator else s.gang g := by
  unfold longPressActs
  split
  · exact (State.removeHoldAll_gang _ .operator g).trans (if_pos hg)
  · rfl

/-- A press in DEBOUNCE is ARMED at 60 ms (R98). -/
theorem exec_debounceExpiry_of_due (h : s.press = .debounce) (ht : 60 ≤ s.pressTime) :
    exec .debounceExpiry s = .next (State.updateFaultn { s with press := .armed }) := by
  show execDebounceExpiry s = _
  simp only [execDebounceExpiry, h, if_pos ht]
  exact finish_of_gangs s _ rfl

/-- A DEBOUNCE_EXPIRY that is not due does nothing (log entry 3). -/
theorem exec_debounceExpiry_of_not_due (h : s.press ≠ .debounce ∨ s.pressTime < 60) :
    exec .debounceExpiry s = .next s.updateFaultn := by
  show execDebounceExpiry s = _
  unfold execDebounceExpiry
  cases hp : s.press with
  | debounce => simp only [if_neg (Nat.not_le.mpr (h.resolve_left (absurd hp)))]; exact finish_of_gangs s s rfl
  | released | armed | long => exact finish_of_gangs s s rfl

/-- A press in ARMED is LONG at its long-press time (R100). -/
theorem exec_longPress_of_due (h : s.press = .armed) (ht : s.longTime ≤ s.pressTime) :
    exec .longPress s = .next (settle s (longPressActs s)) := by
  show execLongPress s = _
  simp only [execLongPress, h, if_pos ht]
  rfl

/-- A LONG_PRESS that is not due does nothing (log entry 3). -/
theorem exec_longPress_of_not_due (h : s.press ≠ .armed ∨ s.pressTime < s.longTime) :
    exec .longPress s = .next s.updateFaultn := by
  show execLongPress s = _
  unfold execLongPress
  cases hp : s.press with
  | armed => simp only [if_neg (Nat.not_le.mpr (h.resolve_left (absurd hp)))]; exact finish_of_gangs s s rfl
  | released | debounce | long => exact finish_of_gangs s s rfl

end HoldStation

/-- Settles O42: HOLDn by reset, sample and the level seen, then each press state by its own event. -/
theorem pressesAreClassifiedByTheirLength : Obligations.PressesAreClassifiedByTheirLength := by
  intro s
  refine ⟨fun low => ⟨fun hr => ?_, fun hr h => ?_⟩, fun hr hs => ?_,
    ⟨exec_debounceExpiry_of_due, exec_debounceExpiry_of_not_due⟩, fun h ht => ?_, exec_longPress_of_not_due⟩
  · rw [exec_holdnChange, holdnTakes_of_inReset low hr]
    exact finish_of_gangs s s rfl
  · rw [exec_holdnChange, holdnTakes_level hr (h.imp_right (s.levelSeen_eq_iff low).mpr)]
    exact finish_of_gangs s _ rfl
  · have hchange (low : Bool) (h : s.levelSeen ≠ low) := (exec_holdnChange low s).trans
      (congrArg (finish s) (holdnTakes_change hr hs h))
    have hhigh (h : s.press = .released) : s.levelSeen ≠ true := by simp [s.levelSeen_eq_iff, h]
    have hlow (h : s.press ≠ .released) : s.levelSeen ≠ false := by simp [s.levelSeen_eq_iff, h]
    refine ⟨fun h => ?_, fun h => ?_, fun h => ?_⟩
    · refine (hchange true (hhigh h)).trans ((congrArg (finish s) ?_).trans (finish_of_gangs s _ ?_))
      · exact pressBegins_of_released h
      · rfl
    · refine (hchange false (hlow ?_)).trans ((congrArg (finish s) ?_).trans (finish_of_gangs s _ ?_))
      · rintro e
        simp [e] at h
      · exact pressEnds_of_debounce_or_long h
      · rfl
    · refine ⟨shortPress { s with holdnLow := false, sampled := true },
        (hchange false (hlow ?_)).trans (congrArg (finish s) ?_), shortPress_eq _, fun g => shortPress_gang _⟩
      · rw [h]; nofun
      · exact pressEnds_of_armed h
  · exact ⟨longPressActs s, exec_longPress_of_due h ht, longPressActs_eq s, fun g => longPressActs_gang s⟩

/-! ### The demand of a warning line -/

section WarningLines

variable {s t : State}

/-- A gang that a line watches stands in one of some states (R103). -/
def State.LineIn (u : State) (i : Nat) (p : GangState → Prop) : Prop :=
  ∃ g, g < 8 ∧ (u.config.line i).mask.getLsbD g = true ∧ ∃ r, u.gang g = some r ∧ p r.state

/-- The demand the table gives a line: its first case that the watched gangs meet (R103). -/
def State.LineShows (u : State) (i : Nat) (d : LineDemand) : Prop :=
  (u.LineIn i (· = .prewarn) ∧ d = .steady) ∨
  (¬u.LineIn i (· = .prewarn) ∧ u.LineIn i (· = .holding) ∧ d = .fast) ∨
  (¬u.LineIn i (· = .prewarn) ∧ ¬u.LineIn i (· = .holding) ∧
    u.LineIn i (· ∈ [GangState.breakaway, .cruise, .approach, .settle]) ∧ d = .own) ∨
  (¬u.LineIn i (· ∈ [GangState.prewarn, .holding, .breakaway, .cruise, .approach, .settle]) ∧ d = .off)

/-- A line that has taken a demand: its period goes on where the demand is the same, and starts afresh where it differs,
lit unless OFF (R104). -/
def LineGen.Takes (l : LineGen) (found : Option LineGen) (d : LineDemand) : Prop :=
  ∃ l', found = some l' ∧ l'.demand = d ∧ (d = l.demand → l' = l) ∧
    (d ≠ l.demand → l'.time = 0 ∧ (l'.level = true ↔ d ≠ .off))

theorem State.watchedIn_line_iff (s : State) (i : Nat) (p : GangState → Bool) :
    s.watchedIn (s.config.line i) p = true ↔ s.LineIn i (fun st => p st = true) := by
  simp only [State.watchedIn, State.LineIn, LineRow.watches, List.any_eq_true, List.mem_range, Config.gangRows,
    Bool.and_eq_true]
  refine exists_congr fun g => and_congr_right fun _ => and_congr_right fun _ => ?_
  cases s.gang g <;> simp

theorem State.LineIn.mono {i : Nat} {p q : GangState → Prop} (h : s.LineIn i p) (hpq : ∀ st, p st → q st) :
    s.LineIn i q := by
  obtain ⟨g, hg, hw, r, hr, hp⟩ := h
  exact ⟨g, hg, hw, r, hr, hpq _ hp⟩

theorem State.LineIn.or {i : Nat} {p q : GangState → Prop} (h : s.LineIn i fun st => p st ∨ q st) :
    s.LineIn i p ∨ s.LineIn i q := by
  obtain ⟨g, hg, hw, r, hr, hp | hq⟩ := h
  · exact .inl ⟨g, hg, hw, r, hr, hp⟩
  · exact .inr ⟨g, hg, hw, r, hr, hq⟩

/-- With a bank active the demand of a line is the one the table gives it (R103). -/
theorem State.lineShows_lineDemand (h : s.bankPresent = true) (i : Nat) : s.LineShows i (s.lineDemand i) := by
  have hprewarn := s.watchedIn_line_iff i (fun st => st = .prewarn)
  have hholding := s.watchedIn_line_iff i (fun st => st = .holding)
  have hmoving := s.watchedIn_line_iff i (fun st => st.driven || st = .settle)
  have hmem (st : GangState) :
      (st.driven || decide (st = .settle)) = true ↔ st ∈ [GangState.breakaway, .cruise, .approach, .settle] := by
    cases st <;> decide
  simp only [decide_eq_true_eq, hmem] at hprewarn hholding hmoving
  unfold State.lineDemand State.LineShows
  rw [h]
  simp only [Bool.not_true, Bool.false_eq_true, if_false, ← hprewarn, ← hholding, ← hmoving]
  by_cases hp : s.watchedIn (s.config.line i) (fun st => st = .prewarn) = true
  · exact .inl ⟨hp, if_pos hp⟩
  rw [if_neg hp]
  by_cases hh : s.watchedIn (s.config.line i) (fun st => st = .holding) = true
  · exact .inr (.inl ⟨hp, hh, if_pos hh⟩)
  rw [if_neg hh]
  by_cases hm : s.watchedIn (s.config.line i) (fun st => st.driven || st = .settle) = true
  · exact .inr (.inr (.inl ⟨hp, hh, hm, if_pos hm⟩))
  rw [if_neg hm]
  refine .inr (.inr (.inr ⟨fun hany => ?_, rfl⟩))
  rcases (hany.mono fun st => List.mem_cons.mp).or with hp' | hrest
  · exact hp (hprewarn.mpr hp')
  · exact (hrest.mono fun st => List.mem_cons.mp).or.elim (hh ∘ hholding.mpr) (hm ∘ hmoving.mpr)

/-- A line's demand is read from the states of the gangs alone (R103). -/
theorem State.lineDemand_of_gangState (ha : t.active = s.active) (hb : t.bankPresent = s.bankPresent)
    (hg : ∀ g, t.gangState g = s.gangState g) (i : Nat) : t.lineDemand i = s.lineDemand i := by
  have hwatched (line : LineRow) (p : GangState → Bool) : t.watchedIn line p = s.watchedIn line p := by
    unfold State.watchedIn
    refine congrArg (List.any _) (funext fun g => congrArg (line.watches g && ·) ?_)
    have h := hg g
    unfold State.gangState at h
    cases ht : t.gang g <;> cases hs : s.gang g <;> simp_all
  unfold State.lineDemand
  rw [hb, State.config_congr ha]
  simp only [hwatched]

/-! ### A line that takes a demand -/

/-- The line after its demand has been found: as it was where the demand is the same, else with the demand taken
(R104). -/
def LineGen.follow (l : LineGen) (d : LineDemand) : LineGen := if l.demand = d then l else LineGen.take d

@[simp] theorem LineGen.follow_demand (l : LineGen) (d : LineDemand) : (l.follow d).demand = d := by
  unfold LineGen.follow
  split
  · assumption
  · rfl

@[simp] theorem LineGen.follow_follow (l : LineGen) (d : LineDemand) : (l.follow d).follow d = l.follow d :=
  if_pos (l.follow_demand d)

theorem LineGen.takes_follow (l : LineGen) (d : LineDemand) : l.Takes (some (l.follow d)) d := by
  refine ⟨_, rfl, l.follow_demand d, fun h => if_pos h.symm, fun h => ?_⟩
  rw [LineGen.follow, if_neg (Ne.symm h)]
  exact ⟨rfl, bne_iff_ne⟩

theorem State.updateLines_getElem? (s : State) (i : Nat) :
    s.updateLines.lines[i]? = s.lines[i]?.map fun l => l.follow (s.lineDemand i) :=
  List.getElem?_mapIdx

theorem settle_lines_getElem? (old new : State) (i : Nat) :
    (settle old new).lines[i]? =
      new.lines[i]?.map fun l => if lineTouched old new i then l.follow (new.lineDemand i) else l := by
  refine (List.getElem?_mapIdx (l := new.lines)).trans (congrArg (Option.map · _) (funext fun l => ?_))
  unfold LineGen.follow
  by_cases ht : lineTouched old new i = true <;> by_cases hd : l.demand = new.lineDemand i <;> simp [ht, hd]

/-- A line that shows the demand of the new state already stays as it is. -/
theorem settle_lines_of_followed (old : State) {new : State} {i : Nat} {l : LineGen}
    (h : new.lines[i]? = some (l.follow (new.lineDemand i))) :
    (settle old new).lines[i]? = some (l.follow (new.lineDemand i)) := by
  rw [settle_lines_getElem?, h, Option.map_some, LineGen.follow_follow, ite_self]

/-- A line is touched by a change of state of a gang it watches, and by nothing else (R103). -/
theorem lineTouched_iff (old new : State) (i : Nat) :
    lineTouched old new i = true ↔
      ∃ g, g < 8 ∧ (new.config.line i).mask.getLsbD g = true ∧ old.gangState g ≠ new.gangState g := by
  simp [lineTouched, LineRow.watches, Config.gangRows]

/-! ### The lines at a local setpoint frame -/

/-- An update that keeps the state of a gang record keeps the state of every gang. -/
theorem State.modifyGang_gangState {g : Nat} {f : GangRec → GangRec} (hf : ∀ r, (f r).state = r.state) (s : State)
    (h : Nat) : (s.modifyGang g f).gangState h = s.gangState h := by
  unfold State.gangState
  rw [State.modifyGang_gang]
  split
  · cases s.gang h <;> simp [hf]
  · rfl

/-- Writing the current ceilings changes no gang's state (R41). -/
theorem writeCeilings_gangState (s : State) (g : Nat) : (writeCeilings s).gangState g = s.gangState g :=
  forGangs_induct (P := fun t => t.gangState g = s.gangState g) s rfl fun t h _ ht =>
    (State.modifyGang_gangState (g := h)
      (f := fun r => { r with currentCeiling := if r.state.driven then t.ceilingOf h r else 0 })
      (fun _ => rfl) t g).trans ht

/-- Outside the refresh the lines take the demand of the states the frame leaves (R103). -/
theorem rewriteStages_lines (h : s.refresh = none) (slots : List Slot) (i : Nat) :
    (rewriteStages slots s).1.lines[i]? =
      s.lines[i]?.map fun l => l.follow ((rewriteStages slots s).1.lineDemand i) := by
  have hstages : (rewriteStages slots s).1 =
      writeCeilings (rewriteSlots false [] slots (gangPasses slots (freshnessStep s)).updateLines).1 := by
    simp [rewriteStages, h]
  have hdemand : (rewriteStages slots s).1.lineDemand i =
      (gangPasses slots (freshnessStep s)).lineDemand i := by
    rw [hstages]
    refine State.lineDemand_of_gangState (by simp) (by simp) (fun g => ?_) i
    exact (writeCeilings_gangState _ g).trans (State.gangState_congr (by simp) g)
  rw [hdemand, hstages, writeCeilings_lines, rewriteSlots_lines, State.updateLines_getElem?]
  simp

/-- The same for the whole processing: what follows the slots touches neither lines nor gangs (R15). -/
theorem processLocal_lines (h : s.refresh = none) (bytes : Frame) (i : Nat) :
    (processLocal bytes s).lines[i]? =
      s.lines[i]?.map fun l => l.follow ((processLocal bytes s).lineDemand i) := by
  have hstages := rewriteStages_lines (s := { s with lastCycle := u8 (framePayload bytes) 1, draws := s.draws + 1 }) h
    (slotsOf (framePayload bytes)) i
  have hdemand : (processLocal bytes s).lineDemand i =
      (rewriteStages (slotsOf (framePayload bytes))
        { s with lastCycle := u8 (framePayload bytes) 1, draws := s.draws + 1 }).1.lineDemand i :=
    State.lineDemand_congr (by simp) (by simp) (by simp [processLocal]) i
  rw [hdemand]
  simpa [processLocal] using hstages

/-- With a bank active and no swap waiting the frame is processed under that bank, whatever its origin (R162). -/
theorem processWaiting_of_present (w : WaitingFrame) (hb : s.bankPresent = true)
    (hp : s.pendingState ≠ .readyToSwap) : processWaiting w s = processLocal w.bytes s := by
  unfold processWaiting processController processSubstitute
  cases w.origin <;> simp [hb, hp]

/-- What processing a frame under the active bank leaves where nothing is due at its completion. -/
def State.processed (s : State) (bytes : Frame) : State := { processLocal bytes s with frameClass := none }

@[simp] theorem State.processed_bankPresent (s : State) (bytes : Frame) :
    (s.processed bytes).bankPresent = s.bankPresent := by simp [State.processed]

/-- Outside the refresh a frame leaves each line with the demand of the states it leaves (R103). -/
theorem State.processed_lines (h : s.refresh = none) (bytes : Frame) (i : Nat) :
    (s.processed bytes).lines[i]? = s.lines[i]?.map fun l => l.follow ((s.processed bytes).lineDemand i) := by
  have hdemand : (s.processed bytes).lineDemand i = (processLocal bytes s).lineDemand i :=
    State.lineDemand_congr (by simp [State.processed]) (by simp) (by simp [State.processed]) i
  rw [hdemand, ← processLocal_lines h]
  simp [State.processed]

theorem completeProcessing_processWaiting (w : WaitingFrame) (hb : s.bankPresent = true)
    (hp : s.pendingState ≠ .readyToSwap) (hd : s.due = []) :
    completeProcessing (processWaiting w s) = s.processed w.bytes := by
  have hdue : (processLocal w.bytes s).due = [] := by simpa using hd
  rw [processWaiting_of_present w hb hp, completeProcessing_of_nothing _ hdue, State.processed]

/-- The command processes the oldest waiting frame under the active bank (R162). -/
theorem exec_localSetpointProcessing {w : WaitingFrame} {rest : List WaitingFrame} (h : Processes s w rest) :
    exec .localSetpointProcessing s = finish s (State.processed { s with waiting := rest } w.bytes) := by
  obtain ⟨hw, hb, hp, hd⟩ := h
  show execLocalSetpointProcessing s = _
  simp only [execLocalSetpointProcessing, hw]
  rw [completeProcessing_processWaiting w]
  · exact hb
  · exact hp
  · exact hd

end WarningLines

/-- Settles O44: at a frame and at the end of every event alike a line follows the demand of its watched gangs. -/
theorem warningLineFollowsItsGangs : Obligations.WarningLineFollowsItsGangs := by
  unfold Obligations.WarningLineFollowsItsGangs
  intro inState shows takes
  constructor
  · intro s t w rest i l hs hrefresh he hl
    have ⟨_, hpresent, _⟩ := hs
    have hframe := State.processed_lines (s := { s with waiting := rest }) hrefresh w.bytes i
    rw [hl] at hframe
    obtain rfl : settle s _ = t := Host.Outcome.next.inj ((exec_localSetpointProcessing hs).symm.trans he)
    refine ⟨_, State.lineShows_lineDemand (by simpa using hpresent) i, ?_⟩
    rw [State.settle_lineDemand, settle_lines_of_followed _ hframe]
    exact l.takes_follow _
  · intro old new i l hl hb mask
    rw [settle_lines_getElem?, hl]
    refine ⟨fun hsame => ?_, fun hchanged => ?_⟩
    · have : ¬lineTouched old new i = true := fun ht => by
        obtain ⟨g, hg, hw, hne⟩ := (lineTouched_iff old new i).mp ht
        exact hne (hsame g hg hw)
      rw [Option.map_some, if_neg this]
    · rw [Option.map_some, if_pos ((lineTouched_iff old new i).mpr hchanged)]
      exact ⟨_, State.lineShows_lineDemand hb i, l.takes_follow _⟩

end Sys2Proof.Machine
end
